-- ==== Sys2Proof/Word.lean ====
section
/-! DEFINITION. The words, counters and time unit of the PVN-12 model. -/

namespace Sys2Proof

/-- One byte of a packet, a frame or the configuration memory (chapter 12). -/
abbrev Byte := BitVec 8

/-- An audio sample: a signed 16-bit value in two's complement (chapter 12, introduction). -/
abbrev Sample := BitVec 16

/-- A 16-bit sequence number, compared modulo 65,536 (R52); also a phase epoch and a block index. -/
abbrev Seq := BitVec 16

/-- A 16-bit event counter; it sticks at 65,535 (R194). -/
abbrev Counter := BitVec 16

/-- A seat-link port. The spec numbers ports 1..12; port n is `n - 1` here. -/
abbrev Port := Fin 12

/-- A feed channel. The spec numbers channels 1..8; channel n is `n - 1` here. -/
abbrev Chan := Fin 8

/-- A phase number: 0 DAY, 1 EVENING, 2 NIGHT, 3 DAWN (R131). -/
abbrev Phase := Fin 4

/-- Time, in periods of the node's 25 MHz crystal: 40 ns, which is also one byte time on the trunk (R196).
Every time the spec gives is a whole number of these. -/
abbrev Time := Nat

/-- A number of microseconds, as time. -/
def us (n : Nat) : Time := n * 25

/-- A number of milliseconds, as time. -/
def ms (n : Nat) : Time := n * 25000

/-- A number of seconds, as time. -/
def sec (n : Nat) : Time := n * 25000000

/-- The spec's number of a port, 1..12. -/
def portNumber (p : Port) : Nat := p.val + 1

/-- The spec's number of a feed channel, 1..8. -/
def chanNumber (c : Chan) : Nat := c.val + 1

end Sys2Proof
end

