-- ==== Sys2Proof/Syntax.lean ====
section
/-! DEFINITION. The records the PVN-12 sends and takes, and its commands: one constructor of `Instr` for each row of
spec/opcode_table.json. -/

namespace Sys2Proof

/-! ## Names -/

/-- Announcement class (chapter 5): priority 1 SERVICE, 2 STOP, 3 SAFETY, 4 EMERGENCY (R107). -/
inductive AnnClass where
  | service | stop | safety | emergency
deriving DecidableEq, Repr

/-- Attention state of a berth (R2). -/
inductive Attention where
  | awake | resting | dnd
deriving DecidableEq, Repr

/-- Screen state of a berth (R2). -/
inductive Screen where
  | off | dim | on
deriving DecidableEq, Repr

/-- Kind of a program (R42, R64). -/
inductive ProgramKind where
  | audio | audioVideo
deriving DecidableEq, Repr

/-- Status of a program as a CARRY record lists it (R78). -/
inductive CarryStatus where
  | carried | idle | refused
deriving DecidableEq, Repr

/-- State of a tap (R46). -/
inductive TapState where
  | waiting | priming | playing | starved
deriving DecidableEq, Repr

/-- State of a feed channel (R64, R71). -/
inductive ChanState where
  | unused | idle | carried | linger | refused | shadowed
deriving DecidableEq, Repr

/-- How a channel's trim is kept (R64). -/
inductive TrimMode where
  | manual | auto | oneShot
deriving DecidableEq, Repr

/-- Start-up state (chapter 10). -/
inductive StartState where
  | loading | listening | running | strapFault
deriving DecidableEq, Repr

/-- State of a seat link (R148). -/
inductive LinkState where
  | down | up | fault | locked
deriving DecidableEq, Repr

/-- State of a berth voice as the Mixer and the STATUS reply see it (R119). -/
inductive VoiceState where
  | idle | chime | speaking
deriving DecidableEq, Repr

/-- State of an entry of the node announcement table (R107). -/
inductive EntryState where
  | leadIn | speech
deriving DecidableEq, Repr

/-- A passenger request kind (R200 gives the codes). -/
inductive RequestKind where
  | select | volume | mute | language | dnd | stop | screen | brightness | skip
deriving DecidableEq, Repr

/-- The kinds of frame that a node sends to a berth unit (chapter 8, table of frames). -/
inductive FrameKind where
  | audio | video | cut | caption | screenLevel | answer | state | unitReset
deriving DecidableEq, Repr

/-- Why a passenger request is refused (R4). -/
inductive RefuseReason where
  | unknown | badValue | notAllowed | nothing
deriving DecidableEq, Repr

/-- The answer to a passenger request (R4). -/
inductive Answer where
  | accepted
  | refused (why : RefuseReason)
deriving DecidableEq, Repr

/-- Why a berth's announcement was DECLINED (R128). -/
inductive DeclineReason where
  | policy | unreachable | nodeFull | busy
deriving DecidableEq, Repr

/-- Why a berth's announcement was CUT (R128). -/
inductive CutReason where
  | preempted | evicted | aborted | linkLost
deriving DecidableEq, Repr

/-- The outcome of an announcement at one berth, with its reason where one applies (R128). -/
inductive BerthOutcome where
  | audio
  | caption
  | declined (why : DeclineReason)
  | cut (why : CutReason)
  | dismissed
  | missed
deriving DecidableEq, Repr

/-- End reason carried by an END packet (R101). -/
inductive EndReason where
  | normal | aborted | panelLost
deriving DecidableEq, Repr

/-- SHOW or CLEAR (R127). -/
inductive CardAction where
  | show | clear
deriving DecidableEq, Repr

/-- A yes/no field of a received PRESENCE record, which may hold neither (R174). -/
inductive YesNo where
  | yes | no | neither
deriving DecidableEq, Repr

/-- Request kinds of the panel port (section 5.1). -/
inductive PanelKind where
  | begin | audio | fin | abort | setPhase
deriving DecidableEq, Repr

/-- Why a panel request is refused (section 5.1). -/
inductive PanelReason where
  | busy | badTarget | badArgument | notEnabled
deriving DecidableEq, Repr

/-! ## Records -/

/-- One stereo sample frame, left before right. -/
structure StereoFrame where
  left  : Sample
  right : Sample
deriving DecidableEq, Repr

/-- An announcement id: origin station and sequence 0..255, coach-wide. -/
structure AnnId where
  origin   : Nat
  sequence : BitVec 8
deriving DecidableEq, Repr

/-- The descriptor every ANNOUNCE packet of an announcement carries (R101, R197). -/
structure Descriptor where
  id       : AnnId
  cls      : AnnClass
  first    : Nat
  last     : Nat
  stop     : Nat
  language : Nat
  caption  : Nat
deriving DecidableEq, Repr

/-- What an ANNOUNCE packet carries beside the descriptor, by its phase (R101). -/
inductive AnnTail where
  | leadIn
  | speech (index : Seq) (samples : List Sample)
  | hold
  | fin (reason : EndReason)
deriving DecidableEq, Repr

/-- One item of an ACK record (R128). -/
structure AckItem where
  berth   : Nat
  outcome : BerthOutcome
deriving DecidableEq, Repr

/-- One count per outcome (R91, R128). -/
structure Totals where
  audio     : Nat
  caption   : Nat
  declined  : Nat
  cut       : Nat
  dismissed : Nat
  missed    : Nat
deriving DecidableEq, Repr

/-- One entry of a CARRY record (R79). It holds the defined kinds and statuses alone: chapter 12 gives them no codes and
chapter 3 no rule for an undefined one, and whatever code a received entry carries is read as a defined one (DESIGN CHOICE,
log 5). -/
structure CarryEntry where
  program : Nat
  kind    : ProgramKind
  status  : CarryStatus
deriving DecidableEq, Repr

/-- A PRESENCE record (R173). -/
structure Presence where
  first    : Nat
  last     : Nat
  berthsUp : Nat
  epoch    : Seq
  feeds    : YesNo
  panel    : YesNo
deriving DecidableEq, Repr

/-- The phase state of a node (R131). -/
structure PhaseState where
  epoch  : Seq
  phase  : Phase
  setter : Nat
deriving DecidableEq, Repr

/-- Result of a collection (R103). -/
inductive Result where
  | delivered | missing | superseded
deriving DecidableEq, Repr

/-- The ack table's single entry (R91). `closed` is its phase: false OPEN, true CLOSED. -/
structure AckTable where
  id        : AnnId
  cls       : AnnClass
  first     : Nat
  last      : Nat
  closed    : Bool
  expected  : List Nat
  acked     : List Nat
  failed    : List Nat
  totals    : Totals
  windowEnd : Option Time
  result    : Option Result
  missing   : List Nat
deriving DecidableEq, Repr

/-- Service request kinds (section 10.6). -/
inductive ServiceKind where
  | status | counters | clearCounters | restart | oneShot | berthReset
  | other (code : Nat)
deriving DecidableEq, Repr

/-- Result of a service request (section 10.6). -/
inductive ServiceResult where
  | accepted | notFed | badPort | unknown
deriving DecidableEq, Repr

/-- One feed channel of the STATUS payload (R193). -/
structure ChannelStatus where
  program : Nat
  state   : ChanState
  trim    : Int
  mode    : TrimMode
  demand  : Nat
deriving DecidableEq, Repr

/-- One tap of the STATUS payload (R193, R62). -/
structure TapStatus where
  program : Nat
  source  : Option Nat
  state   : TapState
  fill    : Nat
  status  : Option CarryStatus
deriving DecidableEq, Repr

/-- One berth of the STATUS payload (R193, R129). -/
structure BerthStatus where
  berth     : Nat
  link      : LinkState
  attention : Attention
  screen    : Screen
  program   : Nat
  voice     : VoiceState
  current   : Option (AnnId × AnnClass)
  pending   : List AnnId
deriving DecidableEq, Repr

/-- One peer of the STATUS payload (R193, R174); the age is in milliseconds. -/
structure PeerStatus where
  station  : Nat
  age      : Nat
  range    : Option (Nat × Nat)
  berthsUp : Option Nat
  epoch    : Option Seq
  feeds    : Option Bool
  panel    : Option Bool
deriving DecidableEq, Repr

/-- The STATUS payload (R193). -/
structure StatusReport where
  state          : StartState
  station        : Nat
  seconds        : Nat
  defaulted      : Bool
  adjusted       : Bool
  panel          : Bool
  feeds          : Bool
  backedOff      : Bool
  restartPending : Bool
  phase          : PhaseState
  channels       : List ChannelStatus
  taps           : List TapStatus
  berths         : List BerthStatus
  announcements  : List (AnnId × EntryState)
  outcome        : Option AckTable
  peers          : List PeerStatus
deriving DecidableEq, Repr

/-- The COUNTERS payload (R194): 32 node counters and ten for each port, in the order of R194. -/
structure CounterReport where
  seconds : Nat
  upTimes : List Nat
  node    : List Counter
  links   : List (List Counter)
deriving DecidableEq, Repr

/-- The payload of a SERVICE_REPLY (section 10.6). -/
inductive Payload where
  | none | started | held
  | status (r : StatusReport)
  | counters (r : CounterReport)
deriving DecidableEq, Repr

/-- The body of a trunk packet, by its kind (R164, chapter 12). -/
inductive Body where
  | programAudio (program : Nat) (trim : Int) (sequence : Seq) (frames : List StereoFrame)
  | programVideo (program : Nat) (sequence : Seq) (payload : List Byte)
  | carry (entries : List CarryEntry)
  | want (programs : List Nat)
  | announce (d : Descriptor) (tail : AnnTail)
  | ack (id : AnnId) (counts : Totals) (items : List AckItem)
  | phase (epoch : Seq) (phase : Nat) (setter : Nat)
  | presence (r : Presence)
  | serviceRequest (target : Nat) (kind : ServiceKind) (argument : Nat)
  | serviceReply (kind : ServiceKind) (result : ServiceResult) (payload : Payload)
deriving DecidableEq, Repr

/-- A trunk packet: its source station and its body. -/
structure Packet where
  source : Nat
  body   : Body
deriving DecidableEq, Repr

/-- Why a seat link frame is discarded as a receive error (R146). -/
inductive FrameError where
  | badCheck | unknownKind
deriving DecidableEq, Repr

/-- A passenger request as the Berth Controller takes it (R6 to R10, R15, R16, R200). -/
inductive PassengerRequest where
  | select (program : Nat)
  | volume (level : Nat)
  | mute (on : Bool)
  | language (value : Nat)
  | dnd (on : Bool)
  | stop (value : Nat) (wake : Bool)
  | screen (on : Bool)
  | brightness (level : Nat)
  | skip
deriving DecidableEq, Repr

/-! ## The commands -/

/-- The commands of the PVN-12: one constructor for each row of spec/opcode_table.json, in the table's order. The
operands are what the spec says the event brings with it. -/
inductive Instr where
  /-- POWER_ON (R180), with the level of the strap pins STN0..STN4. -/
  | powerOn (straps : BitVec 5)
  /-- RESET_N_LOW (R180). -/
  | resetNLow
  /-- RESET_N_HIGH (R179), with the level of the strap pins. -/
  | resetNHigh (straps : BitVec 5)
  /-- CONFIGURATION_LOAD_END (R181), with the bytes read from the configuration memory. -/
  | configurationLoadEnd (image : List Byte)
  /-- LOAD_TIMEOUT (R181). -/
  | loadTimeout
  /-- LISTENING_END (R187). -/
  | listeningEnd
  /-- SOFT_RESTART (R188). -/
  | softRestart
  /-- RESTART_PENDING_TIMEOUT (R191). -/
  | restartPendingTimeout
  /-- SERVICE_STATUS (R193): a SERVICE_REQUEST of kind STATUS. -/
  | serviceStatus (source target : Nat)
  /-- SERVICE_COUNTERS (R194). -/
  | serviceCounters (source target : Nat)
  /-- CLEAR_COUNTERS (R190). -/
  | clearCounters (source target : Nat)
  /-- RESTART (R191). -/
  | restart (source target : Nat)
  /-- ONE_SHOT (R85, R192), with the program it names. -/
  | oneShot (source target program : Nat)
  /-- BERTH_RESET (R155, R192), with the port number it names. -/
  | berthReset (source target port : Nat)
  /-- SERVICE_REQUEST_UNKNOWN (R189), with the undefined kind. -/
  | serviceRequestUnknown (source target code : Nat)
  /-- SERVICE_REPLY_RECEIVED (R172). -/
  | serviceReplyReceived (source : Nat)
  /-- TRUNK_PACKET_DISCARDED (R171, R198): the bytes received after the start pattern. -/
  | trunkPacketDiscarded (carrier : List Byte)
  /-- PROGRAM_AUDIO (R54). -/
  | programAudio (source program : Nat) (trim : Int) (sequence : Seq) (frames : List StereoFrame)
  /-- PROGRAM_VIDEO (R60). -/
  | programVideo (source program : Nat) (sequence : Seq) (payload : List Byte)
  /-- CARRY (R43, R81). -/
  | carry (source : Nat) (entries : List CarryEntry)
  /-- WANT (R72). -/
  | want (source : Nat) (programs : List Nat)
  /-- ANNOUNCE_LEAD_IN (R108). -/
  | announceLeadIn (source : Nat) (d : Descriptor)
  /-- ANNOUNCE_HOLD (R108). -/
  | announceHold (source : Nat) (d : Descriptor)
  /-- ANNOUNCE_SPEECH (R108, R110). -/
  | announceSpeech (source : Nat) (d : Descriptor) (index : Seq) (samples : List Sample)
  /-- ANNOUNCE_END (R126). -/
  | announceEnd (source : Nat) (d : Descriptor) (reason : EndReason)
  /-- ACK (R102). -/
  | ack (source : Nat) (id : AnnId) (counts : Totals) (items : List AckItem)
  /-- PHASE (R133). -/
  | phase (source : Nat) (epoch : Seq) (phase : Nat) (setter : Nat)
  /-- PRESENCE (R174). -/
  | presence (source : Nat) (r : Presence)
  /-- CARRIER_DEFER (R168): carrier of the given duration begins now. -/
  | carrierDefer (duration : Nat)
  /-- ATTEMPT_START (R168). -/
  | attemptStart
  /-- COLLISION (R168). -/
  | collision
  /-- PACKET_SENT (R169). -/
  | packetSent
  /-- STALE (R166). -/
  | stale
  /-- BACKED_OFF_END (R170). -/
  | backedOffEnd
  /-- PRESENCE_PERIOD (R173). -/
  | presencePeriod
  /-- PEER_EXPIRY (R175), of the entry of one station. -/
  | peerExpiry (station : Nat)
  /-- CATALOGUE_EXPIRY (R44), of the entry of one program. -/
  | catalogueExpiry (program : Nat)
  /-- WANT_PERIOD (R51). -/
  | wantPeriod
  /-- STARVED_TIMEOUT (R57), of the tap of one program. -/
  | starvedTimeout (program : Nat)
  /-- BLOCK_EVENT (R24). -/
  | blockEvent
  /-- FEED_EVENT (R65, R67). -/
  | feedEvent
  /-- LEVEL_WINDOW_END (R84), of one channel. -/
  | levelWindowEnd (channel : Chan)
  /-- AUDIO_DELIVERY (R66): frames arriving for the channel index named. `begins` says that they open a new delivery (else
  they go on with the one in progress); a check word says that the delivery ends with them. -/
  | audioDelivery (channel : Nat) (begins : Bool) (frames : List StereoFrame) (check : Option (BitVec 16))
  /-- VIDEO_DELIVERY (R68). -/
  | videoDelivery (channel : Nat) (payload : List Byte)
  /-- DEMAND_EXPIRY (R73), of one station in one channel's demand set. -/
  | demandExpiry (channel : Chan) (station : Nat)
  /-- LINGER_END (R77). -/
  | lingerEnd (channel : Chan)
  /-- SHADOW_END (R82). -/
  | shadowEnd (channel : Chan)
  /-- CARRY_PERIOD (R80). -/
  | carryPeriod
  /-- ENTRY_LOST (R112), of the entry of one id. -/
  | entryLost (id : AnnId)
  /-- PENDING_WAIT_LIMIT (R120), of one id in one port's pending list. -/
  | pendingWaitLimit (port : Port) (id : AnnId)
  /-- SELECT (R6). -/
  | select (port : Port) (program : Nat)
  /-- VOLUME (R7). -/
  | volume (port : Port) (level : Nat)
  /-- MUTE (R7). -/
  | mute (port : Port) (on : Bool)
  /-- LANGUAGE (R8). -/
  | language (port : Port) (value : Nat)
  /-- STOP (R8). -/
  | stop (port : Port) (value : Nat) (wake : Bool)
  /-- DND (R9). -/
  | dnd (port : Port) (on : Bool)
  /-- SCREEN (R15). -/
  | screen (port : Port) (on : Bool)
  /-- BRIGHTNESS (R16). -/
  | brightness (port : Port) (level : Nat)
  /-- SKIP (R123). -/
  | skip (port : Port)
  /-- INACTIVITY_EXPIRY (R12). -/
  | inactivityExpiry (port : Port)
  /-- STATUS (R149): a STATUS frame that passes the frame check. -/
  | status (port : Port) (headset ready : Bool)
  /-- GOOD_COUNT_TIMEOUT (R149). -/
  | goodCountTimeout (port : Port)
  /-- STATUS_WATCH_EXPIRY (R150). -/
  | statusWatchExpiry (port : Port)
  /-- REQUEST (R146, R199, R200): the bytes of the frame, its check among them. -/
  | request (port : Port) (frame : List Byte)
  /-- HOLD_FRAME (R152). -/
  | holdFrame (port : Port)
  /-- RESUME (R152). -/
  | resume (port : Port)
  /-- CAPTION_ACK (R159). -/
  | captionAck (port : Port) (caption : Nat) (action : CardAction)
  /-- SEAT_FRAME_ERROR (R146). -/
  | seatFrameError (port : Port) (cause : FrameError)
  /-- LINK_FAULT (R153). -/
  | linkFault (port : Port)
  /-- HOLD_OFF_END (R153, R155). -/
  | holdOffEnd (port : Port)
  /-- CAPTION_ACK_TIMEOUT (R159). -/
  | captionAckTimeout (port : Port)
  /-- LINK_FRAME_SENT (R147). -/
  | linkFrameSent (port : Port)
  /-- BEGIN (R92). The class is the code of chapter 12 (1 SERVICE .. 4 EMERGENCY); any other is undefined. -/
  | beginAnn (cls first last stop language caption : Nat)
  /-- PANEL_AUDIO (R98). -/
  | panelAudio (samples : List Sample)
  /-- PANEL_END (R100). -/
  | panelEnd
  /-- ABORT (R100). -/
  | abort
  /-- SET_PHASE (R90, R134). -/
  | setPhase (phase : Nat)
  /-- PANEL_FRAME_ERROR (R88). -/
  | panelFrameError
  /-- LEAD_IN_EVENT (R95). -/
  | leadInEvent
  /-- LEAD_IN_COMPLETE (R95). -/
  | leadInComplete
  /-- HOLD_TIMER (R99). -/
  | holdTimer
  /-- PANEL_LOST (R99). -/
  | panelLost
  /-- WINDOW_END (R103). -/
  | windowEnd
  /-- PHASE_PERIOD (R132). -/
  | phasePeriod
deriving DecidableEq, Repr

end Sys2Proof
end

