-- ==== Sys2Proof/Config.lean ====
section
/-! DEFINITION. What an implementation fixes and the spec leaves open: free values, with no body. -/

namespace Sys2Proof.Config

/-- Free value (log 3): which of several events that fall together is taken first. The argument counts the choices
made; the caller takes it modulo the number of events that wait. -/
opaque pick : Nat → Nat

/-- Free value (log 4): the number the trunk generator draws (R168), for a generator seeded from a station number, at
its nth draw; the caller takes it modulo the width of the draw. -/
opaque backoffDraw : Nat → Nat → Nat

/-- Free value (log 5): what a field of a received trunk packet holds, of a kind that chapter 12 does not lay out, from its
kind code, the field's place in the record and the bytes between header and CRC. The reader narrows it to the field. -/
opaque readField : Nat → Nat → List Byte → Nat

/-- Free value (log 5): the fewest bytes between header and CRC that hold the fields of a kind code (R198). The reader holds it
between what the fields need at least and what a packet holds. -/
opaque leastLength : Nat → Nat

/-- Free value (log 5): how many bytes the body of a trunk packet takes that this node sends of a kind chapter 12 does not lay
out. The caller holds it between the least that the fields need and the most that a packet holds. -/
opaque bodyLength : Body → Nat

/-- Free value (log 5): each byte of such a body. -/
opaque bodyByte : Body → Nat → Byte

/-- Free value (log 42): the frame kind byte that opens a seat link frame of each kind that the node sends (R199). -/
opaque frameKind : FrameKind → Byte

/-- Free value (log 42): how many bytes the body of such a frame takes, by its kind and its fields. The caller holds it at no
less than the fields need. -/
opaque frameLength : FrameKind → List Nat → Nat

/-- Free value (log 42): each byte of such a body. -/
opaque frameByte : FrameKind → List Nat → Nat → Byte

/-- Free value (log 42): which byte of an ANSWER body holds the code of the request kind (R200); the caller takes it modulo the
number of its bytes. -/
opaque answerPlace : Nat

/-- Free value (log 6): whether a feed-port delivery that ends with fewer than 48 frames and a matching check word is
found as a frame error (R66 names no condition for it). The argument is the number of frames it carried. -/
opaque shortDeliveryIsError : Nat → Bool

end Sys2Proof.Config
end

