-- ==== Sys2Proof/Machine/Image.lean ====
section
/-! DEFINITION. The configuration image (chapters 7, 10 and 12): its fields, their defaults and the load of R181 to
R183, R138 and R201. -/

namespace Sys2Proof.Machine

/-- One profile (R137). -/
structure Profile where
  floor          : Nat
  depth          : Nat
  ramp           : Nat
  dimBank        : Nat
  serviceDecline : Bool
  safetyCaption  : Bool
deriving DecidableEq, Repr

/-- The configured fields of one feed channel (R64); program 0 is UNUSED. -/
structure ChannelConfig where
  program     : Nat
  kind        : ProgramKind
  mode        : TrimMode
  trimMin     : Int
  trimMax     : Int
  initialTrim : Int
deriving DecidableEq, Repr

/-- The configuration image as loaded (R182). `dimBanks` holds 4 banks of 16 levels and `chimes` 4 patterns of 64
samples. -/
structure Image where
  berthBase    : Nat
  berthCount   : Nat
  carryBudget  : Nat
  panel        : Bool
  startPhase   : Phase
  emergency    : Nat
  depth        : Nat
  channels     : Vector ChannelConfig 8
  profiles     : Vector Profile 4
  dimBanks     : List (List Byte)
  chimes       : List (List Sample)
deriving DecidableEq, Repr

/-! ## Defaults -/

/-- The default profiles (R137). -/
def defaultProfile (p : Phase) : Profile :=
  match p with
  | 0 => { floor := 0,  depth := 24, ramp := 4, dimBank := 0, serviceDecline := false, safetyCaption := false }
  | 1 => { floor := 12, depth := 30, ramp := 3, dimBank := 1, serviceDecline := false, safetyCaption := false }
  | 2 => { floor := 30, depth := 40, ramp := 2, dimBank := 2, serviceDecline := true,  safetyCaption := true }
  | 3 => { floor := 20, depth := 30, ramp := 2, dimBank := 1, serviceDecline := false, safetyCaption := false }

/-- The default dim banks: floor(17 × b / (k + 1)) (R17, R141). -/
def defaultDimBanks : List (List Byte) :=
  (List.range 4).map fun k => (List.range 16).map fun b => BitVec.ofNat 8 (17 * b / (k + 1))

/-- The default chime patterns: square tones of half-period 32, 16, 8 and 4 samples (R32). -/
def defaultChimes : List (List Sample) :=
  [32, 16, 8, 4].map fun h =>
    (List.range 64).map fun j => if j / h % 2 = 0 then BitVec.ofInt 16 8192 else BitVec.ofInt 16 (-8192)

/-- An UNUSED channel's configuration: program 0; its other fields are not read (R183). -/
def unusedChannel : ChannelConfig :=
  { program := 0, kind := .audio, mode := .manual, trimMin := 0, trimMax := 0, initialTrim := 0 }

/-- The image of a bad checksum or a load timeout: every field at its default (R181, R182). -/
def defaultImage : Image :=
  { berthBase := 0, berthCount := 12, carryBudget := 4, panel := false, startPhase := 0, emergency := 12, depth := 8,
    channels := Vector.replicate 8 unusedChannel,
    profiles := Vector.ofFn defaultProfile,
    dimBanks := defaultDimBanks, chimes := defaultChimes }

/-! ## Reading the image's bytes (R201) -/

/-- The byte at an offset of the image. -/
def byteAt (bytes : List Byte) (i : Nat) : Nat := ((bytes[i]?).getD 0#8).toNat

/-- The signed byte at an offset. -/
def signedAt (bytes : List Byte) (i : Nat) : Int := ((bytes[i]?).getD 0#8).toInt

/-- The 16-bit word at an offset, most significant byte first. -/
def wordAt (bytes : List Byte) (i : Nat) : Nat := byteAt bytes i * 256 + byteAt bytes (i + 1)

/-- The length of the image in bytes (R201). -/
def imageLength : Nat := 658

/-- The sum of the 328 words before the checksum word, modulo 65,536 (R181). -/
def imageSum (bytes : List Byte) : Nat :=
  ((List.range 328).foldl (fun a i => a + wordAt bytes (2 * i)) 0) % 65536

/-- The checksum test of R181. -/
def checksumGood (bytes : List Byte) : Bool := imageSum bytes == wordAt bytes 656

/-! ## Loading one field: its value, and whether the load changed it (R182) -/

/-- A field that loads as `top` when above it. -/
def loadUpTo (top v : Nat) : Nat × Bool := if v ≤ top then (v, false) else (top, true)

/-- A two-valued code: 0 is false, 1 is true, any other loads as `dflt`. -/
def loadCode (dflt : Bool) (v : Nat) : Bool × Bool :=
  match v with
  | 0 => (false, false)
  | 1 => (true, false)
  | _ => (dflt, true)

/-- The start phase: above 3 loads as 0 DAY (R138). -/
def loadPhase (v : Nat) : Phase × Bool := if h : v < 4 then (⟨v, h⟩, false) else (0, true)

/-- The playout depth: other than 4, 8 or 16 loads as 8 (R46, R182). -/
def loadDepth (v : Nat) : Nat × Bool := if v = 4 ∨ v = 8 ∨ v = 16 then (v, false) else (8, true)

/-- The ramp of a profile: 0 loads as 1, above 8 as 8 (R138). -/
def loadRamp (v : Nat) : Nat × Bool := if v = 0 then (1, true) else loadUpTo 8 v

/-- One profile, each field on its own (R138). -/
def loadProfile (bytes : List Byte) (p : Phase) : Profile × Bool :=
  let o := 56 + 6 * p.val
  let d := defaultProfile p
  let (fl, a) := loadUpTo 40 (byteAt bytes o)
  let (dp, b) := loadUpTo 60 (byteAt bytes (o + 1))
  let (rp, c) := loadRamp (byteAt bytes (o + 2))
  let bk := byteAt bytes (o + 3)
  let (sv, f) := loadCode d.serviceDecline (byteAt bytes (o + 4))
  let (sf, g) := loadCode d.safetyCaption (byteAt bytes (o + 5))
  ({ floor := fl, depth := dp, ramp := rp, dimBank := if bk ≤ 3 then bk else d.dimBank,
     serviceDecline := sv, safetyCaption := sf },
   a || b || c || decide (3 < bk) || f || g)

/-- Clamp to −12..+12. -/
def clampTrim (v : Int) : Int := max (-12) (min 12 v)

/-- The kind code of a channel: undefined loads as AUDIO (R183). -/
def loadKind (v : Nat) : ProgramKind × Bool :=
  match v with
  | 0 => (.audio, false)
  | 1 => (.audioVideo, false)
  | _ => (.audio, true)

/-- The trim mode code of a channel: undefined loads as MANUAL (R183). -/
def loadMode (v : Nat) : TrimMode × Bool :=
  match v with
  | 0 => (.manual, false)
  | 1 => (.auto, false)
  | 2 => (.oneShot, false)
  | _ => (.manual, true)

/-- The trim fields of a channel: each clamped to −12..+12, the bounds exchanged when crossed, then the initial trim
clamped to them (R183 step 4). Answers minimum, maximum, initial trim. -/
def loadTrims (lo hi ini : Int) : Int × Int × Int :=
  let lo' := clampTrim lo
  let hi' := clampTrim hi
  let mn := min lo' hi'
  let mx := max lo' hi'
  (mn, mx, max mn (min mx (clampTrim ini)))

/-- One feed channel record, given the programs already loaded for lower channels (R183). -/
def loadChannel (bytes : List Byte) (taken : List Nat) (c : Chan) : ChannelConfig × Bool :=
  let o := 8 + 6 * c.val
  let prog := byteAt bytes o
  if prog = 0 then (unusedChannel, false)
  else if 63 < prog ∨ prog ∈ taken then (unusedChannel, true)
  else
    let (kd, a) := loadKind (byteAt bytes (o + 1))
    let (md, b) := loadMode (byteAt bytes (o + 2))
    let lo := signedAt bytes (o + 3)
    let hi := signedAt bytes (o + 4)
    let ini := signedAt bytes (o + 5)
    let (mn, mx, it) := loadTrims lo hi ini
    ({ program := prog, kind := kd, mode := md, trimMin := mn, trimMax := mx, initialTrim := it },
     a || b || decide (mn ≠ lo) || decide (mx ≠ hi) || decide (it ≠ ini))

/-- The eight feed channel records, in channel order (R183). -/
def loadChannels (bytes : List Byte) : Vector ChannelConfig 8 × Bool :=
  (List.finRange 8).foldl
    (fun (acc : Vector ChannelConfig 8 × Bool) c =>
      let taken := ((List.finRange 8).filter (fun d => d < c)).map fun d => acc.1[d].program
      let (cfg, adj) := loadChannel bytes taken c
      (acc.1.set c cfg, acc.2 || adj))
    (Vector.replicate 8 unusedChannel, false)

/-- The image that a good checksum loads, and whether any field was adjusted (R182, R183, R138, R201). -/
def loadGoodImage (bytes : List Byte) : Image × Bool :=
  let (bb, a1) := loadUpTo 228 (byteAt bytes 0)
  let (bc, a2) := loadUpTo 12 (byteAt bytes 1)
  let (cb, a3) := loadUpTo 8 (byteAt bytes 2)
  let (pe, a4) := loadCode false (byteAt bytes 3)
  let (sp, a5) := loadPhase (byteAt bytes 4)
  let (em, a6) := loadUpTo 40 (byteAt bytes 5)
  let (de, a7) := loadDepth (wordAt bytes 6)
  let (ch, a8) := loadChannels bytes
  let profile := loadProfile bytes
  ({ berthBase := bb, berthCount := bc, carryBudget := cb, panel := pe, startPhase := sp, emergency := em, depth := de,
     channels := ch,
     profiles := Vector.ofFn fun p => (profile p).1,
     dimBanks := (List.range 4).map fun k => (List.range 16).map fun b => BitVec.ofNat 8 (byteAt bytes (80 + 16 * k + b)),
     chimes := (List.range 4).map fun p => (List.range 64).map fun j => BitVec.ofNat 16 (wordAt bytes (144 + 128 * p + 2 * j)) },
   a1 || a2 || a3 || a4 || a5 || a6 || a7 || a8 || (List.finRange 4).any fun p => (profile p).2)

/-- The entry of a dim bank (R17, R141). -/
def Image.level (im : Image) (bank brightness : Nat) : Nat :=
  ((((im.dimBanks[bank]?).getD [])[brightness]?).getD 0#8).toNat

/-- A sample of a chime pattern (R31, R32). -/
def Image.chimeSample (im : Image) (pattern j : Nat) : Sample :=
  (((im.chimes[pattern]?).getD [])[j]?).getD 0#16

/-- The channel that feeds a program, if any (R183 leaves at most one). -/
def Image.feeder (im : Image) (program : Nat) : Option Chan :=
  if program = 0 then none else (List.finRange 8).find? fun c => im.channels[c].program == program

end Sys2Proof.Machine
end

