-- ==== Sys2Proof/Machine/State.lean ====
section
/-! DEFINITION. The state of a PVN-12, block by block, as plain data; its reset value; the reasons a step can stop. -/

namespace Sys2Proof.Machine

/-! ## Why a step can stop -/

/-- Faults. The spec names no event that stops the node, so no step of the model answers one. -/
inductive Fault where
  /-- Raised by nobody. It would say that the node stopped; the spec describes no such stop. Safe: no claim rests on it. -/
  | stopped
deriving DecidableEq, Repr

/-- Refusals. -/
inductive Refusal where
  /-- Raised by `exec` for a command that has no meaning yet, with the mnemonic of its row. Safe: the model stops. -/
  | notModelled (mnemonic : String)
deriving DecidableEq, Repr

/-! ## The Berth Controller (chapter 1) -/

/-- The inactivity timer (R2, R11): counting since a time, or held at a value (in units of `Time`). -/
inductive Inactivity where
  | counting (since : Time)
  | held (value : Time)
deriving DecidableEq, Repr

/-- A berth record (R2). -/
structure Berth where
  program    : Nat
  volume     : Nat
  mute       : Bool
  language   : Nat
  stop       : Nat
  stopWake   : Bool
  attention  : Attention
  timer      : Inactivity
  screen     : Screen
  brightness : Nat
  headset    : Bool
  hold       : Bool
  reported   : Option Nat
deriving DecidableEq, Repr

/-- The Berth Controller: the Berth Table and the two counters of R23. -/
structure BerthCtl where
  records  : Vector Berth 12
  requests : Counter
  refusals : Counter
deriving DecidableEq, Repr

/-! ## The Mixer (chapter 2) -/

/-- The Mixer's own state for one berth: duck level and chime id and position (R33, R31). -/
structure Mix where
  duck     : Nat
  chimeId  : Option AnnId
  chimePos : Nat
deriving DecidableEq, Repr

/-- The Mixer: its berths, the clip counter (R39) and its audio clock's next block event (none: the clock is stopped, R24). -/
structure Mixer where
  berths    : Vector Mix 12
  clip      : Counter
  nextBlock : Option Time
deriving DecidableEq, Repr

/-! ## The Tap Controller (chapter 3) -/

/-- A catalogue entry (R42); the age is counted from `listed`. -/
structure CatEntry where
  program : Nat
  source  : Nat
  kind    : ProgramKind
  status  : CarryStatus
  listed  : Time
deriving DecidableEq, Repr

/-- A packet in a playout queue (R46). -/
structure AudioPacket where
  sequence : Seq
  trim     : Int
  frames   : List StereoFrame
deriving DecidableEq, Repr

/-- A tap (R46). -/
structure Tap where
  program  : Nat
  source   : Option Nat
  state    : TapState
  expected : Option Seq
  queue    : List AudioPacket
  lastKept : Time
deriving DecidableEq, Repr

/-- The Tap Controller: catalogue and taps in ascending program order, the WANT period, the seven counters of R62. -/
structure TapCtl where
  catalogue : List CatEntry
  taps      : List Tap
  wantDue   : Option Time
  late      : Counter
  duplicate : Counter
  resync    : Counter
  slip      : Counter
  gap       : Counter
  starve    : Counter
  foreign   : Counter
deriving DecidableEq, Repr

/-! ## The Carry Controller (chapter 4) -/

/-- A filling buffer between two feed events (R66). `ended` is incomplete: a delivery has ended in this period with fewer
than 48 frames and was no frame error (log 6). -/
inductive Filling where
  | empty
  | inProgress (frames : List StereoFrame)
  | complete (frames : List StereoFrame)
  | ended
  | frameError
deriving DecidableEq, Repr

/-- A level window: blocks counted and peak (R83). -/
structure LevelWindow where
  count : Nat
  peak  : Nat
deriving DecidableEq, Repr

/-- The running state of a feed channel (R64). The demand set pairs each station with its expiry. -/
structure Channel where
  state     : ChanState
  filling   : Filling
  ready     : Option (List StereoFrame)
  audioSeq  : Seq
  videoSeq  : Seq
  trim      : Int
  mode      : TrimMode
  demand    : List (Nat × Time)
  lingerEnd : Option Time
  shadowEnd : Option Time
  window    : Option LevelWindow
deriving DecidableEq, Repr

/-- The Carry Controller: its channels, the CARRY period, the feed clock's next event (none: stopped), the number of
FEED_SYNC marks raised (R65), the two counters of R86. -/
structure CarryCtl where
  channels  : Vector Channel 8
  carryDue  : Option Time
  nextFeed  : Option Time
  feedSyncs : Nat
  underrun  : Counter
  feedError : Counter
deriving DecidableEq, Repr

/-! ## The Announcement Originator (chapter 5) -/

/-- State of the Originator (R91). -/
inductive OrigState where
  | idle | leadIn | speech | collecting
deriving DecidableEq, Repr

/-- The next block index: a number, or spent once block 65535 has been sent (R91). -/
inductive NextBlock where
  | index (i : Seq)
  | spent
deriving DecidableEq, Repr

/-- A notice to the console (section 5.1). -/
inductive Notice where
  | accepted (kind : PanelKind)
  | refused (kind : PanelKind) (why : PanelReason)
  | onAir (id : AnnId)
  | outcome (id : AnnId) (result : Result) (totals : Totals) (missing : List Nat)
deriving DecidableEq, Repr

/-- The Announcement Originator (R91), its counters (R105), and the notices handed to the console so far, oldest first. -/
structure Originator where
  state     : OrigState
  sequence  : BitVec 8
  desc      : Option Descriptor
  accepted  : Time
  leadIns   : Nat
  nextBlock : NextBlock
  lastAudio : Time
  nextHold  : Option Time
  ackTable  : Option AckTable
  discard   : Counter
  error     : Counter
  notices   : List Notice
deriving DecidableEq, Repr

/-! ## The Voice Arbiter (chapter 6) -/

/-- Role of a berth record of an entry (R107). -/
inductive Role where
  | pending
  | inService
  | fixed (outcome : BerthOutcome)
deriving DecidableEq, Repr

/-- A berth record of an entry (R107). The time since which it is PENDING stands in the berth's pending list. -/
structure BerthRec where
  port  : Port
  berth : Nat
  role  : Role
  card  : Bool
deriving DecidableEq, Repr

/-- A queued SPEECH block (R107). -/
structure SpeechBlock where
  index   : Seq
  samples : List Sample
deriving DecidableEq, Repr

/-- Playout of an entry: not started, or started with the position it has reached (R111). -/
inductive Playout where
  | notStarted
  | started (position : Nat)
deriving DecidableEq, Repr

/-- An entry of the node announcement table (R107). -/
structure Entry where
  desc       : Descriptor
  state      : EntryState
  queue      : List SpeechBlock
  playout    : Playout
  lastPacket : Time
  recs       : List BerthRec
deriving DecidableEq, Repr

/-- What a berth voice serves (R119): its state and its current announcement in one. -/
inductive Serving where
  | idle
  | chime (id : AnnId)
  | speaking (id : AnnId)
deriving DecidableEq, Repr

/-- A berth voice (R119). The pending list pairs each id with the time it joined. -/
structure Voice where
  serving : Serving
  pending : List (AnnId × Time)
deriving DecidableEq, Repr

/-- The Voice Arbiter: announcement table in creation order, closed-id list oldest first, berth voices, and the five
counters of R129. -/
structure VoiceArb where
  table    : List Entry
  closed   : List AnnId
  voices   : Vector Voice 12
  late     : Counter
  overflow : Counter
  lost     : Counter
  eviction : Counter
  nodeFull : Counter
deriving DecidableEq, Repr

/-! ## The Phase Controller (chapter 7) -/

/-- The Phase Controller: phase state (R131), PHASE period (R132), the two counters of R143. The profiles, dim banks
and start phase stand in the image (R182). -/
structure PhaseCtl where
  own        : PhaseState
  phaseDue   : Option Time
  adoption   : Counter
  phaseError : Counter
deriving DecidableEq, Repr

/-! ## The Seat Link Controller (chapter 8) -/

/-- A video chunk (R156). -/
structure Chunk where
  sequence : Seq
  payload  : List Byte
deriving DecidableEq, Repr

/-- A caption card (R158). -/
structure Card where
  caption  : Nat
  language : Nat
  cls      : AnnClass
  action   : CardAction
deriving DecidableEq, Repr

/-- The content of a STATE frame (R3). -/
structure BerthSnapshot where
  program    : Nat
  volume     : Nat
  mute       : Bool
  language   : Nat
  stop       : Nat
  stopWake   : Bool
  attention  : Attention
  screen     : Screen
  brightness : Nat
  berth      : Nat
deriving DecidableEq, Repr

/-- A frame to a berth unit that occupies the transmitter (chapter 8, table of frames). A CAPTION frame carries, for the
model alone, the serial number of the card it was handed for. A CUT frame takes no time here: it is counted in
`Link.cuts` (log 8). -/
inductive SeatFrame where
  | audio (info : BitVec 16) (frames : List StereoFrame)
  | video (chunk : Chunk)
  | caption (card : Card) (serial : Nat)
  | screenLevel (level : Nat)
  | answer (kind : RequestKind) (result : Answer)
  | state (record : BerthSnapshot)
  | unitReset
deriving DecidableEq, Repr

/-- Where the CAPTION frame of the outstanding card is: waiting or being sent, sent at a time, or lost to a full
control queue (R158, R159). -/
inductive CardSending where
  | queued
  | sent (at_ : Time)
  | lost
deriving DecidableEq, Repr

/-- The outstanding card (R158), with the time it became outstanding and its serial number. -/
structure Outstanding where
  card    : Card
  serial  : Nat
  since   : Time
  sending : CardSending
deriving DecidableEq, Repr

/-- The counters of one link (R162). -/
structure LinkCounters where
  receiveError    : Counter
  linkLoss        : Counter
  fault           : Counter
  videoDrop       : Counter
  videoFlush      : Counter
  captionDrop     : Counter
  captionTimeout  : Counter
  strayAck        : Counter
  controlOverflow : Counter
  audioOverrun    : Counter
deriving DecidableEq, Repr

/-- A seat link (R148), with its transmitter: the frame in progress, the UNIT_RESET frames that follow it (R153, R155),
and the number of CUT frames sent (R153, R155, R157; log 8). -/
structure Link where
  state       : LinkState
  goodCount   : Nat
  lastGood    : Option Time
  holdOff     : Option Time
  hold        : Option Time
  faults      : List Time
  locking     : Bool
  control     : List SeatFrame
  audio       : Option SeatFrame
  video       : List Chunk
  waiting     : List Card
  outstanding : Option Outstanding
  cardSerial  : Nat
  sending     : Option SeatFrame
  resets      : List SeatFrame
  cuts        : Nat
  upSince     : Option Time
  counters    : LinkCounters
deriving DecidableEq, Repr

/-! ## The Trunk Interface (chapter 9) -/

/-- Access class (R164). -/
inductive AccessClass where
  | a | b | c
deriving DecidableEq, Repr

/-- A packet handed over, with its time of hand-over (R164); `restartReply` marks the reply that a pending restart
waits for (R191). -/
structure TxPacket where
  packet       : Packet
  handed       : Time
  restartReply : Bool
deriving DecidableEq, Repr

/-- What the transmitter does with its current packet: wait for the carrier to be idle so long, or send since a time
(R168). -/
inductive TxStage where
  | waiting (wait : Time)
  | sending (since : Time)
deriving DecidableEq, Repr

/-- The current packet (R167). `leaving` marks one that a soft restart found in the middle of an attempt (R176). -/
structure Current where
  tx       : TxPacket
  attempts : Nat
  stage    : TxStage
  leaving  : Bool
deriving DecidableEq, Repr

/-- State of the trunk transmitter (R170): ENABLED, or BACKED_OFF to a time. -/
inductive TxMode where
  | enabled
  | backedOff (endsAt : Time)
deriving DecidableEq, Repr

/-- An entry of the peer list (R174); the age is counted from `heard`. -/
structure Peer where
  station  : Nat
  heard    : Time
  range    : Option (Nat × Nat)
  berthsUp : Option Nat
  epoch    : Option Seq
  feeds    : Option Bool
  panel    : Option Bool
deriving DecidableEq, Repr

/-- The Trunk Interface: transmit queues, current packet, the end of the last carrier heard, transmitter state, the
generator's place (`seed`, and draws made since), peer list, PRESENCE period, the eleven counters of R177. -/
structure Trunk where
  queueA       : List TxPacket
  queueB       : List TxPacket
  queueC       : List TxPacket
  current      : Option Current
  idleFrom     : Time
  mode         : TxMode
  failures     : Nat
  seed         : Nat
  draws        : Nat
  peers        : List Peer
  presenceDue  : Option Time
  dropA        : Counter
  dropB        : Counter
  refusalC     : Counter
  stale        : Counter
  collision    : Counter
  failure      : Counter
  backOff      : Counter
  crcError     : Counter
  headerError  : Counter
  stationClash : Counter
  peerExpiry   : Counter
deriving DecidableEq, Repr

/-! ## The Start-up Controller (chapter 10) -/

/-- The Start-up Controller: state, pins, station number, image and flags (R184), load in progress since a time, end
of LISTENING, pending restart with its latest time (R191), and the moment from which time since start counts (R180). -/
structure Startup where
  state       : StartState
  resetN      : Bool
  straps      : BitVec 5
  station     : Nat
  strapFault  : Bool
  image       : Image
  defaulted   : Bool
  adjusted    : Bool
  loadSince   : Option Time
  listenEnd   : Option Time
  restart     : Option Time
  startedAt   : Time
deriving DecidableEq, Repr

/-! ## The node -/

/-- The state of a PVN-12. `now`, `free` and `pending` are the model's own: elapsed time, the place among the free
choices, and the commands that wait, first in first out. -/
structure State where
  now     : Time
  free    : Nat
  pending : List Instr
  startup : Startup
  trunk   : Trunk
  taps    : TapCtl
  carry   : CarryCtl
  berths  : BerthCtl
  phase   : PhaseCtl
  orig    : Originator
  voice   : VoiceArb
  mixer   : Mixer
  links   : Vector Link 12
deriving DecidableEq, Repr

/-! ## Reset -/

/-- A berth record at its defaults (R2), with its timer. -/
def Berth.initial (timer : Inactivity) : Berth :=
  { program := 0, volume := 16, mute := false, language := 0, stop := 0, stopWake := false, attention := .awake,
    timer := timer, screen := .on, brightness := 8, headset := false, hold := false, reported := none }

/-- The Berth Controller at power-on (R22, R23). -/
def BerthCtl.initial (timer : Inactivity) : BerthCtl :=
  { records := Vector.replicate 12 (Berth.initial timer), requests := 0, refusals := 0 }

/-- The Mixer's state for one berth at a start (R41). -/
def Mix.initial : Mix := { duck := 0, chimeId := none, chimePos := 0 }

/-- The Mixer at power-on (R41). -/
def Mixer.initial : Mixer := { berths := Vector.replicate 12 Mix.initial, clip := 0, nextBlock := none }

/-- The Tap Controller at any start (R63). -/
def TapCtl.initial : TapCtl :=
  { catalogue := [], taps := [], wantDue := none, late := 0, duplicate := 0, resync := 0, slip := 0, gap := 0,
    starve := 0, foreign := 0 }

/-- A channel at any start (R87): IDLE when its configuration has a program, UNUSED otherwise. -/
def Channel.initial (cfg : ChannelConfig) : Channel :=
  { state := if cfg.program = 0 then .unused else .idle, filling := .empty, ready := none, audioSeq := 0, videoSeq := 0,
    trim := cfg.initialTrim, mode := cfg.mode, demand := [], lingerEnd := none, shadowEnd := none, window := none }

/-- The channels at any start, for an image (R87). -/
def Channel.allInitial (im : Image) : Vector Channel 8 := Vector.ofFn fun c => Channel.initial im.channels[c]

/-- The Carry Controller at power-on (R87). -/
def CarryCtl.initial (im : Image) : CarryCtl :=
  { channels := Channel.allInitial im, carryDue := none, nextFeed := none, feedSyncs := 0, underrun := 0, feedError := 0 }

/-- The Originator at any start (R106). -/
def Originator.initial : Originator :=
  { state := .idle, sequence := 0, desc := none, accepted := 0, leadIns := 0, nextBlock := .index 0, lastAudio := 0,
    nextHold := none, ackTable := none, discard := 0, error := 0, notices := [] }

/-- The Voice Arbiter at any start (R130). -/
def VoiceArb.initial : VoiceArb :=
  { table := [], closed := [], voices := Vector.replicate 12 { serving := .idle, pending := [] }, late := 0, overflow := 0,
    lost := 0, eviction := 0, nodeFull := 0 }

/-- Link counters at 0 (R162). -/
def LinkCounters.zero : LinkCounters :=
  { receiveError := 0, linkLoss := 0, fault := 0, videoDrop := 0, videoFlush := 0, captionDrop := 0, captionTimeout := 0,
    strayAck := 0, controlOverflow := 0, audioOverrun := 0 }

/-- A link at power-on (R163). -/
def Link.initial : Link :=
  { state := .down, goodCount := 0, lastGood := none, holdOff := none, hold := none, faults := [], locking := false,
    control := [], audio := none, video := [], waiting := [], outstanding := none, cardSerial := 0, sending := none,
    resets := [], cuts := 0, upSince := none, counters := .zero }

/-- The Trunk Interface at power-on (R178). -/
def Trunk.initial (now : Time) (seed : Nat) : Trunk :=
  { queueA := [], queueB := [], queueC := [], current := none, idleFrom := now, mode := .enabled, failures := 0,
    seed := seed, draws := 0, peers := [], presenceDue := none, dropA := 0, dropB := 0, refusalC := 0, stale := 0,
    collision := 0, failure := 0, backOff := 0, crcError := 0, headerError := 0, stationClash := 0, peerExpiry := 0 }

/-- The Start-up Controller at the entry to LOADING, before the straps are read (R180, R195). The image stands until the
next load ends (R181). -/
def Startup.initial (now : Time) (resetN : Bool) (image : Image) : Startup :=
  { state := .loading, resetN := resetN, straps := 0, station := 0, strapFault := false, image := image,
    defaulted := false, adjusted := false, loadSince := none, listenEnd := none, restart := none, startedAt := now }

/-- The node at the entry to LOADING at a time, every block at the power-on column of its reset table (R180). While
RESET_N is low the node stays at that entry, so the inactivity timers are held at 0. -/
def State.atPowerOn (now : Time) (free : Nat) (pending : List Instr) (resetN : Bool) (image : Image) : State :=
  { now := now, free := free, pending := pending,
    startup := .initial now resetN image, trunk := .initial now 0, taps := .initial, carry := .initial image,
    berths := .initial (if resetN then .counting now else .held 0),
    phase := { own := { epoch := 0, phase := 0, setter := 31 }, phaseDue := none, adoption := 0, phaseError := 0 },
    orig := .initial, voice := .initial, mixer := .initial, links := Vector.replicate 12 Link.initial }

/-- The machine right after reset: at the entry to LOADING, RESET_N high, nothing read yet, no image loaded (R180, log 1). -/
def State.reset : State := State.atPowerOn 0 0 [] true defaultImage

end Sys2Proof.Machine
end

