-- ==== Sys2Proof/Machine/Ops.lean ====
section
/-! DEFINITION. The named operations the commands are written over: counters, time, free choices, access to one berth,
link, voice, channel or entry; the transmit queues (R164, R165, R167); a seat link's transmitter, queues and captions
(R147, R156 to R160). -/

namespace Sys2Proof.Machine

/-! ## Counters, lists, ports -/

/-- A counter counts one, and sticks at 65,535 (R194). -/
def bump (c : Counter) : Counter := if c = 65535#16 then c else c + 1

/-- A counter counts several (R157). -/
def bumpBy (n : Nat) (c : Counter) : Counter := if c.toNat + n ≤ 65535 then c + BitVec.ofNat 16 n else 65535#16

/-- Insertion at the first place whose element the new one goes before. -/
def insertBefore {α : Type} (before : α → α → Bool) (x : α) : List α → List α
  | [] => [x]
  | y :: ys => if before x y then x :: y :: ys else y :: insertBefore before x ys

/-- A list in the order of `before`. -/
def sortBy {α : Type} (before : α → α → Bool) (l : List α) : List α := l.foldr (insertBefore before) []

/-- Append to a queue of a capacity, losing its oldest when full; the flag says that one was lost. -/
def pushDropOldest {α : Type} (cap : Nat) (q : List α) (x : α) : List α × Bool :=
  if q.length < cap then (q ++ [x], false) else (q.drop (q.length + 1 - cap) ++ [x], true)

/-- The twelve ports. -/
def allPorts : List Port := List.finRange 12

/-- The eight channels. -/
def allChans : List Chan := List.finRange 8

/-! ## Parts of the state -/

/-- The image in force (R182: every block reads its fields from there). -/
def State.image (s : State) : Image := s.startup.image

/-- RUNNING. -/
def State.running (s : State) : Bool := s.startup.state == .running

/-- LOADING. -/
def State.loading (s : State) : Bool := s.startup.state == .loading

/-- A port in service: 1 to the berth count (R1). -/
def State.inService (s : State) (p : Port) : Bool := decide (p.val < s.image.berthCount)

/-- The in-service ports, in ascending order. -/
def State.servicePorts (s : State) : List Port := allPorts.filter s.inService

/-- The berth number of a port: berth base plus port (R1). -/
def State.berthNumber (s : State) (p : Port) : Nat := s.image.berthBase + portNumber p

/-- The profile in force (R131). -/
def State.profile (s : State) : Profile := s.image.profiles[s.phase.own.phase]

/-- The link of a port is UP. -/
def State.linkUp (s : State) (p : Port) : Bool := s.links[p].state == .up

/-- One berth record. -/
def State.berth (s : State) (p : Port) : Berth := s.berths.records[p]

/-- Change one berth record. -/
def State.modBerth (s : State) (p : Port) (f : Berth → Berth) : State :=
  { s with berths := { s.berths with records := s.berths.records.set p (f s.berths.records[p]) } }

/-- Change one link. -/
def State.modLink (s : State) (p : Port) (f : Link → Link) : State :=
  { s with links := s.links.set p (f s.links[p]) }

/-- Change the counters of one link. -/
def State.modLinkCounters (s : State) (p : Port) (f : LinkCounters → LinkCounters) : State :=
  s.modLink p fun l => { l with counters := f l.counters }

/-- One berth voice. -/
def State.berthVoice (s : State) (p : Port) : Voice := s.voice.voices[p]

/-- Change one berth voice. -/
def State.modVoice (s : State) (p : Port) (f : Voice → Voice) : State :=
  { s with voice := { s.voice with voices := s.voice.voices.set p (f s.voice.voices[p]) } }

/-- Change the Mixer's state for one berth. -/
def State.modMix (s : State) (p : Port) (f : Mix → Mix) : State :=
  { s with mixer := { s.mixer with berths := s.mixer.berths.set p (f s.mixer.berths[p]) } }

/-- One feed channel. -/
def State.chan (s : State) (c : Chan) : Channel := s.carry.channels[c]

/-- Change one feed channel. -/
def State.modChan (s : State) (c : Chan) (f : Channel → Channel) : State :=
  { s with carry := { s.carry with channels := s.carry.channels.set c (f s.carry.channels[c]) } }

/-- Change the Trunk Interface. -/
def State.modTrunk (s : State) (f : Trunk → Trunk) : State := { s with trunk := f s.trunk }

/-- Change the Tap Controller. -/
def State.modTaps (s : State) (f : TapCtl → TapCtl) : State := { s with taps := f s.taps }

/-- Change the Originator. -/
def State.modOrig (s : State) (f : Originator → Originator) : State := { s with orig := f s.orig }

/-- The entry of an id in the node announcement table. -/
def State.entry? (s : State) (id : AnnId) : Option Entry := s.voice.table.find? fun e => e.desc.id == id

/-- Change the entry of an id. -/
def State.modEntry (s : State) (id : AnnId) (f : Entry → Entry) : State :=
  { s with voice := { s.voice with table := s.voice.table.map fun e => if e.desc.id = id then f e else e } }

/-- Change the berth record of one port in the entry of an id. -/
def State.modRec (s : State) (id : AnnId) (p : Port) (f : BerthRec → BerthRec) : State :=
  s.modEntry id fun e => { e with recs := e.recs.map fun r => if r.port = p then f r else r }

/-- A notice handed to the console (R88). -/
def State.notify (s : State) (n : Notice) : State := s.modOrig fun o => { o with notices := o.notices ++ [n] }

/-! ## Time and free choices -/

/-- Time passes to `t`, unless it has passed already: the moment a timer's command is taken at (log 2). -/
def State.reach (s : State) (t : Time) : State := { s with now := max s.now t }

/-- Milliseconds of an age, counted from a time. -/
def State.sinceMs (s : State) (t : Time) : Nat := (s.now - t) / ms 1

/-- Take the members of a list in an order that the free value decides (log 3). -/
def arrangeFrom {α : Type} : Nat → Nat → List α → List α
  | 0, _, l => l
  | _ + 1, _, [] => []
  | _ + 1, _, [x] => [x]
  | n + 1, k, l =>
    match l[Config.pick k % l.length]? with
    | some x => x :: arrangeFrom n (k + 1) (l.eraseIdx (Config.pick k % l.length))
    | none => l

/-- The members of a list in the order in which they are taken, where the spec lets any order be (log 3). -/
def State.arrange {α : Type} (s : State) (l : List α) : List α := arrangeFrom l.length s.free l

/-- The free choices that arranging a list used up. -/
def State.useFree (s : State) (n : Nat) : State := { s with free := s.free + n }

/-! ## The transmit queues (chapter 9) -/

/-- The access class of a kind (R164). -/
def accessClass (b : Body) : AccessClass :=
  match b with
  | .announce _ _ => .a
  | .ack _ _ _ => .a
  | .phase _ _ _ => .a
  | .programAudio _ _ _ _ => .b
  | .programVideo _ _ _ => .c
  | .carry _ => .c
  | .want _ => .c
  | .presence _ => .c
  | .serviceRequest _ _ _ => .c
  | .serviceReply _ _ _ => .c

/-- The gap of a class: 2, 4 and 8 µs (R164). -/
def AccessClass.gap (k : AccessClass) : Time :=
  match k with
  | .a => us 2
  | .b => us 4
  | .c => us 8

/-- The capacity of a class's queue: 8, 16 and 32 (R164). -/
def AccessClass.capacity (k : AccessClass) : Nat :=
  match k with
  | .a => 8
  | .b => 16
  | .c => 32

/-- A packet becomes current: attempt count 0 and the wait of its class gap (R167). -/
def Current.fresh (tx : TxPacket) : Current :=
  { tx := tx, attempts := 0, stage := .waiting (accessClass tx.packet.body).gap, leaving := false }

/-- A free, ENABLED transmitter takes the head of class A, else of B, else of C (R167). -/
def Trunk.take (t : Trunk) : Trunk :=
  match t.mode, t.current with
  | .enabled, none =>
    match t.queueA, t.queueB, t.queueC with
    | x :: r, _, _ => { t with queueA := r, current := some (.fresh x) }
    | [], x :: r, _ => { t with queueB := r, current := some (.fresh x) }
    | [], [], x :: r => { t with queueC := r, current := some (.fresh x) }
    | [], [], [] => t
  | _, _ => t

/-- A packet joins the queue of its class: A and B lose their oldest when full, C refuses (R165). The flag says that
the packet was accepted. -/
def Trunk.enqueue (t : Trunk) (x : TxPacket) : Trunk × Bool :=
  match accessClass x.packet.body with
  | .a =>
    let (q, lost) := pushDropOldest (AccessClass.capacity .a) t.queueA x
    ({ t with queueA := q, dropA := if lost then bump t.dropA else t.dropA }, true)
  | .b =>
    let (q, lost) := pushDropOldest (AccessClass.capacity .b) t.queueB x
    ({ t with queueB := q, dropB := if lost then bump t.dropB else t.dropB }, true)
  | .c =>
    if t.queueC.length < AccessClass.capacity .c then ({ t with queueC := t.queueC ++ [x] }, true)
    else ({ t with refusalC := bump t.refusalC }, false)

/-- Hand-over of a packet, marked or not as the reply a restart waits for. Outside RUNNING it is discarded uncounted.
A free transmitter takes the next packet at once (R164, R165, R167). -/
def State.handOverMarked (s : State) (b : Body) (mark : Bool) : State × Bool :=
  if s.running then
    let x : TxPacket := { packet := { source := s.startup.station, body := b }, handed := s.now, restartReply := mark }
    let (t, ok) := s.trunk.enqueue x
    ({ s with trunk := t.take }, ok)
  else (s, false)

/-- Hand-over of a packet; the flag says that it was accepted (R165). -/
def State.handOverTold (s : State) (b : Body) : State × Bool := s.handOverMarked b false

/-- Hand-over of a packet by a block that does not use the answer (R165). -/
def State.handOver (s : State) (b : Body) : State := (s.handOverTold b).1

/-! ## A seat link's transmitter and queues (chapter 8) -/

/-- A free transmitter takes the next frame: a UNIT_RESET that follows a frame sent to its end (R153, R155); and while
the link is UP the control queue first, then the waiting AUDIO frame, then the video queue unless held (R147, R152). -/
def Link.kick (l : Link) : Link :=
  match l.sending with
  | some _ => l
  | none =>
    match l.resets with
    | f :: r => { l with sending := some f, resets := r }
    | [] =>
      if l.state = .up then
        match l.control, l.audio, l.video with
        | f :: r, _, _ => { l with sending := some f, control := r }
        | [], some f, _ => { l with sending := some f, audio := none }
        | [], none, c :: r => if l.hold = none then { l with sending := some (.video c), video := r } else l
        | [], none, [] => l
      else l

/-- A control frame handed to the link: up to 16 wait; one more is discarded and counted. Not UP: discarded uncounted.
The flag says that it was admitted (R147, R160). -/
def Link.handControlTold (l : Link) (f : SeatFrame) : Link × Bool :=
  if l.state = .up then
    if l.control.length < 16 then (Link.kick { l with control := l.control ++ [f] }, true)
    else ({ l with counters := { l.counters with controlOverflow := bump l.counters.controlOverflow } }, false)
  else (l, false)

/-- A control frame handed by a block that does not use the answer. -/
def Link.handControl (l : Link) (f : SeatFrame) : Link := (l.handControlTold f).1

/-- The AUDIO frame of a block event: it waits alone, and replaces and counts one that still waits (R147). -/
def Link.handAudio (l : Link) (f : SeatFrame) : Link :=
  if l.state = .up then
    Link.kick { l with audio := some f,
                       counters := if l.audio.isSome then { l.counters with audioOverrun := bump l.counters.audioOverrun }
                                   else l.counters }
  else l

/-- A video chunk joins the queue of 8, a full queue losing its oldest, which is counted (R156). -/
def Link.handVideo (l : Link) (c : Chunk) : Link :=
  if l.state = .up then
    let (q, lost) := pushDropOldest 8 l.video c
    Link.kick { l with video := q,
                       counters := if lost then { l.counters with videoDrop := bump l.counters.videoDrop } else l.counters }
  else l

/-- A VIDEO frame in progress is ended at once with a CUT frame, and the transmitter is then free; a frame of any other kind
goes on (R153, R155, R157; log 8). -/
def Link.cutVideo (l : Link) : Link :=
  match l.sending with
  | some (.video _) => { l with sending := none, cuts := l.cuts + 1 }
  | _ => l

/-- The emergency flush: the video queue is emptied and counted, and a VIDEO frame in progress is ended with CUT, so that
the next frame is taken (R157, R147). -/
def Link.flushVideo (l : Link) : Link :=
  if l.state = .up then
    Link.kick (Link.cutVideo { l with
      video := [], counters := { l.counters with videoFlush := bumpBy l.video.length l.counters.videoFlush } })
  else l

/-- A card becomes outstanding, and its CAPTION frame is handed to the control queue (R158). -/
def Link.putOutstanding (l : Link) (now : Time) (c : Card) : Link :=
  let serial := l.cardSerial
  let l1 := { l with cardSerial := serial + 1 }
  let (l2, ok) := l1.handControlTold (.caption c serial)
  { l2 with outstanding := some { card := c, serial := serial, since := now, sending := if ok then .queued else .lost } }

/-- A caption card handed to the link (R158). -/
def Link.handCard (l : Link) (now : Time) (c : Card) : Link :=
  if l.state = .up then
    match l.outstanding with
    | none => l.putOutstanding now c
    | some _ =>
      let (q, lost) := pushDropOldest 4 l.waiting c
      { l with waiting := q,
               counters := if lost then { l.counters with captionDrop := bump l.counters.captionDrop } else l.counters }
  else l

/-- The outstanding card is released and the oldest waiting card, if any, takes its place (R159). -/
def Link.releaseCard (l : Link) (now : Time) : Link :=
  match l.waiting with
  | [] => { l with outstanding := none }
  | c :: r => Link.putOutstanding { l with outstanding := none, waiting := r } now c

/-- The moment at which the ack timeout of the outstanding card runs out: 200 ms from the sending of its frame, or
from its becoming outstanding when the frame was lost (R159). -/
def Link.cardDeadline (l : Link) : Option Time :=
  match l.outstanding with
  | none => none
  | some o =>
    match o.sending with
    | .queued => none
    | .sent t => some (t + ms 200)
    | .lost => some (o.since + ms 200)

/-- The transmitter ends a frame: a CAPTION frame's sending time is recorded for its card, and the next frame is taken
(R147, R158). -/
def Link.frameSent (l : Link) (now : Time) : Link :=
  match l.sending with
  | none => l
  | some f =>
    let l1 :=
      match f, l.outstanding with
      | .caption _ n, some o => if o.serial = n then { l with outstanding := some { o with sending := .sent now } } else l
      | _, _ => l
    Link.kick { l1 with sending := none }

/-- A VIDEO frame in progress is ended with CUT, any other is sent to its end, and a UNIT_RESET is sent next (R153,
R155). -/
def Link.sendReset (l : Link) : Link := Link.kick (Link.cutVideo { l with resets := l.resets ++ [.unitReset] })

end Sys2Proof.Machine
end

