-- ==== Sys2Proof/Machine/Operands.lean ====
section
/-! DEFINITION. The operand forms of chapter 12: the trunk packet, its CRC and the three bodies laid out bit for bit
(R196 to R198), the seat link REQUEST frame (R199, R200), the AUDIO info word (R200), the frames that the node sends (R199). -/

namespace Sys2Proof.Machine

/-! ## Bytes -/

/-- A byte from a number. -/
def byteOf (n : Nat) : Byte := BitVec.ofNat 8 n

/-- A 16-bit word as two bytes, most significant first. -/
def wordBytes (w : BitVec 16) : List Byte := [byteOf (w.toNat / 256), byteOf w.toNat]

/-- The 16-bit word of two bytes. -/
def wordOf (hi lo : Byte) : BitVec 16 := BitVec.ofNat 16 (hi.toNat * 256 + lo.toNat)

/-- Samples as bytes, in order. -/
def sampleBytes (l : List Sample) : List Byte := l.flatMap wordBytes

/-- Stereo frames as bytes: left then right, frame 0 first (R197). -/
def frameBytes (l : List StereoFrame) : List Byte := l.flatMap fun f => wordBytes f.left ++ wordBytes f.right

/-- Bytes as samples. -/
def samplesOf : List Byte → List Sample
  | hi :: lo :: r => wordOf hi lo :: samplesOf r
  | _ => []

/-- Bytes as stereo frames. -/
def framesOf : List Byte → List StereoFrame
  | a :: b :: c :: d :: r => { left := wordOf a b, right := wordOf c d } :: framesOf r
  | _ => []

/-! ## Check words -/

/-- One bit of a CRC register of width w, most significant bit first. -/
def crcBit {w : Nat} (poly : BitVec w) (r : BitVec w) : BitVec w := if r.msb then (r <<< 1) ^^^ poly else r <<< 1

/-- One byte into a CRC register of width w. -/
def crcByte {w : Nat} (poly : BitVec w) (r : BitVec w) (b : Byte) : BitVec w :=
  (List.range 8).foldl (fun r _ => crcBit poly r) (r ^^^ (BitVec.ofNat w b.toNat <<< (w - 8)))

/-- The trunk's CRC-32: generator 04C11DB7h, initial register FFFFFFFFh, not inverted (R196). -/
def crc32 (l : List Byte) : BitVec 32 := l.foldl (crcByte 0x04C11DB7#32) 0xFFFFFFFF#32

/-- The CRC as four bytes, most significant first (R196). -/
def crcBytes (c : BitVec 32) : List Byte :=
  [byteOf (c.toNat / 16777216), byteOf (c.toNat / 65536), byteOf (c.toNat / 256), byteOf c.toNat]

/-- The seat link's frame check: generator 1021h, initial register FFFFh (R199). R199 does not say
whether the register is inverted at the end, as R196 says of CRC-32: it is not (DESIGN CHOICE, log 48). -/
def crc16 (l : List Byte) : BitVec 16 := l.foldl (crcByte 0x1021#16) 0xFFFF#16

/-- The check word of a feed-port delivery: its samples summed as unsigned, modulo 65,536 (R66). -/
def deliverySum (l : List StereoFrame) : BitVec 16 := l.foldl (fun a f => a + f.left + f.right) 0

/-! ## Codes of chapter 12 -/

/-- Class code of ANNOUNCE (R197), also the class's priority (R107). -/
def annClassCode (k : AnnClass) : Nat :=
  match k with
  | .service => 1
  | .stop => 2
  | .safety => 3
  | .emergency => 4

/-- The class of a code (R197). -/
def classOf (n : Nat) : Option AnnClass :=
  match n with
  | 1 => some .service
  | 2 => some .stop
  | 3 => some .safety
  | 4 => some .emergency
  | _ => none

/-- The phase code of an ANNOUNCE packet (R197). -/
def tailCode (t : AnnTail) : Nat :=
  match t with
  | .leadIn => 1
  | .speech _ _ => 2
  | .hold => 3
  | .fin _ => 4

/-- End reason code (R197). -/
def endReasonCode (r : EndReason) : Nat :=
  match r with
  | .normal => 1
  | .aborted => 2
  | .panelLost => 3

/-- The end reason of a code (R197). -/
def endReasonOf (n : Nat) : Option EndReason :=
  match n with
  | 1 => some .normal
  | 2 => some .aborted
  | 3 => some .panelLost
  | _ => none

/-- Outcome and reason codes of an ACK item (R197). -/
def outcomeCodes (o : BerthOutcome) : Nat × Nat :=
  match o with
  | .audio => (1, 0)
  | .caption => (2, 0)
  | .declined .policy => (3, 1)
  | .declined .unreachable => (3, 2)
  | .declined .nodeFull => (3, 3)
  | .declined .busy => (3, 4)
  | .cut .preempted => (4, 5)
  | .cut .evicted => (4, 6)
  | .cut .aborted => (4, 7)
  | .cut .linkLost => (4, 8)
  | .dismissed => (5, 0)
  | .missed => (6, 0)

/-- The outcome of a pair of codes; none when the reason is not allowed for the outcome (R198). -/
def outcomeOf (outcome reason : Nat) : Option BerthOutcome :=
  match outcome, reason with
  | 1, 0 => some .audio
  | 2, 0 => some .caption
  | 3, 1 => some (.declined .policy)
  | 3, 2 => some (.declined .unreachable)
  | 3, 3 => some (.declined .nodeFull)
  | 3, 4 => some (.declined .busy)
  | 4, 5 => some (.cut .preempted)
  | 4, 6 => some (.cut .evicted)
  | 4, 7 => some (.cut .aborted)
  | 4, 8 => some (.cut .linkLost)
  | 5, 0 => some .dismissed
  | 6, 0 => some .missed
  | _, _ => none

/-- The counts per outcome of a list of items (R128). -/
def totalsZero : Totals := { audio := 0, caption := 0, declined := 0, cut := 0, dismissed := 0, missed := 0 }

/-- One more berth of an outcome. -/
def countOutcome (t : Totals) (o : BerthOutcome) : Totals :=
  match o with
  | .audio => { t with audio := t.audio + 1 }
  | .caption => { t with caption := t.caption + 1 }
  | .declined _ => { t with declined := t.declined + 1 }
  | .cut _ => { t with cut := t.cut + 1 }
  | .dismissed => { t with dismissed := t.dismissed + 1 }
  | .missed => { t with missed := t.missed + 1 }

/-- The counts per outcome of a list of items (R128). -/
def totalsOf (l : List AckItem) : Totals := l.foldl (fun t i => countOutcome t i.outcome) totalsZero

/-- Sum of two sets of counts (R102). -/
def totalsAdd (a b : Totals) : Totals :=
  { audio := a.audio + b.audio, caption := a.caption + b.caption, declined := a.declined + b.declined,
    cut := a.cut + b.cut, dismissed := a.dismissed + b.dismissed, missed := a.missed + b.missed }

/-- Kind codes of the trunk header (R196). -/
def kindCode (b : Body) : Nat :=
  match b with
  | .programAudio _ _ _ _ => 1
  | .programVideo _ _ _ => 2
  | .carry _ => 3
  | .want _ => 4
  | .announce _ _ => 5
  | .ack _ _ _ => 6
  | .phase _ _ _ => 7
  | .presence _ => 8
  | .serviceRequest _ _ _ => 9
  | .serviceReply _ _ _ => 10

/-! ## Trunk packets as bytes (R196, R197) -/

/-- The descriptor at offsets 4..11 of ANNOUNCE. -/
def descriptorBytes (d : Descriptor) : List Byte :=
  [byteOf d.id.origin, d.id.sequence, byteOf (annClassCode d.cls), byteOf d.first, byteOf d.last, byteOf d.stop,
   byteOf d.language, byteOf d.caption]

/-- The phase code and tail of ANNOUNCE, from offset 12. -/
def tailBytes (t : AnnTail) : List Byte :=
  byteOf (tailCode t) ::
    match t with
    | .leadIn => []
    | .speech i l => wordBytes i ++ sampleBytes l
    | .hold => []
    | .fin r => [byteOf (endReasonCode r)]

/-- The counts at offsets 6..11 of ACK. -/
def totalsBytes (t : Totals) : List Byte :=
  [byteOf t.audio, byteOf t.caption, byteOf t.declined, byteOf t.cut, byteOf t.dismissed, byteOf t.missed]

/-- One item of ACK. -/
def itemBytes (i : AckItem) : List Byte :=
  [byteOf i.berth, byteOf (outcomeCodes i.outcome).1, byteOf (outcomeCodes i.outcome).2]

/-- The bits of the fields of a STATUS payload, each at the least width its values need (R193). -/
def statusBits (r : StatusReport) : Nat :=
  68 + 21 * r.channels.length + 20 * r.taps.length + 22 * r.berths.length + 14 * r.announcements.length + 17 * r.peers.length

/-- The bits of the fields that a kind's chapter gives a body, each at the least width its values need, for the kinds that
chapter 12 does not lay out: no layout of such a body takes fewer (R79, R50, R132, R173, section 10.6; log 5). -/
def fieldBits (b : Body) : Nat :=
  match b with
  | .programAudio _ _ _ _ => 0
  | .programVideo _ _ l => 24 + 8 * l.length
  | .carry l => 9 * l.length
  | .want l => 6 * l.length
  | .announce _ _ => 0
  | .ack _ _ _ => 0
  | .phase _ _ _ => 23
  | .presence _ => 38
  | .serviceRequest _ k _ =>
    match k with
    | .oneShot => 14
    | .berthReset => 12
    | _ => 8
  | .serviceReply _ _ pl =>
    match pl with
    | .status r => 5 + statusBits r
    | .counters _ => 5 + 32 + 16 * 164
    | _ => 5

/-- The same in whole bytes. -/
def fieldBytes (b : Body) : Nat := (fieldBits b + 7) / 8

/-- The most bytes between header and CRC: a packet is at most 1,411 bytes long (R171). -/
def bodyLimit : Nat := 1403

/-- The bytes that the fields of a kind code need at least, whatever they hold: a PROGRAM_VIDEO body has a payload of one byte
or more, CARRY and WANT records may be empty, and a SERVICE_REPLY may have no payload (R68, R79, R50, section 10.6). Section 10.6
gives every SERVICE_REQUEST an argument: the bound counts target and kind alone, since the kind is not known before the body is
read and most kinds ignore the argument; a ONE_SHOT or BERTH_RESET request may then pass with no byte for the argument it
reads (DESIGN CHOICE, log 5). -/
def leastBytes (kind : Nat) : Nat :=
  match kind with
  | 2 => 4
  | 7 => 3
  | 8 => 5
  | 9 => 1
  | 10 => 1
  | _ => 0

/-- The length check of R198 for a kind that chapter 12 does not lay out: a body of fewer bytes is too short to hold the fields
of its kind. R196 fixes it for PROGRAM_VIDEO (11 + payload in all); for the others it is a free value between what the
fields need and what a packet holds (log 5). -/
def leastLength (kind : Nat) : Nat :=
  match kind with
  | 2 => leastBytes 2
  | k => max (leastBytes k) (min bodyLimit (Config.leastLength k))

/-- The length of the body of a kind that chapter 12 does not lay out: 3 + payload for PROGRAM_VIDEO (R196 gives 1,411 bytes for
a payload of 1,400), and otherwise a free value between what its fields need and what a packet holds, which passes the
length check of R198 (log 5, log 12). -/
def freeLength (b : Body) : Nat :=
  match b with
  | .programVideo _ _ l => 3 + l.length
  | _ => max (leastLength (kindCode b)) (max (fieldBytes b) (min bodyLimit (Config.bodyLength b)))

/-- The body of a packet as bytes: as R197 lays it out for three kinds, and free bytes for the others (log 5). -/
def bodyBytes (b : Body) : List Byte :=
  match b with
  | .programAudio p t s l => byteOf p :: BitVec.ofInt 8 t :: (wordBytes s ++ frameBytes l)
  | .announce d t => descriptorBytes d ++ tailBytes t
  | .ack id c l => [byteOf id.origin, id.sequence] ++ totalsBytes c ++ l.flatMap itemBytes
  | b => (List.range (freeLength b)).map (Config.bodyByte b)

/-- A packet from header to CRC, for its kind code, source and body (R196). -/
def packetBytesOf (kind source : Nat) (body : List Byte) : List Byte :=
  let head := byteOf kind :: byteOf source :: (wordBytes (BitVec.ofNat 16 (body.length + 8)) ++ body)
  head ++ crcBytes (crc32 head)

/-- A packet from header to CRC (R196, R197). -/
def packetBytes (p : Packet) : List Byte := packetBytesOf (kindCode p.body) p.source (bodyBytes p.body)

/-- What stands on the trunk after the start pattern: the packet, and zero fill up to 36 bytes (R196). -/
def filled (l : List Byte) : List Byte := l ++ List.replicate (36 - l.length) 0#8

/-- What the Trunk Interface sends: three bytes AAh and one 5Eh, the packet, the fill (R196). -/
def wireBytes (p : Packet) : List Byte := [0xAA#8, 0xAA#8, 0xAA#8, 0x5E#8] ++ filled (packetBytes p)

/-- How long a packet occupies the trunk: 4 + max(length, 36) bytes of 40 ns, one unit of time each (R196, log 12). -/
def occupancy (p : Packet) : Time := (wireBytes p).length

/-! ## The receive side's reading of a carrier (R171, R196, R198) -/

/-- What the receive side finds in the bytes of a carrier. -/
inductive Reception where
  | debris
  | crcError
  | headerError
  | good (p : Packet)
deriving DecidableEq, Repr

/-- The descriptor check of R198. -/
def descriptorOk (d : Descriptor) : Bool :=
  decide (1 ≤ d.id.origin ∧ d.id.origin ≤ 30 ∧ d.stop ≤ 99 ∧ d.language ≤ 3 ∧ 1 ≤ d.first ∧ d.first ≤ d.last ∧ d.last ≤ 240)

/-- The body check of R198 on a packet's fields, and the payload of 1..1,400 bytes that a PROGRAM_VIDEO packet holds (R68,
R196, R171). -/
def bodyOk (b : Body) : Bool :=
  match b with
  | .programAudio _ t _ l => decide (-12 ≤ t ∧ t ≤ 12 ∧ l.length = 48)
  | .programVideo _ _ l => decide (1 ≤ l.length ∧ l.length ≤ 1400)
  | .announce d (.speech _ l) => descriptorOk d && decide (l.length = 48)
  | .announce d _ => descriptorOk d
  | .ack _ c l => decide (l.length ≤ 12) && decide (c = totalsOf l)
  | _ => true

/-- The descriptor at the head of an ANNOUNCE body; none for an undefined class. -/
def readDescriptor (l : List Byte) : Option Descriptor :=
  match classOf (byteAt l 2) with
  | none => none
  | some k =>
    some { id := { origin := byteAt l 0, sequence := (l[1]?).getD 0#8 }, cls := k, first := byteAt l 3, last := byteAt l 4,
           stop := byteAt l 5, language := byteAt l 6, caption := byteAt l 7 }

/-- The tail of an ANNOUNCE body from its phase code on; none for an undefined code or a length that is not the one
its phase gives (R198). -/
def readTail (l : List Byte) : Option AnnTail :=
  match l with
  | [] => none
  | c :: r =>
    match c.toNat with
    | 1 => if r = [] then some .leadIn else none
    | 2 =>
      match r with
      | hi :: lo :: q => if q.length = 96 then some (.speech (wordOf hi lo) (samplesOf q)) else none
      | _ => none
    | 3 => if r = [] then some .hold else none
    | 4 =>
      match r with
      | [e] => (endReasonOf e.toNat).map .fin
      | _ => none
    | _ => none

/-- The items of an ACK body; none for an undefined outcome or a reason not allowed for it, or a part of an item. -/
def readItems : List Byte → Option (List AckItem)
  | [] => some []
  | b :: o :: r :: q =>
    match outcomeOf o.toNat r.toNat, readItems q with
    | some x, some l => some ({ berth := b.toNat, outcome := x } :: l)
    | _, _ => none
  | _ => none

/-- The kind of a CARRY entry, from the free value of its field (log 5). -/
def readKind (n : Nat) : ProgramKind := if n % 2 = 0 then .audio else .audioVideo

/-- The status of a CARRY entry, from the free value of its field (log 5). -/
def readStatus (n : Nat) : CarryStatus :=
  match n % 3 with
  | 0 => .carried
  | 1 => .idle
  | _ => .refused

/-- A yes/no field of a PRESENCE record, from the free value of its field (log 5). -/
def readYesNo (n : Nat) : YesNo :=
  match n % 3 with
  | 0 => .yes
  | 1 => .no
  | _ => .neither

/-- The kind of a SERVICE_REQUEST, from the free value of its field; above the six kinds it is undefined (log 5). -/
def readService (n : Nat) : ServiceKind :=
  match n with
  | 0 => .status
  | 1 => .counters
  | 2 => .clearCounters
  | 3 => .restart
  | 4 => .oneShot
  | 5 => .berthReset
  | k => .other k

/-- The body that the bytes of a kind without a layout in chapter 12 hold: each field a free value of its kind, its place and
the bytes (log 5); the payload of PROGRAM_VIDEO all bytes but three (R196); the entries of CARRY and the programs of WANT no
more than the bytes can hold. The argument of a ONE_SHOT or BERTH_RESET request is such a value even where the body has no room for
it beside target and kind (DESIGN CHOICE, log 5). Nothing reads the content of a SERVICE_REPLY (R172). None for an unknown kind
code. -/
def readFree (kind : Nat) (l : List Byte) : Option Body :=
  let field (i : Nat) : Nat := Config.readField kind i l
  match kind with
  | 2 => some (.programVideo (field 0) (BitVec.ofNat 16 (field 1)) ((List.range (l.length - 3)).map fun i => byteOf (field (2 + i))))
  | 3 => some (.carry ((List.range (field 0 % (8 * l.length / 9 + 1))).map fun i =>
      { program := field (1 + 3 * i), kind := readKind (field (2 + 3 * i)), status := readStatus (field (3 + 3 * i)) }))
  | 4 => some (.want ((List.range (field 0 % (8 * l.length / 6 + 1))).map fun i => field (1 + i)))
  | 7 => some (.phase (BitVec.ofNat 16 (field 0)) (field 1) (field 2))
  | 8 => some (.presence { first := field 0, last := field 1, berthsUp := field 2, epoch := BitVec.ofNat 16 (field 3),
                           feeds := readYesNo (field 4), panel := readYesNo (field 5) })
  | 9 => some (.serviceRequest (field 0) (readService (field 1)) (field 2))
  | 10 => some (.serviceReply .status .accepted .none)
  | _ => none

/-- The body of a kind code, read from the bytes between header and CRC; none when the body check fails (R197, R198).
For the kinds that chapter 12 does not lay out it is a length check alone, and what the bytes hold is free (log 5). -/
def readBody (kind : Nat) (l : List Byte) : Option Body :=
  let found : Option Body :=
    match kind with
    | 1 =>
      match l with
      | p :: t :: a :: b :: r => if r.length = 192 then some (.programAudio p.toNat t.toInt (wordOf a b) (framesOf r)) else none
      | _ => none
    | 5 =>
      match readDescriptor l, readTail (l.drop 8) with
      | some d, some t => if 9 ≤ l.length then some (.announce d t) else none
      | _, _ => none
    | 6 =>
      match l with
      | o :: q :: a :: c :: d :: x :: di :: m :: r =>
        (readItems r).map fun items =>
          .ack { origin := o.toNat, sequence := q }
            { audio := a.toNat, caption := c.toNat, declined := d.toNat, cut := x.toNat, dismissed := di.toNat, missed := m.toNat }
            items
      | _ => none
    | k => if leastLength k ≤ l.length then readFree k l else none
  match found with
  | some b => if bodyOk b then some b else none
  | none => none

/-- The packet a carrier's bytes hold, by the checks of R171 in their order. A CRC that cannot be located within the
bytes received does not match (log 11). -/
def receiveBytes (l : List Byte) : Reception :=
  let len := wordAt l 2
  if l.length < 8 then .debris
  else if ¬(4 ≤ len ∧ len ≤ l.length ∧ crcBytes (crc32 (l.take (len - 4))) = (l.drop (len - 4)).take 4) then .crcError
  else if ¬(1 ≤ byteAt l 0 ∧ byteAt l 0 ≤ 10 ∧ 1 ≤ byteAt l 1 ∧ byteAt l 1 ≤ 30 ∧ 8 ≤ len ∧ len ≤ 1411 ∧ l.length = max len 36) then
    .headerError
  else
    match readBody (byteAt l 0) ((l.drop 4).take (len - 8)) with
    | some b => .good { source := byteAt l 1, body := b }
    | none => .headerError

/-! ## The seat link REQUEST frame (R199, R200) -/

/-- A passenger request from its kind code, value and flags bytes (R200). -/
def requestOf (kind value flags : Byte) : Option PassengerRequest :=
  let v := value.toNat
  match kind.toNat with
  | 1 => some (.select v)
  | 2 => some (.volume v)
  | 3 => some (.mute (v ≠ 0))
  | 4 => some (.language v)
  | 5 => some (.dnd (v ≠ 0))
  | 6 => some (.stop v (flags.getLsbD 0))
  | 7 => some (.screen (v ≠ 0))
  | 8 => some (.brightness v)
  | 9 => some .skip
  | _ => none

/-- The kind named by the ANSWER to a request (R200). -/
def requestKind (r : PassengerRequest) : RequestKind :=
  match r with
  | .select _ => .select
  | .volume _ => .volume
  | .mute _ => .mute
  | .language _ => .language
  | .dnd _ => .dnd
  | .stop _ _ => .stop
  | .screen _ => .screen
  | .brightness _ => .brightness
  | .skip => .skip

/-- The code by which the ANSWER frame names a request kind (R199, R200). -/
def requestCode (k : RequestKind) : Nat :=
  match k with
  | .select => 1
  | .volume => 2
  | .mute => 3
  | .language => 4
  | .dnd => 5
  | .stop => 6
  | .screen => 7
  | .brightness => 8
  | .skip => 9

/-- Every seat link frame: it opens with its frame kind and closes with the frame check, computed over the frame kind and the
body and sent most significant byte first (R199, chapter 12). -/
def framed (kind : Byte) (body : List Byte) : List Byte := kind :: body ++ wordBytes (crc16 (kind :: body))

/-- The bytes of a REQUEST frame: 22h, kind, value, flags, frame check (R199). -/
def requestFrame (kind value flags : Byte) : List Byte := framed 0x22#8 [kind, value, flags]

/-- What the Seat Link Controller reads in a frame handed to it as a REQUEST frame (R146, R199, R200). -/
def readRequest (l : List Byte) : FrameError ⊕ PassengerRequest :=
  match l with
  | [k, kind, value, flags, hi, lo] =>
    if [hi, lo] ≠ wordBytes (crc16 [k, kind, value, flags]) then .inl .badCheck
    else if k ≠ 0x22#8 then .inl .unknownKind
    else
      match requestOf kind value flags with
      | some r => .inr r
      | none => .inl .unknownKind
  | _ => .inl .badCheck

/-! ## The AUDIO info word (R200) -/

/-- Code of a voice state. -/
def voiceCode (v : VoiceState) : Nat :=
  match v with
  | .idle => 0
  | .chime => 1
  | .speaking => 2

/-- Code of the class of the announcement in service; 0 NONE. -/
def currentClassCode (k : Option AnnClass) : Nat :=
  match k with
  | none => 0
  | some c => annClassCode c

/-- Code of a tap state; 0 NONE. -/
def tapCode (t : Option TapState) : Nat :=
  match t with
  | none => 0
  | some .waiting => 1
  | some .priming => 2
  | some .playing => 3
  | some .starved => 4

/-- The info word: phase in 15..14, voice state in 13..12, current class in 11..9, tap state in 8..6, mute in 5 (R200). -/
def infoWord (ph : Phase) (v : VoiceState) (k : Option AnnClass) (t : Option TapState) (mute : Bool) : BitVec 16 :=
  BitVec.ofNat 16 (ph.val * 16384 + voiceCode v * 4096 + currentClassCode k * 512 + tapCode t * 64 + (if mute then 32 else 0))

/-- The body of an AUDIO frame as bytes: the info word, then the 48 stereo frames in the order of PROGRAM_AUDIO (R200). -/
def audioBody (info : BitVec 16) (frames : List StereoFrame) : List Byte := wordBytes info ++ frameBytes frames

/-! ## The frames that the node sends (R199) -/

/-- The kind of a frame. -/
def SeatFrame.kind (f : SeatFrame) : FrameKind :=
  match f with
  | .audio _ _ => .audio
  | .video _ => .video
  | .caption _ _ => .caption
  | .screenLevel _ => .screenLevel
  | .answer _ _ => .answer
  | .state _ => .state
  | .unitReset => .unitReset

/-- A number for each answer. -/
def answerNumber (a : Answer) : Nat :=
  match a with
  | .accepted => 0
  | .refused .unknown => 1
  | .refused .badValue => 2
  | .refused .notAllowed => 3
  | .refused .nothing => 4

/-- A number for each attention state. -/
def attentionNumber (a : Attention) : Nat :=
  match a with
  | .awake => 0
  | .resting => 1
  | .dnd => 2

/-- A number for each screen state. -/
def screenNumber (x : Screen) : Nat :=
  match x with
  | .off => 0
  | .dim => 1
  | .on => 2

/-- The fields that a frame carries beside what chapter 12 lays out, each a number with the least bits that its values need
(chapter 8, table of frames; R3). The serial number of a CAPTION frame is the model's own and is not sent. -/
def SeatFrame.fields (f : SeatFrame) : List (Nat × Nat) :=
  match f with
  | .audio _ _ => []
  | .video c => (c.sequence.toNat, 16) :: c.payload.map fun b => (b.toNat, 8)
  | .caption c _ =>
    [(c.caption, 8), (c.language, 2), (annClassCode c.cls, 2), (if c.action = .show then 1 else 0, 1)]
  | .screenLevel n => [(n, 8)]
  | .answer k a => [(requestCode k, 8), (answerNumber a, 3)]
  | .state r =>
    [(r.program, 6), (r.volume, 5), (r.mute.toNat, 1), (r.language, 2), (r.stop, 7), (r.stopWake.toNat, 1),
     (attentionNumber r.attention, 2), (screenNumber r.screen, 2), (r.brightness, 4), (r.berth, 8)]
  | .unitReset => []

/-- Free bytes for the fields of a frame: at least as many as the fields need (log 42). -/
def SeatFrame.freeBytes (f : SeatFrame) : List Byte :=
  let values := f.fields.map fun x => x.1
  let bits := (f.fields.map fun x => x.2).sum
  (List.range (max ((bits + 7) / 8) (Config.frameLength f.kind values))).map (Config.frameByte f.kind values)

/-- The body of a frame: AUDIO as chapter 12 lays it out, the code of the request kind in a byte of ANSWER, nothing in
UNIT_RESET (chapter 8, table of frames); all else is free bytes (log 42). -/
def seatBody (f : SeatFrame) : List Byte :=
  match f with
  | .audio info frames => audioBody info frames
  | .answer k a =>
    let l := (SeatFrame.answer k a).freeBytes
    l.set (Config.answerPlace % l.length) (byteOf (requestCode k))
  | .unitReset => []
  | f => f.freeBytes

/-- A frame as the node sends it: the frame kind, free for every kind (log 42), the body, the frame check (R199). -/
def seatFrameBytes (f : SeatFrame) : List Byte := framed (Config.frameKind f.kind) (seatBody f)

/-- A CUT frame, which has no body (R199; chapter 8, table of frames). -/
def cutBytes : List Byte := framed (Config.frameKind .cut) []

/-- What the transmitter of a link is sending. -/
def Link.onLine (l : Link) : Option (List Byte) := l.sending.map seatFrameBytes

end Sys2Proof.Machine
end

