-- ==== Sys2Proof/Machine/Berths.lean ====
section
/-! DEFINITION. The Berth Controller's own operations (chapter 1): screen levels, activity, wake, emergency hold,
inactivity. -/

namespace Sys2Proof.Machine

/-- The time at which the inactivity timer reaches its limit: 600 s (R11, R12). -/
def inactivityLimit : Time := sec 600

/-- The value of an inactivity timer at a time, held at the limit (R11, R12). -/
def Inactivity.value (t : Inactivity) (now : Time) : Time :=
  match t with
  | .counting since => min inactivityLimit (now - since)
  | .held v => v

/-- The shown screen: ON under the emergency hold, else the screen field (R17, R19). -/
def Berth.shown (b : Berth) : Screen := if b.hold then .on else b.screen

/-- The screen level of a berth under an image's dim bank (R17). -/
def Berth.level (b : Berth) (im : Image) (bank : Nat) : Nat :=
  match b.shown with
  | .off => 0
  | .dim => im.level bank 0
  | .on => im.level bank b.brightness

/-- The screen level of a port under the active dim bank (R17, R131). -/
def State.screenLevel (s : State) (p : Port) : Nat := (s.berth p).level s.image s.profile.dimBank

/-- The level is recomputed, and a changed one is handed to an UP link in a SCREEN_LEVEL frame (R18). -/
def State.recompute (s : State) (p : Port) : State :=
  if s.inService p then
    if s.linkUp p then
      if (s.berth p).reported = some (s.screenLevel p) then s
      else (s.modLink p fun l => l.handControl (.screenLevel (s.screenLevel p))).modBerth p
             fun b => { b with reported := some (s.screenLevel p) }
    else s.modBerth p fun b => { b with reported := none }
  else s

/-- Passenger activity (R5). -/
def Berth.activity (b : Berth) (now : Time) : Berth :=
  match b.attention with
  | .awake => { b with timer := .counting now }
  | .resting => { b with attention := .awake, timer := .counting now, screen := if b.screen = .dim then .on else b.screen }
  | .dnd => b

/-- The activity step of a passenger request (R4, R5). Of DND on R9 says that a RESTING berth with a DIM screen stays DIM,
where R5 makes that screen ON: the screen keeps its state, and the rest of R5 stands (DESIGN CHOICE, log 37). -/
def Berth.requestActivity (b : Berth) (r : PassengerRequest) (now : Time) : Berth :=
  match r with
  | .dnd true => { b.activity now with screen := b.screen }
  | _ => b.activity now

/-- A wake (R13). -/
def Berth.wake (b : Berth) (now : Time) : Berth :=
  match b.attention with
  | .dnd => { b with screen := .on }
  | _ => { b with attention := .awake, timer := .counting now, screen := .on }

/-- DND on or off (R9). -/
def Berth.setDnd (b : Berth) (on : Bool) (now : Time) : Berth :=
  if on then
    match b.attention with
    | .dnd => b
    | _ => { b with attention := .dnd, timer := .held (b.timer.value now) }
  else
    match b.attention with
    | .dnd => { b with attention := .awake, timer := .counting now, screen := if b.screen = .dim then .on else b.screen }
    | _ => b

/-- The inactivity timer of an AWAKE berth reaches its limit (R12). -/
def Berth.rest (b : Berth) : Berth :=
  { b with attention := .resting, timer := .held inactivityLimit, screen := if b.screen = .on then .dim else b.screen }

/-- The wake event at a berth, and the recomputation that follows it (R13, R18). -/
def State.wake (s : State) (p : Port) : State := (s.modBerth p fun b => b.wake s.now).recompute p

/-- The emergency hold is set or cleared, and the level recomputed (R18, R19). -/
def State.setHold (s : State) (p : Port) (on : Bool) : State := (s.modBerth p fun b => { b with hold := on }).recompute p

/-- The passenger fields of a STATE frame (R3). -/
def State.snapshot (s : State) (p : Port) : BerthSnapshot :=
  let b := s.berth p
  { program := b.program, volume := b.volume, mute := b.mute, language := b.language, stop := b.stop, stopWake := b.stopWake,
    attention := b.attention, screen := b.screen, brightness := b.brightness, berth := s.berthNumber p }

/-- The headset indication of a STATUS frame delivered after the first: a change to present is activity (R14). -/
def State.takeHeadset (s : State) (p : Port) (present : Bool) : State :=
  if present && !(s.berth p).headset then
    (s.modBerth p fun b => { (b.activity s.now) with headset := true }).recompute p
  else s.modBerth p fun b => { b with headset := present }

/-- Every in-service berth's level is recomputed on a phase change (R20, R136). -/
def State.recomputeAll (s : State) : State := s.servicePorts.foldl State.recompute s

end Sys2Proof.Machine
end

