-- ==== Sys2Proof/Machine/Voice.lean ====
section
/-! DEFINITION. The Voice Arbiter (chapter 6): announcement table, delivery decisions, berth voices, outcomes, captions,
acknowledgements. -/

namespace Sys2Proof.Machine

/-! ## Entries -/

/-- The priority of an entry's class (R107). -/
def Entry.priority (e : Entry) : Nat := annClassCode e.desc.cls

/-- The position of an entry: how far it has played, or the lowest queued index before playout (R111). -/
def Entry.position (e : Entry) : Nat :=
  match e.playout with
  | .started n => n
  | .notStarted =>
    match e.queue with
    | [] => 0
    | b :: _ => b.index.toNat

/-- The class of an id held in the table. -/
def State.classOfId (s : State) (id : AnnId) : Option AnnClass := (s.entry? id).map fun e => e.desc.cls

/-- The priority of an id held in the table; 0 when it is not held. -/
def State.priorityOf (s : State) (id : AnnId) : Nat := ((s.entry? id).map Entry.priority).getD 0

/-- What placing a block did (R110). -/
inductive Placed where
  | late | overflow | kept
deriving DecidableEq, Repr

/-- A SPEECH block is placed in the queue of an entry (R110). -/
def Entry.place (e : Entry) (b : SpeechBlock) : Entry × Placed :=
  let late :=
    match e.playout with
    | .started n => decide (b.index.toNat < n)
    | .notStarted => false
  if late then (e, .late)
  else if e.queue.any fun q => q.index == b.index then (e, .late)
  else
    let q := insertBefore (fun x y => decide (x.index.toNat < y.index.toNat)) b e.queue
    if 8 < q.length then ({ e with queue := q.drop 1 }, .overflow) else ({ e with queue := q }, .kept)

/-- One announcement request at an entry: playout starts at 3 queued blocks, and goes on by one block (R111). The
answer is the entry's block for this block event. -/
def Entry.play (e : Entry) : Entry × Option (List Sample) :=
  if e.state = .speech then
    match e.playout, e.queue with
    | .notStarted, b :: r =>
      if 3 ≤ e.queue.length then ({ e with queue := r, playout := .started (b.index.toNat + 1) }, some b.samples) else (e, none)
    | .started _, b :: r => ({ e with queue := r, playout := .started (b.index.toNat + 1) }, some b.samples)
    | _, [] => (e, none)
  else (e, none)

/-! ## Voices -/

/-- The announcement a voice serves (R119). -/
def Serving.current (v : Serving) : Option AnnId :=
  match v with
  | .idle => none
  | .chime id => some id
  | .speaking id => some id

/-- The state of a voice as the Mixer sees it (R119, R26). -/
def Serving.state (v : Serving) : VoiceState :=
  match v with
  | .idle => .idle
  | .chime _ => .chime
  | .speaking _ => .speaking

/-- The id a port's voice serves. -/
def State.currentId (s : State) (p : Port) : Option AnnId := (s.berthVoice p).serving.current

/-- The class a port's voice serves. -/
def State.currentClass (s : State) (p : Port) : Option AnnClass := (s.currentId p).bind s.classOfId

/-- A port is in emergency service (R125). -/
def State.inEmergency (s : State) (p : Port) : Bool := s.currentClass p == some .emergency

/-- The voice is left free; its pending list stands. -/
def State.freeVoice (s : State) (p : Port) : State := s.modVoice p fun v => { v with serving := .idle }

/-- An id leaves a port's pending list. -/
def State.leavePending (s : State) (p : Port) (id : AnnId) : State :=
  s.modVoice p fun v => { v with pending := v.pending.filter fun x => x.1 ≠ id }

/-! ## Outcomes and captions -/

/-- The outcome of a port is fixed, once (R128). -/
def State.fix (s : State) (id : AnnId) (p : Port) (o : BerthOutcome) : State :=
  s.modRec id p fun r =>
    match r.role with
    | .fixed _ => r
    | _ => { r with role := .fixed o }

/-- The card of an entry (R127). -/
def Entry.card (e : Entry) (a : CardAction) : Card :=
  { caption := e.desc.caption, language := e.desc.language, cls := e.desc.cls, action := a }

/-- SHOW is handed while the link is UP, and the record's card becomes shown (R127). -/
def State.showCard (s : State) (id : AnnId) (p : Port) : State :=
  match s.entry? id with
  | none => s
  | some e =>
    if s.linkUp p then
      (s.modLink p fun l => l.handCard s.now (e.card .show)).modRec id p fun r => { r with card := true }
    else s

/-- CLEAR is handed for a card that is shown, while the link is UP, and the card is shown no more (R127). -/
def State.clearCard (s : State) (id : AnnId) (p : Port) : State :=
  match s.entry? id with
  | none => s
  | some e =>
    if e.recs.any fun r => r.port == p && r.card then
      let s1 := if s.linkUp p then s.modLink p fun l => l.handCard s.now (e.card .clear) else s
      s1.modRec id p fun r => { r with card := false }
    else s

/-! ## Delivery -/

/-- A delivery decision (R116). -/
inductive Decision where
  | unreachable
  | decline
  | caption
  | audio (wake : Bool)
deriving DecidableEq, Repr

/-- The table of R116 for a berth whose link is UP. -/
def decideFor (k : AnnClass) (b : Berth) (pr : Profile) : Decision :=
  match k, b.attention with
  | .emergency, _ => .audio true
  | .safety, .awake => .audio false
  | .safety, .resting => if pr.safetyCaption then .caption else .audio false
  | .safety, .dnd => .caption
  | .stop, .awake => .audio false
  | .stop, .resting => if b.stopWake then .audio true else .caption
  | .stop, .dnd => .caption
  | .service, .awake => if b.headset then .audio false else .caption
  | .service, .resting => if pr.serviceDecline then .decline else .caption
  | .service, .dnd => .decline

/-- The delivery decision for a class at a port (R116). -/
def State.decision (s : State) (k : AnnClass) (p : Port) : Decision :=
  if s.linkUp p then decideFor k (s.berth p) s.profile else .unreachable

/-- A berth enters emergency service: hold set, then the video flush, once per entry (R125, R157). -/
def State.enterEmergency (s : State) (p : Port) : State :=
  if (s.berth p).hold then s else (s.setHold p true).modLink p Link.flushVideo

/-- The hold is cleared when, the event's effects being done, the voice serves no EMERGENCY (R125, R19). -/
def State.settleHold (s : State) (p : Port) : State :=
  if (s.berth p).hold && !s.inEmergency p then s.setHold p false else s

/-- The voice takes an announcement: IN_SERVICE, card shown, and for an EMERGENCY the emergency measures (R118). -/
def State.serve (s : State) (p : Port) (e : Entry) (v : Serving) : State :=
  let s1 := s.modVoice p fun x => { x with serving := v }
  let s2 := s1.modRec e.desc.id p fun r => { r with role := .inService }
  let s3 := s2.showCard e.desc.id p
  if e.desc.cls = .emergency then s3.enterEmergency p else s3

/-- A berth's turn, with a decision made (R118). -/
def State.turn (s : State) (p : Port) (e : Entry) (d : Decision) : State :=
  let id := e.desc.id
  match d with
  | .unreachable => s.fix id p (.declined .unreachable)
  | .decline => s.fix id p (.declined .policy)
  | .caption => (s.fix id p .caption).showCard id p
  | .audio w =>
    let s1 := if w then s.wake p else s
    match e.state with
    | .leadIn => s1.serve p e (.chime id)
    | .speech =>
      if e.position ≤ 2000 then s1.serve p e (.speaking id)
      else (s1.fix id p .missed).showCard id p

/-- The voice serves a list of pending announcements from its head until one is taken in or the list is empty (R120). -/
def State.serveList (p : Port) : List (AnnId × Time) → State → State
  | [], s => s
  | x :: r, s =>
    let s1 := s.modVoice p fun v => { v with pending := r }
    let s2 :=
      match s1.entry? x.1 with
      | some e => s1.turn p e (s1.decision e.desc.cls p)
      | none => s1
    if s2.currentId p = none then State.serveList p r s2 else s2

/-- A voice left free serves its pending list, and the hold is settled (R120, R125). -/
def State.servePending (s : State) (p : Port) : State :=
  let s1 := if s.currentId p = none then State.serveList p (s.berthVoice p).pending s else s
  s1.settleHold p

/-- An announcement joins a port's pending list in order of priority, among equals last; of four the last is DECLINED
BUSY (R122). -/
def State.joinPending (s : State) (p : Port) (id : AnnId) : State :=
  let before (x y : AnnId × Time) : Bool := decide (s.priorityOf y.1 < s.priorityOf x.1)
  let l := insertBefore before (id, s.now) (s.berthVoice p).pending
  let s1 := (s.modVoice p fun v => { v with pending := l.take 3 }).modRec id p fun r => { r with role := .pending }
  (l.drop 3).foldl (fun t x => t.fix x.1 p (.declined .busy)) s1

/-- The current announcement is preempted: CUT PREEMPTED, its card cleared, the voice free (R121). -/
def State.preempt (s : State) (p : Port) (cur : AnnId) : State :=
  ((s.fix cur p (.cut .preempted)).clearCard cur p).freeVoice p

/-- A targeted berth meets an announcement (R117). A voice that a preemption leaves free serves its pending list (R120). -/
def State.meet (s : State) (id : AnnId) (p : Port) : State :=
  match s.entry? id with
  | none => s
  | some e =>
    let d := s.decision e.desc.cls p
    match d with
    | .audio _ =>
      match s.currentId p with
      | none => s.turn p e d
      | some cur =>
        if s.priorityOf cur < e.priority then ((s.preempt p cur).turn p e d).servePending p
        else s.joinPending p id
    | _ => s.turn p e d

/-- The current announcement of a port is dismissed, by SKIP or DND on: DISMISSED, its card cleared, and the pending
list is served (R123). -/
def State.dismiss (s : State) (p : Port) (cur : AnnId) : State :=
  (((s.fix cur p .dismissed).clearCard cur p).freeVoice p).servePending p

/-- A port's link has left UP: CUT LINK_LOST for the current announcement, DECLINED UNREACHABLE for the pending ones,
voice IDLE, hold clear, cards forgotten (R124). -/
def State.linkLoss (s : State) (p : Port) : State :=
  let v := s.berthVoice p
  let s1 :=
    match v.serving.current with
    | some id => s.fix id p (.cut .linkLost)
    | none => s
  let s2 := v.pending.foldl (fun t x => t.fix x.1 p (.declined .unreachable)) s1
  let s3 := s2.modVoice p fun x => { x with serving := .idle, pending := [] }
  let forget (r : BerthRec) : BerthRec := if r.port = p then { r with card := false } else r
  let table := s3.voice.table.map fun e => { e with recs := e.recs.map forget }
  let s4 := { s3 with voice := { s3.voice with table := table } }
  if (s4.berth p).hold then s4.setHold p false else s4

/-! ## Endings and acknowledgements -/

/-- The items of an ACK: one per berth record whose outcome is fixed, in ascending berth number (R128). -/
def ackItems (l : List BerthRec) : List AckItem :=
  l.filterMap fun r =>
    match r.role with
    | .fixed o => some { berth := r.berth, outcome := o }
    | _ => none

/-- An ACK is composed and handed to class A (R128). -/
def State.sendAck (s : State) (id : AnnId) (items : List AckItem) : State :=
  s.handOver (.ack id (totalsOf items) items)

/-- An id joins the closed-id list; of nine the oldest falls off (R114). -/
def State.closeId (s : State) (id : AnnId) : State :=
  { s with voice := { s.voice with closed := (pushDropOldest 8 s.voice.closed id).1 } }

/-- How the records of an entry that leaves the table are fixed: those in service and those pending (R126, R113). -/
def Entry.close (e : Entry) (served pend : BerthOutcome) : Entry :=
  { e with recs := e.recs.map fun r =>
      match r.role with
      | .inService => { r with role := .fixed served }
      | .pending => { r with role := .fixed pend }
      | .fixed _ => r }

/-- Whether a port's voice serves an id. -/
def State.serves (s : State) (id : AnnId) (p : Port) : Bool := s.currentId p == some id

/-- Steps 1 to 5 of an entry's ending (R126), or of its eviction (R113): outcomes fixed, voices freed, pending places
given up, cards cleared, ACK handed over, entry removed, id closed. -/
def State.removeEntry (s : State) (e : Entry) (served pend : BerthOutcome) : State :=
  let id := e.desc.id
  let s1 := s.modEntry id fun x => x.close served pend
  let s2 := allPorts.foldl (fun t p => (if t.serves id p then t.freeVoice p else t).leavePending p id) s1
  let s3 := e.recs.foldl (fun t r => t.clearCard id r.port) s2
  let s4 := s3.sendAck id (ackItems (e.close served pend).recs)
  ({ s4 with voice := { s4.voice with table := s4.voice.table.filter fun x => x.desc.id ≠ id } }).closeId id

/-- The outcomes of an entry's end: AUDIO, or CUT ABORTED when it was aborted (R126). -/
def endOutcome (r : Option EndReason) : BerthOutcome :=
  match r with
  | some .aborted => .cut .aborted
  | _ => .audio

/-- An entry ends, on its END packet or (none) its gap timeout; each voice it frees serves its pending list (R126). -/
def State.endEntry (s : State) (e : Entry) (r : Option EndReason) : State :=
  let freed := allPorts.filter (s.serves e.desc.id)
  freed.foldl State.servePending (s.removeEntry e (endOutcome r) .missed)

/-! ## Creation -/

/-- The languages match (R115). -/
def languageMatch (a b : Nat) : Bool := a == 0 || b == 0 || a == b

/-- A port is targeted by an announcement (R115). -/
def State.targeted (s : State) (d : Descriptor) (p : Port) : Bool :=
  s.inService p && decide (d.first ≤ s.berthNumber p ∧ s.berthNumber p ≤ d.last) &&
    (d.cls != .stop || (s.berth p).stop == d.stop) && languageMatch d.language (s.berth p).language

/-- The targeted ports, in ascending order (R115). -/
def State.targets (s : State) (d : Descriptor) : List Port := allPorts.filter (s.targeted d)

/-- An entry is created in a free place, and its targeted berths meet it in ascending port order (R108, R115, R117). -/
def State.createEntry (s : State) (d : Descriptor) (st : EntryState) (q : List SpeechBlock) : State :=
  let e : Entry := { desc := d, state := st, queue := q, playout := .notStarted, lastPacket := s.now,
                     recs := (s.targets d).map fun p => { port := p, berth := s.berthNumber p, role := .pending, card := false } }
  let s1 := { s with voice := { s.voice with table := s.voice.table ++ [e] } }
  (s.targets d).foldl (fun t p => t.meet d.id p) s1

/-- The entry of lowest priority, among equals the one created first (R113). -/
def lowestEntry (l : List Entry) : Option Entry :=
  l.foldl (fun acc e =>
    match acc with
    | none => some e
    | some a => if e.priority < a.priority then some e else some a) none

/-- The first packet of an unknown id: a free place, an eviction, or a decline (R108, R113). -/
def State.newAnnouncement (s : State) (d : Descriptor) (st : EntryState) (q : List SpeechBlock) : State :=
  if s.voice.table.length < 4 then s.createEntry d st q
  else
    match lowestEntry s.voice.table with
    | none => s
    | some low =>
      if low.priority < annClassCode d.cls then
        let freed := allPorts.filter (s.serves low.desc.id)
        let s1 := s.removeEntry low (.cut .evicted) (.cut .evicted)
        let s2 := { s1 with voice := { s1.voice with eviction := bump s1.voice.eviction } }
        freed.foldl State.servePending (s2.createEntry d st q)
      else
        let items := (s.targets d).map fun p => { berth := s.berthNumber p, outcome := .declined .nodeFull }
        let s1 := (s.sendAck d.id items).closeId d.id
        { s1 with voice := { s1.voice with nodeFull := bump s1.voice.nodeFull } }

/-! ## ANNOUNCE packets -/

/-- The entry enters SPEECH: every voice that chimes for it speaks (R109). -/
def State.enterSpeech (s : State) (id : AnnId) : State :=
  let s1 := s.modEntry id fun e => { e with state := .speech }
  allPorts.foldl (fun t p => t.modVoice p fun v => if v.serving = .chime id then { v with serving := .speaking id } else v) s1

/-- A SPEECH packet for a held entry: the entry goes to SPEECH and its block is placed (R108, R109, R110). -/
def State.takeSpeech (s : State) (e : Entry) (b : SpeechBlock) : State :=
  let id := e.desc.id
  let s1 := if e.state = .leadIn then s.enterSpeech id else s
  let (_, what) := e.place b
  let s2 := s1.modEntry id fun x => { (x.place b).1 with lastPacket := s.now }
  match what with
  | .late => { s2 with voice := { s2.voice with late := bump s2.voice.late } }
  | .overflow => { s2 with voice := { s2.voice with overflow := bump s2.voice.overflow } }
  | .kept => s2

/-- An ANNOUNCE packet, taken in RUNNING and discarded otherwise, by its id (R108). -/
def State.takeAnnounce (s : State) (d : Descriptor) (t : AnnTail) : State :=
  if s.running then
    if d.id ∈ s.voice.closed then s
    else
      match s.entry? d.id, t with
      | some e, .speech i l => s.takeSpeech e { index := i, samples := l }
      | some e, .fin r => s.endEntry e (some r)
      | some e, .leadIn => s.modEntry e.desc.id fun x => { x with lastPacket := s.now }
      | some e, .hold => s.modEntry e.desc.id fun x => { x with lastPacket := s.now }
      | none, .speech i l => s.newAnnouncement d .speech [{ index := i, samples := l }]
      | none, .leadIn => s.newAnnouncement d .leadIn []
      | none, .hold => s.newAnnouncement d .leadIn []
      | none, .fin _ => s
  else s

/-! ## The Voice Arbiter's commands -/

/-- ENTRY_LOST: 300 ms without a packet of its id end an entry with reason LOST (R112). -/
def execEntryLost (id : AnnId) (s : State) : Host.Outcome State Fault Refusal :=
  match s.entry? id with
  | none => .next s
  | some e =>
    let s1 := s.reach (e.lastPacket + ms 300)
    .next (({ s1 with voice := { s1.voice with lost := bump s1.voice.lost } }).endEntry e none)

/-- PENDING_WAIT_LIMIT: an announcement that waited 20,000 ms leaves the pending list MISSED, with a card (R120). -/
def execPendingWaitLimit (p : Port) (id : AnnId) (s : State) : Host.Outcome State Fault Refusal :=
  match (s.berthVoice p).pending.find? fun x => x.1 == id with
  | none => .next s
  | some x => .next ((((s.reach (x.2 + ms 20000)).leavePending p id).fix id p .missed).showCard id p)

end Sys2Proof.Machine
end

