-- ==== Sys2Proof/Machine/Links.lean ====
section
/-! DEFINITION. The Seat Link Controller (chapter 8): link states, bring-up, faults, hold-off, and the commands of a seat
link. -/

namespace Sys2Proof.Machine

/-- A link that takes frames: in service, and the node out of LOADING (R145). -/
def State.linkRuns (s : State) (p : Port) : Bool := s.inService p && !s.loading

/-- A link leaves UP for a state: queues discarded, hold cleared, link-up time 0, headset absent, reported level none,
announcements settled as link loss (R151, R21, R124). -/
def State.leaveUp (s : State) (p : Port) (st : LinkState) : State :=
  let s1 := s.modLink p fun l =>
    { l with state := st, hold := none, control := [], audio := none, video := [], waiting := [], outstanding := none,
             upSince := none }
  let s2 := s1.modBerth p fun b => { b with headset := false, reported := none }
  s2.linkLoss p

/-- The caption-0 card of a node in STRAP_FAULT (R127). -/
def strapFaultCard : Card := { caption := 0, language := 0, cls := .safety, action := .show }

/-- A link comes UP: the third good STATUS frame in a row, with its headset indication (R149). -/
def State.bringUp (s : State) (p : Port) (headset : Bool) : State :=
  let level := s.screenLevel p
  let s1 := s.modLink p fun l =>
    (Link.handControl { l with state := .up, goodCount := 0, lastGood := some s.now, hold := none, upSince := some s.now }
      (.state (s.snapshot p))).handControl (.screenLevel level)
  let s2 := s1.modBerth p fun b => { b with reported := some level, headset := headset }
  if s.startup.state = .strapFault then s2.modLink p fun l => l.handCard s.now strapFaultCard else s2

/-- A received frame that is discarded and counted as a receive error, except in the hold-off and in LOCKED; one that
fails the check also ends a bring-up count (R146, R149). -/
def State.frameError (s : State) (p : Port) (cause : FrameError) : State :=
  if s.linkRuns p then
    let l := s.links[p]
    let count (x : LinkCounters) : LinkCounters := { x with receiveError := bump x.receiveError }
    match l.state with
    | .up => s.modLinkCounters p count
    | .down =>
      if l.holdOff.isSome then s
      else
        (s.modLinkCounters p count).modLink p fun x =>
          if cause = .badCheck then { x with goodCount := 0 } else x
    | .fault => s
    | .locked => s
  else s

/-- A fault (R153): history, locking, leaving UP, CUT and UNIT_RESET, hold-off. -/
def State.fault (s : State) (p : Port) : State :=
  let recent := s.links[p].faults.filter fun t => decide (s.now < t + sec 60)
  let history := recent ++ [s.now]
  let s1 := s.leaveUp p .fault
  s1.modLink p fun l =>
    Link.sendReset { l with faults := history.drop (history.length - 2), locking := decide (2 ≤ recent.length),
                            holdOff := some (s.now + ms 500),
                            counters := { l.counters with fault := bump l.counters.fault } }

/-- A BERTH_RESET of an in-service port (R155). -/
def State.resetLink (s : State) (p : Port) : State :=
  let s1 := if s.linkUp p then s.leaveUp p .down else s
  s1.modLink p fun l =>
    Link.sendReset { l with state := .down, goodCount := 0, lastGood := none, holdOff := some (s.now + ms 500),
                            faults := [], locking := false }

/-- The link-up time in whole seconds, sticking at 65,535 (R161). -/
def Link.upSeconds (l : Link) (now : Time) : Nat :=
  match l.upSince with
  | none => 0
  | some t => min 65535 ((now - t) / sec 1)

/-- An acknowledgement matches the outstanding card: caption number and action (R159). -/
def Link.ackMatches (l : Link) (caption : Nat) (action : CardAction) : Bool :=
  match l.outstanding with
  | some o => o.card.caption == caption && o.card.action == action
  | none => false

/-! ## Commands -/

/-- STATUS: a frame that passes the check, good when the unit is ready (R146, R149, R150, R14). -/
def execStatus (p : Port) (headset ready : Bool) (s : State) : Host.Outcome State Fault Refusal :=
  if s.linkRuns p then
    let l := s.links[p]
    match l.state with
    | .up =>
      if ready then .next ((s.modLink p fun x => { x with lastGood := some s.now }).takeHeadset p headset)
      else .next s
    | .down =>
      if l.holdOff.isSome then .next s
      else if ready then
        if l.goodCount < 2 then .next (s.modLink p fun x => { x with goodCount := x.goodCount + 1, lastGood := some s.now })
        else .next (s.bringUp p headset)
      else .next (s.modLink p fun x => { x with goodCount := 0 })
    | .fault => .next s
    | .locked => .next s
  else .next s

/-- GOOD_COUNT_TIMEOUT: 100 ms in DOWN since last good return the good count to 0 (R149). -/
def execGoodCountTimeout (p : Port) (s : State) : Host.Outcome State Fault Refusal :=
  let l := s.links[p]
  match l.state, l.lastGood with
  | .down, some t =>
    if 0 < l.goodCount then .next ((s.reach (t + ms 100)).modLink p fun x => { x with goodCount := 0 }) else .next s
  | _, _ => .next s

/-- STATUS_WATCH_EXPIRY: 100 ms in UP since last good take the link DOWN, and a link loss is counted (R150, R151). -/
def execStatusWatchExpiry (p : Port) (s : State) : Host.Outcome State Fault Refusal :=
  let l := s.links[p]
  match l.state, l.lastGood with
  | .up, some t =>
    let s1 := (s.reach (t + ms 100)).leaveUp p .down
    .next (s1.modLink p fun x =>
      { x with goodCount := 0, holdOff := none, counters := { x.counters with linkLoss := bump x.counters.linkLoss } })
  | _, _ => .next s

/-- HOLD_FRAME: in UP with the hold clear it sets the hold; otherwise it is discarded (R152). -/
def execHoldFrame (p : Port) (s : State) : Host.Outcome State Fault Refusal :=
  if s.linkRuns p && s.linkUp p then
    .next (s.modLink p fun l => if l.hold = none then { l with hold := some s.now } else l)
  else .next s

/-- RESUME: in UP it clears a set hold, and the video flow goes on (R152, R147). -/
def execResume (p : Port) (s : State) : Host.Outcome State Fault Refusal :=
  if s.linkRuns p && s.linkUp p then .next (s.modLink p fun l => Link.kick { l with hold := none })
  else .next s

/-- CAPTION_ACK: in UP it releases the outstanding card it matches, and is otherwise counted stray (R159). -/
def execCaptionAck (p : Port) (caption : Nat) (action : CardAction) (s : State) : Host.Outcome State Fault Refusal :=
  if s.linkRuns p && s.linkUp p then
    if s.links[p].ackMatches caption action then .next (s.modLink p fun l => l.releaseCard s.now)
    else .next (s.modLinkCounters p fun x => { x with strayAck := bump x.strayAck })
  else .next s

/-- SEAT_FRAME_ERROR: a frame failing the frame check or of unknown kind (R146, R149). -/
def execSeatFrameError (p : Port) (cause : FrameError) (s : State) : Host.Outcome State Fault Refusal :=
  .next (s.frameError p cause)

/-- LINK_FAULT: a hold of 50 ms faults the link (R152, R153). -/
def execLinkFault (p : Port) (s : State) : Host.Outcome State Fault Refusal :=
  match s.links[p].state, s.links[p].hold with
  | .up, some t => .next ((s.reach (t + ms 50)).fault p)
  | _, _ => .next s

/-- HOLD_OFF_END: a faulted link goes to LOCKED when locking, else to DOWN; a link in DOWN is ready for bring-up (R153,
R155). -/
def execHoldOffEnd (p : Port) (s : State) : Host.Outcome State Fault Refusal :=
  match s.links[p].holdOff with
  | none => .next s
  | some t =>
    .next ((s.reach t).modLink p fun l =>
      match l.state with
      | .fault =>
        if l.locking then { l with state := .locked, holdOff := none }
        else { l with state := .down, goodCount := 0, lastGood := none, holdOff := none }
      | _ => { l with holdOff := none })

/-- CAPTION_ACK_TIMEOUT: the outstanding card is released and counted, and the next card is sent (R159). -/
def execCaptionAckTimeout (p : Port) (s : State) : Host.Outcome State Fault Refusal :=
  match s.links[p].cardDeadline with
  | none => .next s
  | some t =>
    let s1 := s.reach t
    .next (s1.modLink p fun l =>
      Link.releaseCard { l with counters := { l.counters with captionTimeout := bump l.counters.captionTimeout } } s1.now)

/-- LINK_FRAME_SENT: the transmitter ends its frame and takes the next (R147, R158). -/
def execLinkFrameSent (p : Port) (s : State) : Host.Outcome State Fault Refusal :=
  .next (s.modLink p fun l => l.frameSent s.now)

/-- INACTIVITY_EXPIRY: an AWAKE berth's timer reaches 600 s: RESTING, an ON screen DIM, the level recomputed (R12). -/
def execInactivityExpiry (p : Port) (s : State) : Host.Outcome State Fault Refusal :=
  match (s.berth p).attention, (s.berth p).timer with
  | .awake, .counting t =>
    if s.inService p then .next ((((s.reach (t + inactivityLimit)).modBerth p Berth.rest)).recompute p) else .next s
  | _, _ => .next s

end Sys2Proof.Machine
end

