-- ==== Sys2Proof/Machine/Taps.lean ====
section
/-! DEFINITION. The Tap Controller (chapter 3): catalogue, taps, playout queues, WANT records, video forwarding. -/

namespace Sys2Proof.Machine

/-! ## Sequence comparison (R52) -/

/-- The distance of a sequence ahead of expected, modulo 65,536 (R52). -/
def seqDistance (s e : Seq) : Nat := (s - e).toNat

/-- A sequence is behind expected (R52). -/
def seqBehind (s e : Seq) : Bool := decide (32768 ≤ seqDistance s e)

/-! ## Finding entries and taps -/

/-- The catalogue entry of a program (R42). -/
def State.catEntry? (s : State) (program : Nat) : Option CatEntry := s.taps.catalogue.find? fun e => e.program == program

/-- The tap of a program (R46). -/
def State.tap? (s : State) (program : Nat) : Option Tap := s.taps.taps.find? fun t => t.program == program

/-- Change the tap of a program. -/
def State.modTap (s : State) (program : Nat) (f : Tap → Tap) : State :=
  s.modTaps fun t => { t with taps := t.taps.map fun x => if x.program = program then f x else x }

/-! ## Taps and WANT records -/

/-- A tap in WAITING with nothing received (R48). It has kept no packet, and R46 and R48 give its last kept no value: it
holds the time of creation, which nothing reads before a packet is kept (DESIGN CHOICE, log 38). -/
def Tap.fresh (program : Nat) (source : Option Nat) (now : Time) : Tap :=
  { program := program, source := source, state := .waiting, expected := none, queue := [], lastKept := now }

/-- A tap is created in its place in program order, with its catalogue entry's source (R48, R49). -/
def State.createTap (s : State) (program : Nat) : State :=
  let source := (s.catEntry? program).map CatEntry.source
  s.modTaps fun t =>
    { t with taps := insertBefore (fun x y => decide (x.program < y.program)) (Tap.fresh program source s.now) t.taps }

/-- An in-service berth selects a program. -/
def State.isSelected (s : State) (program : Nat) : Bool := s.servicePorts.any fun p => (s.berth p).program == program

/-- A WANT of the tapped programs in ascending order is handed to class C; the 100 ms period starts from it while the
set is not empty (R50, R51). -/
def State.sendWant (s : State) : State :=
  let s1 := s.handOver (.want (s.taps.taps.map Tap.program))
  s1.modTaps fun t => { t with wantDue := if t.taps = [] then none else some (s.now + ms 100) }

/-- A berth's program field has changed from `p` to `q` while RUNNING: taps released and created, a WANT at once if the
tapped set changed (R48). -/
def State.selectionChanged (s : State) (p q : Nat) : State :=
  let release := decide (p ≠ 0) && !s.isSelected p && (s.tap? p).isSome
  let s1 := if release then s.modTaps fun t => { t with taps := t.taps.filter fun x => x.program ≠ p } else s
  let create := decide (q ≠ 0) && (s1.tap? q).isNone
  let s2 := if create then s1.createTap q else s1
  if release || create then s2.sendWant else s2

/-- Taps for every distinct program that in-service berths select, at entry to RUNNING (R47). -/
def State.buildTaps (s : State) : State :=
  s.servicePorts.foldl (fun t p =>
    let q := (t.berth p).program
    if q ≠ 0 ∧ (t.tap? q).isNone then t.createTap q else t) s

/-! ## The catalogue -/

/-- The tap of a program takes a new source from the catalogue: its queue is emptied and it goes to WAITING, unless it
had none (R49). -/
def Tap.retarget (t : Tap) (source : Nat) : Tap :=
  match t.source with
  | none => { t with source := some source }
  | some old => if old = source then t else { t with source := some source, queue := [], expected := none, state := .waiting }

/-- One entry of a CARRY record from a station (R43, R49). -/
def State.catalogueEntry (s : State) (source : Nat) (e : CarryEntry) : State :=
  if e.program = 0 ∨ 63 < e.program then s
  else
    let new : CatEntry := { program := e.program, source := source, kind := e.kind, status := e.status, listed := s.now }
    let put (s : State) : State := s.modTaps fun t =>
      { t with catalogue := insertBefore (fun x y => decide (x.program < y.program)) new
                              (t.catalogue.filter fun x => x.program ≠ e.program) }
    match s.catEntry? e.program with
    | none => (put s).modTap e.program fun t => t.retarget source
    | some h =>
      if h.source = source then put s
      else if source < h.source then (put s).modTap e.program fun t => t.retarget source
      else s

/-- A CARRY record at the Tap Controller, entry by entry (R43). -/
def State.takeCatalogue (s : State) (source : Nat) (l : List CarryEntry) : State :=
  l.foldl (fun t e => t.catalogueEntry source e) s

/-! ## The playout queue (R53 to R56) -/

/-- What a PROGRAM_AUDIO packet came to at its tap. -/
inductive Arrival where
  | late | duplicate | resync | slip | kept
deriving DecidableEq, Repr

/-- A packet that starts a queue: expected is its sequence, the tap is PRIMING (R53, R54). -/
def Tap.start (t : Tap) (now : Time) (k : AudioPacket) : Tap :=
  { t with state := .priming, expected := some k.sequence, queue := [k], lastKept := now }

/-- The state of a tap after a packet is kept and the queue holds n (R56). -/
def stateAfterKept (st : TapState) (depth n : Nat) : TapState :=
  match st with
  | .priming => if depth / 2 ≤ n then .playing else .priming
  | .starved => .priming
  | x => x

/-- A packet is kept: placed in order of distance, a full queue slipping its oldest (R55, R56). -/
def Tap.keep (t : Tap) (depth : Nat) (now : Time) (e : Seq) (k : AudioPacket) : Tap × Arrival :=
  let q := insertBefore (fun x y => decide (seqDistance x.sequence e < seqDistance y.sequence e)) k t.queue
  if depth < q.length then
    let r := q.drop 1
    ({ t with queue := r, expected := ((r.head?).map AudioPacket.sequence).or t.expected, lastKept := now,
              state := stateAfterKept t.state depth r.length }, .slip)
  else ({ t with queue := q, lastKept := now, state := stateAfterKept t.state depth q.length }, .kept)

/-- A PROGRAM_AUDIO packet at its tap (R53, R54). -/
def Tap.arrive (t : Tap) (depth : Nat) (now : Time) (source : Nat) (k : AudioPacket) : Tap × Arrival :=
  match t.state, t.expected with
  | .waiting, _ => (Tap.start { t with source := some source } now k, .kept)
  | _, none => (Tap.start { t with source := some source } now k, .kept)
  | _, some e =>
    if seqBehind k.sequence e then (t, .late)
    else if 256 ≤ seqDistance k.sequence e then (t.start now k, .resync)
    else if t.queue.any fun x => x.sequence == k.sequence then (t, .duplicate)
    else t.keep depth now e k

/-- The counter of an arrival counts one (R62). -/
def TapCtl.countArrival (t : TapCtl) (a : Arrival) : TapCtl :=
  match a with
  | .late => { t with late := bump t.late }
  | .duplicate => { t with duplicate := bump t.duplicate }
  | .resync => { t with resync := bump t.resync }
  | .slip => { t with slip := bump t.slip }
  | .kept => t

/-- A packet of a tapped program from another station than the tap's source (R49, R60, R62). -/
def State.countForeign (s : State) : State := s.modTaps fun t => { t with foreign := bump t.foreign }

/-- A PROGRAM_AUDIO packet at the Tap Controller (R53). -/
def State.takeProgramAudio (s : State) (source program : Nat) (k : AudioPacket) : State :=
  if s.running then
    match s.tap? program with
    | none => s
    | some t =>
      if t.source.isSome ∧ t.source ≠ some source then s.countForeign
      else
        let (t', a) := t.arrive s.image.depth s.now source k
        (s.modTap program fun _ => t').modTaps fun c => c.countArrival a
  else s

/-- A berth is forwarded a chunk of a program: it selects the program, its screen is ON, its hold clear, its link UP
(R60). -/
def State.showsVideo (s : State) (program : Nat) (p : Port) : Bool :=
  let b := s.berth p
  s.inService p && b.program == program && b.screen == .on && !b.hold && s.linkUp p

/-- A PROGRAM_VIDEO packet at the Tap Controller (R60). -/
def State.takeProgramVideo (s : State) (source program : Nat) (c : Chunk) : State :=
  if s.running then
    match s.tap? program with
    | none => s
    | some t =>
      if t.source ≠ some source then s.countForeign
      else if (s.catEntry? program).map CatEntry.kind = some .audio then s
      else (allPorts.filter (s.showsVideo program)).foldl (fun u p => u.modLink p fun l => l.handVideo c) s
  else s

/-! ## Answering the Mixer (R58) -/

/-- A tap's answer to a block request. -/
inductive TapAnswer where
  | block (trim : Int) (frames : List StereoFrame)
  | missing
  | none
deriving DecidableEq, Repr

/-- A tap answers a block request and goes to its state after answering (R58). -/
def Tap.request (t : Tap) : Tap × TapAnswer :=
  match t.state, t.queue, t.expected with
  | .playing, k :: r, some e =>
    if k.sequence = e then ({ t with queue := r, expected := some (e + 1) }, .block k.trim k.frames)
    else ({ t with expected := some (e + 1) }, .missing)
  | .playing, k :: r, Option.none => ({ t with queue := r, expected := some (k.sequence + 1) }, .block k.trim k.frames)
  | .playing, [], _ => ({ t with state := .starved }, .none)
  | _, _, _ => (t, .none)

/-- The counter of an answer counts one: a gap for MISSING, a starve for the move to STARVED (R58, R62). -/
def TapCtl.countAnswer (t : TapCtl) (starved : Bool) (a : TapAnswer) : TapCtl :=
  match a with
  | .missing => { t with gap := bump t.gap }
  | .none => if starved then { t with starve := bump t.starve } else t
  | .block _ _ => t

/-! ## Commands -/

/-- WANT_PERIOD: 100 ms since the last WANT, while taps exist (R51). -/
def execWantPeriod (s : State) : Host.Outcome State Fault Refusal :=
  match s.taps.wantDue with
  | some t => if s.running then .next (s.reach t).sendWant else .next s
  | none => .next s

/-- CATALOGUE_EXPIRY: an entry not listed for 1,000 ms is removed; a tap on its program keeps its source (R44, R49). -/
def execCatalogueExpiry (program : Nat) (s : State) : Host.Outcome State Fault Refusal :=
  match s.catEntry? program with
  | none => .next s
  | some e =>
    .next ((s.reach (e.listed + ms 1000)).modTaps fun t =>
      { t with catalogue := t.catalogue.filter fun x => x.program ≠ program })

/-- STARVED_TIMEOUT: a tap in STARVED goes to WAITING 300 ms after its last kept packet (R57). -/
def execStarvedTimeout (program : Nat) (s : State) : Host.Outcome State Fault Refusal :=
  match s.tap? program with
  | none => .next s
  | some t =>
    if t.state = .starved then
      .next ((s.reach (t.lastKept + ms 300)).modTap program fun x => { x with state := .waiting, expected := none, queue := [] })
    else .next s

end Sys2Proof.Machine
end

