-- ==== Sys2Proof/Machine/Requests.lean ====
section
/-! DEFINITION. Passenger requests (chapter 1, sections 1.2 to 1.4; R123; R199, R200). -/

namespace Sys2Proof.Machine

/-- The voice serves an announcement that DND on dismisses: any but an EMERGENCY (R9, R123). -/
def State.dndDismisses (s : State) (p : Port) : Option AnnId :=
  match s.currentId p with
  | none => none
  | some id => if s.classOfId id = some .emergency then none else some id

/-- The effect of SKIP at the voice, and its answer (R10, R123). -/
def State.skipEffect (s : State) (p : Port) : State × Answer :=
  match s.currentId p with
  | none => (s, .refused .nothing)
  | some id =>
    match s.classOfId id with
    | some .service => (s.dismiss p id, .accepted)
    | some .stop => (s.dismiss p id, .accepted)
    | _ => (s, .refused .notAllowed)

/-- The request's own effect, and its answer (R6 to R10, R15, R16). -/
def State.requestEffect (s : State) (p : Port) (r : PassengerRequest) : State × Answer :=
  match r with
  | .select q =>
    if q ≠ 0 ∧ (63 < q ∨ (s.catEntry? q).isNone) then (s, .refused .unknown)
    else
      let old := (s.berth p).program
      let s1 := s.modBerth p fun b => { b with program := q }
      (if s.running ∧ old ≠ q then s1.selectionChanged old q else s1, .accepted)
  | .volume v => (s.modBerth p fun b => { b with volume := min 31 v }, .accepted)
  | .mute on => (s.modBerth p fun b => { b with mute := on }, .accepted)
  | .language v =>
    if v ≤ 3 then (s.modBerth p fun b => { b with language := v }, .accepted) else (s, .refused .badValue)
  | .dnd on =>
    let s1 := s.modBerth p fun b => b.setDnd on s.now
    match on, s.dndDismisses p with
    | true, some id => (s1.dismiss p id, .accepted)
    | _, _ => (s1, .accepted)
  | .stop v w =>
    if v ≤ 99 then (s.modBerth p fun b => { b with stop := v, stopWake := w }, .accepted) else (s, .refused .badValue)
  | .screen on => (s.modBerth p fun b => { b with screen := if on then .on else .off }, .accepted)
  | .brightness v => (s.modBerth p fun b => { b with brightness := min 15 v }, .accepted)
  | .skip => s.skipEffect p

/-- The ANSWER frame is handed to the link; a refusal is counted (R4, R23). -/
def State.answer (s : State) (p : Port) (k : RequestKind) (a : Answer) : State :=
  let s1 := s.modLink p fun l => l.handControl (.answer k a)
  match a with
  | .accepted => s1
  | .refused _ => { s1 with berths := { s1.berths with refusals := bump s1.berths.refusals } }

/-- A passenger request taken: counted, the activity step, its own effect, one ANSWER, then the level recomputed once
(R4, R5, R18, R23). What the activity step leaves of the screen under DND on is log 37. -/
def State.doRequest (s : State) (p : Port) (r : PassengerRequest) : State :=
  let s0 := { s with berths := { s.berths with requests := bump s.berths.requests } }
  let s1 := s0.modBerth p fun b => b.requestActivity r s.now
  let (s2, a) := s1.requestEffect p r
  (s2.answer p (requestKind r) a).recompute p

/-- A passenger request is taken from an in-service port whose link is UP, and discarded otherwise (R4, R146). -/
def State.takeRequest (s : State) (p : Port) (r : PassengerRequest) : State :=
  if s.linkRuns p && s.linkUp p then s.doRequest p r else s

/-! ## Commands -/

/-- SELECT (R6). -/
def execSelect (p : Port) (program : Nat) (s : State) : Host.Outcome State Fault Refusal :=
  .next (s.takeRequest p (.select program))

/-- VOLUME (R7). -/
def execVolume (p : Port) (level : Nat) (s : State) : Host.Outcome State Fault Refusal :=
  .next (s.takeRequest p (.volume level))

/-- MUTE (R7). -/
def execMute (p : Port) (on : Bool) (s : State) : Host.Outcome State Fault Refusal :=
  .next (s.takeRequest p (.mute on))

/-- LANGUAGE (R8). -/
def execLanguage (p : Port) (value : Nat) (s : State) : Host.Outcome State Fault Refusal :=
  .next (s.takeRequest p (.language value))

/-- STOP (R8). -/
def execStop (p : Port) (value : Nat) (wake : Bool) (s : State) : Host.Outcome State Fault Refusal :=
  .next (s.takeRequest p (.stop value wake))

/-- DND (R9, R123). -/
def execDnd (p : Port) (on : Bool) (s : State) : Host.Outcome State Fault Refusal :=
  .next (s.takeRequest p (.dnd on))

/-- SCREEN (R15). -/
def execScreen (p : Port) (on : Bool) (s : State) : Host.Outcome State Fault Refusal :=
  .next (s.takeRequest p (.screen on))

/-- BRIGHTNESS (R16). -/
def execBrightness (p : Port) (level : Nat) (s : State) : Host.Outcome State Fault Refusal :=
  .next (s.takeRequest p (.brightness level))

/-- SKIP (R10, R123). -/
def execSkip (p : Port) (s : State) : Host.Outcome State Fault Refusal :=
  .next (s.takeRequest p .skip)

/-- REQUEST: the frame is checked and read, and its request delivered; a bad check or an unknown kind is a receive
error (R146, R199, R200). -/
def execRequest (p : Port) (frame : List Byte) (s : State) : Host.Outcome State Fault Refusal :=
  match readRequest frame with
  | .inl cause => .next (s.frameError p cause)
  | .inr r => .next (s.takeRequest p r)

end Sys2Proof.Machine
end

