-- ==== Sys2Proof/Machine/Carry.lean ====
section
/-! DEFINITION. The Carry Controller (chapter 4): feed channels, demand, the carry decision, CARRY records, shadowing,
the level monitor. -/

namespace Sys2Proof.Machine

/-! ## Channels -/

/-- A channel is in use: its configuration has a program (R64). -/
def State.inUse (s : State) (c : Chan) : Bool := s.image.channels[c].program != 0

/-- The program a channel feeds. -/
def State.chanProgram (s : State) (c : Chan) : Nat := s.image.channels[c].program

/-- A channel sends: CARRIED or LINGER (section 4.4). -/
def Channel.carried (x : Channel) : Bool := x.state == .carried || x.state == .linger

/-- The listed status of a state (R78); none for a channel that is not listed. -/
def listedStatus (st : ChanState) : Option CarryStatus :=
  match st with
  | .unused => none
  | .idle => some .idle
  | .carried => some .carried
  | .linger => some .carried
  | .refused => some .refused
  | .shadowed => none

/-- The listed status of a channel in use. -/
def State.listed (s : State) (c : Chan) : Option CarryStatus :=
  if s.inUse c then listedStatus (s.chan c).state else none

/-- The entries of a CARRY record, in ascending channel index (R79). -/
def State.carryList (s : State) : List CarryEntry :=
  allChans.filterMap fun c =>
    (s.listed c).map fun st => { program := s.chanProgram c, kind := s.image.channels[c].kind, status := st }

/-- A CARRY record is handed to class C while RUNNING, and the 250 ms period starts from it while the list holds an
entry (R79, R80). -/
def State.sendCarry (s : State) : State :=
  if s.running then
    let s1 := s.handOver (.carry s.carryList)
    { s1 with carry := { s1.carry with carryDue := if s.carryList = [] then none else some (s.now + ms 250) } }
  else s

/-! ## The carry decision (R74 to R76) -/

/-- One channel as the carry decision reads it. -/
structure Standing where
  chan      : Chan
  program   : Nat
  demand    : Nat
  state     : ChanState
  lingerEnd : Option Time
deriving DecidableEq, Repr

/-- A channel has incumbency: CARRIED or LINGER (R75). -/
def Standing.incumbent (x : Standing) : Bool := x.state == .carried || x.state == .linger

/-- One candidate ranks before another: more stations, then incumbency, then the lower program number (R75). -/
def ranksBefore (x y : Standing) : Bool :=
  if x.demand ≠ y.demand then decide (y.demand < x.demand)
  else if x.incumbent ≠ y.incumbent then x.incumbent
  else decide (x.program < y.program)

/-- One lingering channel is stopped before another: the earlier linger end, among equals the higher program (R76). -/
def stopsBefore (x y : Standing) : Bool :=
  let a := x.lingerEnd.getD 0
  let b := y.lingerEnd.getD 0
  if a ≠ b then decide (a < b) else decide (y.program < x.program)

/-- The channels that a carry decision reads: in use and not SHADOWED. A CARRIED one with an empty demand set lingers
from now on (R76 step 2). -/
def State.standings (s : State) : List Standing :=
  (allChans.filter fun c => s.inUse c && (s.chan c).state != .shadowed).map fun c =>
    let x := s.chan c
    let lingers := x.state == .carried && x.demand.isEmpty
    { chan := c, program := s.chanProgram c, demand := x.demand.length,
      state := if lingers then .linger else x.state,
      lingerEnd := if lingers then some (s.now + ms 2000) else x.lingerEnd }

/-- How many candidates the carry decision carries, and which lingering channels it stops: the budget less the
lingering channels that stay (R76 step 3). -/
structure Decided where
  carried : List Standing
  refused : List Standing
  linger  : List Standing
  idle    : List Standing
deriving DecidableEq, Repr

/-- The carry decision on the standings of the channels (R76). -/
def decideCarry (budget : Nat) (l : List Standing) : Decided :=
  let candidates := sortBy ranksBefore (l.filter fun x => decide (0 < x.demand))
  let lingering := sortBy stopsBefore (l.filter fun x => x.demand == 0 && x.state == .linger)
  let others := l.filter fun x => x.demand == 0 && x.state != .linger
  let stopped := min lingering.length (candidates.length + lingering.length - budget)
  let room := budget - (lingering.length - stopped)
  { carried := candidates.take room, refused := candidates.drop room, linger := lingering.drop stopped,
    idle := lingering.take stopped ++ others }

/-! ## The end of a level window (R84, R85) -/

/-- The change of trim that a peak calls for (R84). -/
def trimChange (peak : Nat) : Int :=
  if 26000 < peak then -1
  else if peak < 13000 ∧ 1000 < peak then 1
  else 0

/-- The end of a level window of 1,000 blocks: the trim changed and clamped; AUTO starts anew, ONE_SHOT becomes MANUAL
(R84). -/
def Channel.endWindow (x : Channel) (cfg : ChannelConfig) : Channel :=
  match x.window with
  | none => x
  | some w =>
    if w.count < 1000 then x
    else
      { x with trim := max cfg.trimMin (min cfg.trimMax (x.trim + trimChange w.peak)), window := none,
               mode := if x.mode = .oneShot then .manual else x.mode }

/-- A running level window is abandoned (R85); one that has counted its 1,000 blocks has ended, and ends first (R84, log
16). -/
def Channel.abandon (x : Channel) (cfg : ChannelConfig) : Channel := { x.endWindow cfg with window := none }

/-- A channel takes a state from the carry decision: a linger end only in LINGER, no level window unless carried (R76,
R85). -/
def Channel.assign (x : Channel) (cfg : ChannelConfig) (st : ChanState) (le : Option Time) : Channel :=
  let y := { x with state := st, lingerEnd := le }
  if y.carried then y else y.abandon cfg

/-- The states of all channels are set together (R74, R76). -/
def State.applyDecision (s : State) (d : Decided) : State :=
  let set (st : ChanState) (u : State) (x : Standing) : State :=
    u.modChan x.chan fun y => y.assign s.image.channels[x.chan] st none
  let s1 := d.carried.foldl (set .carried) s
  let s2 := d.refused.foldl (set .refused) s1
  let s3 := d.idle.foldl (set .idle) s2
  d.linger.foldl (fun u x => u.modChan x.chan fun y => y.assign s.image.channels[x.chan] .linger x.lingerEnd) s3

/-- The carry decision, in RUNNING: one CARRY record follows when it changed the listed status of any channel (R74,
R76, R80). -/
def State.carryDecision (s : State) : State :=
  if s.running then
    let s1 := s.applyDecision (decideCarry s.image.carryBudget s.standings)
    if s1.carryList = s.carryList then s1 else s1.sendCarry
  else s

/-! ## Demand (R72, R73) -/

/-- A station is put in a demand set with a new expiry (R72). -/
def Channel.addDemand (x : Channel) (station : Nat) (expiry : Time) : Channel :=
  { x with demand := insertBefore (fun a b => decide (a.1 < b.1)) (station, expiry) (x.demand.filter fun d => d.1 ≠ station) }

/-- A station is removed from a demand set (R72, R73). -/
def Channel.dropDemand (x : Channel) (station : Nat) : Channel :=
  { x with demand := x.demand.filter fun d => d.1 ≠ station }

/-- A station is in a demand set. -/
def Channel.wantedBy (x : Channel) (station : Nat) : Bool := x.demand.any fun d => d.1 == station

/-- A WANT record at one channel: its station added, renewed or removed (R72). -/
def State.wantAt (s : State) (station : Nat) (programs : List Nat) (c : Chan) : State :=
  if s.inUse c && (s.chan c).state != .shadowed then
    if s.chanProgram c ∈ programs then s.modChan c fun x => x.addDemand station (s.now + ms 350)
    else s.modChan c fun x => x.dropDemand station
  else s

/-- A WANT record at the Carry Controller: taken whole in RUNNING, and the decision runs if any set's membership
changed (R72). -/
def State.takeWant (s : State) (station : Nat) (programs : List Nat) : State :=
  if s.running then
    let s1 := allChans.foldl (fun t c => t.wantAt station programs c) s
    if allChans.any fun c => (s1.chan c).wantedBy station != (s.chan c).wantedBy station then s1.carryDecision else s1
  else s

/-! ## Shadowing (R81, R82) -/

/-- A lower station lists the program of one channel (R81). -/
def State.shadow (s : State) (c : Chan) : State :=
  let until_ := some (s.now + ms 1000)
  if (s.chan c).state = .shadowed then s.modChan c fun x => { x with shadowEnd := until_ }
  else
    let s1 := s.modChan c fun x =>
      { x.abandon s.image.channels[c] with state := .shadowed, shadowEnd := until_, lingerEnd := none, demand := [] }
    s1.sendCarry.carryDecision

/-- A CARRY record at the Carry Controller, for shadowing alone, in LISTENING and RUNNING, from a lower station (R81). The
channels that one record shadows are taken in the order of its entries, each with its own record and decision; R74 lets
any order be (DESIGN CHOICE, log 39). -/
def State.takeShadowing (s : State) (source : Nat) (l : List CarryEntry) : State :=
  if (s.running ∨ s.startup.state = .listening) ∧ source < s.startup.station then
    l.foldl (fun t e =>
      match t.image.feeder e.program with
      | some c => t.shadow c
      | none => t) s
  else s

/-! ## The level monitor (R83 to R85) -/

/-- The absolute value of a sample, −32,768 counting as 32,768 (R83). -/
def magnitude (x : Sample) : Nat := x.toInt.natAbs

/-- The peak of a block (R83). -/
def blockPeak (l : List StereoFrame) : Nat := l.foldl (fun m f => max m (max (magnitude f.left) (magnitude f.right))) 0

/-- A block sent is taken into the channel's level window, which starts with it if none runs (R83). -/
def Channel.absorb (x : Channel) (l : List StereoFrame) : Channel :=
  if x.mode = .manual then x
  else
    let w := x.window.getD { count := 0, peak := 0 }
    { x with window := some { count := w.count + 1, peak := max w.peak (blockPeak l) } }

/-! ## The feed port (R65 to R70) -/

/-- One arrival of an audio delivery at a filling buffer: what the buffer becomes, and whether a frame error is found
(R66). A delivery begun after one has ended in the same period is a frame error, whatever the first came to. One that carries
more than 48 frames is a frame error at its 49th frame, ended or not (DESIGN CHOICE, log 46). -/
def Filling.deliver (f : Filling) (begins : Bool) (frames : List StereoFrame) (check : Option (BitVec 16)) : Filling × Bool :=
  let judge (all : List StereoFrame) : Filling × Bool :=
    if 48 < all.length then (.frameError, true)
    else
      match check with
      | none => (.inProgress all, false)
      | some w =>
        if w ≠ deliverySum all then (.frameError, true)
        else if all.length = 48 then (.complete all, false)
        else if Config.shortDeliveryIsError all.length then (.frameError, true)
        else (.ended, false)
  if begins then
    match f with
    | .empty => judge frames
    | .inProgress _ => judge frames
    | .complete _ => (.frameError, true)
    | .ended => (.frameError, true)
    | .frameError => (.frameError, true)
  else
    match f with
    | .inProgress l => judge (l ++ frames)
    | x => (x, false)

/-- The channel a channel index 1..8 names. -/
def chanOf (index : Nat) : Option Chan := if h : 1 ≤ index ∧ index ≤ 8 then some ⟨index - 1, by omega⟩ else none

/-- A ready block of a carried channel is sent: PROGRAM_AUDIO to class B, the sequence advances, the block is taken
into the level window (R69, R83). -/
def State.sendBlock (s : State) (c : Chan) (l : List StereoFrame) : State :=
  let x := s.chan c
  let s1 := s.handOver (.programAudio (s.chanProgram c) x.trim x.audioSeq l)
  s1.modChan c fun y => ({ y with audioSeq := y.audioSeq + 1 }).absorb l

/-- One channel in use at a feed event (R67). A level window that has counted its 1,000 blocks is ended first (R84). -/
def State.feedChannel (s : State) (c : Chan) : State :=
  let s0 := s.modChan c fun x => x.endWindow s.image.channels[c]
  let x := s0.chan c
  match x.filling with
  | .complete l =>
    let s1 := s0.modChan c fun y => { y with filling := .empty, ready := some l }
    if x.carried then s1.sendBlock c l else s1
  | _ =>
    let s1 := s0.modChan c fun y => { y with filling := .empty }
    if x.carried then { s1 with carry := { s1.carry with underrun := bump s1.carry.underrun } } else s1

/-- A feed error is counted (R86). -/
def State.countFeedError (s : State) : State :=
  { s with carry := { s.carry with feedError := bump s.carry.feedError } }

/-! ## Commands -/

/-- FEED_EVENT: every channel in use is settled, then FEED_SYNC is raised (R65, R67). -/
def execFeedEvent (s : State) : Host.Outcome State Fault Refusal :=
  match s.carry.nextFeed with
  | none => .next s
  | some t =>
    let s1 := s.reach t
    let used := allChans.filter s1.inUse
    let s2 := (s1.arrange used).foldl State.feedChannel (s1.useFree used.length)
    .next { s2 with carry := { s2.carry with feedSyncs := s2.carry.feedSyncs + 1, nextFeed := some (s2.now + ms 1) } }

/-- LEVEL_WINDOW_END: a window of 1,000 sent blocks ends (R84). -/
def execLevelWindowEnd (c : Chan) (s : State) : Host.Outcome State Fault Refusal :=
  .next (s.modChan c fun x => x.endWindow s.image.channels[c])

/-- AUDIO_DELIVERY: frames arrive for a channel; for an UNUSED channel or another index they are discarded. The feed
clock is stopped in LOADING, and no delivery belongs to a period (R65, R66). -/
def execAudioDelivery (channel : Nat) (begins : Bool) (frames : List StereoFrame) (check : Option (BitVec 16)) (s : State) :
    Host.Outcome State Fault Refusal :=
  match chanOf channel with
  | none => .next s
  | some c =>
    if s.inUse c && !s.loading then
      let r := (s.chan c).filling.deliver begins frames check
      let s1 := s.modChan c fun x => { x with filling := r.1 }
      .next (if r.2 then s1.countFeedError else s1)
    else .next s

/-- VIDEO_DELIVERY: a chunk is discarded, counted as a feed error, or sent; the video sequence advances when class C
accepts it (R68, R70). R68 names no start-up state, and video is not paced by the feed clock that is stopped in LOADING: here
a chunk that ends in LOADING is discarded, and one of a bad length or for an AUDIO channel is not counted there (DESIGN
CHOICE, log 43). -/
def execVideoDelivery (channel : Nat) (payload : List Byte) (s : State) : Host.Outcome State Fault Refusal :=
  match chanOf channel with
  | none => .next s
  | some c =>
    if s.inUse c && !s.loading then
      if payload = [] ∨ 1400 < payload.length ∨ s.image.channels[c].kind = .audio then .next s.countFeedError
      else if (s.chan c).carried then
        let r := s.handOverTold (.programVideo (s.chanProgram c) (s.chan c).videoSeq payload)
        .next (if r.2 then r.1.modChan c fun x => { x with videoSeq := x.videoSeq + 1 } else r.1)
      else .next s
    else .next s

/-- DEMAND_EXPIRY: a station leaves a demand set 350 ms after its last WANT, and the decision runs (R73). -/
def execDemandExpiry (c : Chan) (station : Nat) (s : State) : Host.Outcome State Fault Refusal :=
  match (s.chan c).demand.find? fun d => d.1 == station with
  | none => .next s
  | some d => .next (((s.reach d.2).modChan c fun x => x.dropDemand station).carryDecision)

/-- LINGER_END: a lingering channel with no demand goes to IDLE, a record is sent and the decision runs (R77, R80). -/
def execLingerEnd (c : Chan) (s : State) : Host.Outcome State Fault Refusal :=
  match (s.chan c).state, (s.chan c).lingerEnd with
  | .linger, some t =>
    if (s.chan c).demand = [] then
      .next ((s.reach t).modChan c fun x => x.assign s.image.channels[c] .idle none).sendCarry.carryDecision
    else .next s
  | _, _ => .next s

/-- SHADOW_END: a SHADOWED channel goes to IDLE and rejoins the list; in RUNNING a record is sent and the decision
runs (R82). -/
def execShadowEnd (c : Chan) (s : State) : Host.Outcome State Fault Refusal :=
  match (s.chan c).state, (s.chan c).shadowEnd with
  | .shadowed, some t =>
    .next ((s.reach t).modChan c fun x => { x with state := .idle, shadowEnd := none }).sendCarry.carryDecision
  | _, _ => .next s

/-- CARRY_PERIOD: 250 ms since the last CARRY record, while RUNNING and the list holds an entry (R80). -/
def execCarryPeriod (s : State) : Host.Outcome State Fault Refusal :=
  match s.carry.carryDue with
  | some t => if s.running then .next (s.reach t).sendCarry else .next s
  | none => .next s

end Sys2Proof.Machine
end

