-- ==== Sys2Proof/Machine/Phases.lean ====
section
/-! DEFINITION. The Phase Controller (chapter 7): adoption, origination, PHASE records. -/

namespace Sys2Proof.Machine

/-- A PHASE record is handed to class A while RUNNING, and the 5,000 ms period starts from it (R132). -/
def State.sendPhase (s : State) : State :=
  if s.running then
    let s1 := s.handOver (.phase s.phase.own.epoch s.phase.own.phase.val s.phase.own.setter)
    { s1 with phase := { s1.phase with phaseDue := some (s.now + ms 5000) } }
  else s

/-- A new phase state, and the phase change event (R136). -/
def State.setPhaseState (s : State) (x : PhaseState) : State :=
  ({ s with phase := { s.phase with own := x } }).recomputeAll

/-- The comparison of a record (e, p, s) heard from station r with the own state (R133). At epoch 65535, where an
origination leaves the epoch as it is (R134), two records that the own station sent before an origination can win when they
loop back after it: one of the own setting before, which differs in its phase alone, by the third line of R133's table; and a
repeat of an adopted setting of a lower setter, by the second line, since the origination put the own station, a higher
number, in its place. The prose of R132 and R133 says that a loopback changes nothing; the model follows the table in both
(DESIGN CHOICE, log 40). -/
def adopts (own : PhaseState) (e : Seq) (p : Phase) (setter source : Nat) : Bool :=
  decide (own.epoch.toNat < e.toNat) ||
    (e == own.epoch && decide (setter < own.setter)) ||
    (e == own.epoch && setter == own.setter && p != own.phase && source == setter)

/-- A PHASE record taken: discarded and counted for a phase above 3 or a setter outside 1..30, adopted or passed over
(R133). -/
def State.takePhase (s : State) (source : Nat) (e : Seq) (p setter : Nat) : State :=
  if h : p < 4 then
    if 1 ≤ setter ∧ setter ≤ 30 then
      if adopts s.phase.own e ⟨p, h⟩ setter source then
        ({ s with phase := { s.phase with adoption := bump s.phase.adoption } }).setPhaseState
          { epoch := e, phase := ⟨p, h⟩, setter := setter }
      else s
    else { s with phase := { s.phase with phaseError := bump s.phase.phaseError } }
  else { s with phase := { s.phase with phaseError := bump s.phase.phaseError } }

/-- The epoch of an origination: one more, staying at 65535 (R134). -/
def nextEpoch (e : Seq) : Seq := if e = 65535#16 then e else e + 1

/-- Origination of a phase at this node (R134). -/
def State.originate (s : State) (p : Phase) : State :=
  (s.setPhaseState { epoch := nextEpoch s.phase.own.epoch, phase := p, setter := s.startup.station }).sendPhase

/-- PHASE_PERIOD: 5,000 ms since the last PHASE record, in RUNNING (R132). -/
def execPhasePeriod (s : State) : Host.Outcome State Fault Refusal :=
  match s.phase.phaseDue with
  | some t => if s.running then .next (s.reach t).sendPhase else .next s
  | none => .next s

end Sys2Proof.Machine
end

