-- ==== Sys2Proof/Machine/Originate.lean ====
section
/-! DEFINITION. The panel port and the Announcement Originator (chapter 5). -/

namespace Sys2Proof.Machine

/-! ## The panel port (R88, R89) -/

/-- How the port treats a request (R89). -/
inductive PanelGate where
  | discard
  | notEnabled
  | listening
  | open_
deriving DecidableEq, Repr

/-- The port's treatment by panel enable and start-up state: the table of R89. In LOADING the panel enable is that of the
image that stands until the load ends (R181; log 10). -/
def State.panelGate (s : State) : PanelGate :=
  if s.image.panel then
    match s.startup.state with
    | .loading => .discard
    | .strapFault => .notEnabled
    | .listening => .listening
    | .running => .open_
  else .notEnabled

/-- A request refused with a notice. -/
def State.refusePanel (s : State) (k : PanelKind) (why : PanelReason) : State := s.notify (.refused k why)

/-- The panel discard counter counts one (R105). -/
def State.countDiscard (s : State) : State := s.modOrig fun o => { o with discard := bump o.discard }

/-! ## Announcements -/

/-- An ANNOUNCE packet of the current announcement is handed to class A (R101). -/
def State.sendAnnounce (s : State) (t : AnnTail) : State :=
  match s.orig.desc with
  | none => s
  | some d => s.handOver (.announce d t)

/-- A range meets a window (R94). -/
def rangeMeets (r : Nat × Nat) (first last : Nat) : Bool := decide (r.1 ≤ last ∧ first ≤ r.2)

/-- The own station's berth range; none with berth count 0 (R94, R173). -/
def State.ownRange (s : State) : Option (Nat × Nat) :=
  if s.image.berthCount = 0 then none else some (s.image.berthBase + 1, s.image.berthBase + s.image.berthCount)

/-- A station's range, if it has one, meets the window. -/
def meetsWindow (r : Option (Nat × Nat)) (first last : Nat) : Bool :=
  match r with
  | some x => rangeMeets x first last
  | none => false

/-- The expected set: peers not aged out and the own station, whose ranges meet the window, in ascending order (R94). -/
def State.expectedSet (s : State) (first last : Nat) : List Nat :=
  let peers := (s.trunk.peers.filter fun q => decide (s.now ≤ q.heard + ms 3000) && meetsWindow q.range first last).map Peer.station
  if meetsWindow s.ownRange first last then insertBefore (fun a b => decide (a < b)) s.startup.station peers else peers

/-- The expected set is covered by the acked set (R103). -/
def ackCovered (t : AckTable) : Bool := t.expected.all fun x => t.acked.contains x

/-- The collection closes: result, missing list, OUTCOME, and the Originator IDLE (R103, R104). -/
def State.closeCollection (s : State) (r : Result) : State :=
  match s.orig.ackTable with
  | none => s
  | some t =>
    let missing := t.expected.filter fun x => !t.acked.contains x
    let s1 := s.notify (.outcome t.id r t.totals missing)
    s1.modOrig fun o =>
      { o with state := .idle, desc := none, nextHold := none,
               ackTable := some { t with closed := true, result := some r, missing := missing, windowEnd := none } }

/-- A BEGIN accepted from IDLE (R93). -/
def State.acceptBegin (s : State) (k : AnnClass) (first last stop language caption : Nat) : State :=
  let seq := s.orig.sequence + 1
  let d : Descriptor := { id := { origin := s.startup.station, sequence := seq }, cls := k, first := first, last := last,
                          stop := stop, language := language, caption := caption }
  let t : AckTable := { id := d.id, cls := k, first := first, last := last, closed := false,
                        expected := s.expectedSet first last, acked := [], failed := [], totals := totalsZero,
                        windowEnd := none, result := none, missing := [] }
  let s1 := s.modOrig fun o => { o with sequence := seq, desc := some d, ackTable := some t }
  let s2 := s1.notify (.accepted .begin)
  let s3 := s2.modOrig fun o =>
    { o with state := .leadIn, accepted := s.now, leadIns := 1, nextBlock := .index 0, lastAudio := s.now, nextHold := none }
  s3.sendAnnounce .leadIn

/-- The Originator ends its announcement: END handed over, COLLECTING for 500 ms, closed at once when every expected
station has acknowledged (R100, R103). -/
def State.sendEnd (s : State) (r : EndReason) : State :=
  let s1 := s.sendAnnounce (.fin r)
  let s2 := s1.modOrig fun o =>
    { o with state := .collecting, nextHold := none,
             ackTable := o.ackTable.map fun t => { t with windowEnd := some (s.now + ms 500) } }
  match s2.orig.ackTable with
  | some t => if ackCovered t then s2.closeCollection .delivered else s2
  | none => s2

/-- An EMERGENCY BEGIN supersedes what the Originator does (R96, R97). -/
def State.supersede (s : State) : State :=
  match s.orig.state with
  | .leadIn => (s.sendAnnounce (.fin .aborted)).closeCollection .superseded
  | .speech => (s.sendAnnounce (.fin .aborted)).closeCollection .superseded
  | .collecting => s.closeCollection .superseded
  | .idle => s

/-- A BEGIN in RUNNING is checked in order, and refused or accepted (R92). -/
def State.checkBegin (s : State) (cls first last stop language caption : Nat) : State :=
  if first = 0 ∨ last < first ∨ 240 < last then s.refusePanel .begin .badTarget
  else
    match classOf cls with
    | none => s.refusePanel .begin .badArgument
    | some k =>
      if 99 < stop ∨ 3 < language then s.refusePanel .begin .badArgument
      else if s.orig.state = .idle then s.acceptBegin k first last stop language caption
      else if k = .emergency then s.supersede.acceptBegin k first last stop language caption
      else s.refusePanel .begin .busy

/-- A panel AUDIO at the Originator (R98, R99). -/
def State.takePanelAudio (s : State) (l : List Sample) : State :=
  match s.orig.state with
  | .speech =>
    match s.orig.nextBlock with
    | .spent => (s.sendEnd .normal).countDiscard
    | .index i =>
      let s1 := s.sendAnnounce (.speech i l)
      s1.modOrig fun o =>
        { o with nextBlock := if i = 65535#16 then .spent else .index (i + 1), lastAudio := s.now,
                 nextHold := some (s.now + ms 200) }
  | _ => s.countDiscard

/-- A panel END at the Originator (R100). -/
def State.takePanelEnd (s : State) : State :=
  match s.orig.state with
  | .leadIn => (s.notify (.accepted .fin)).sendEnd .aborted
  | .speech => (s.notify (.accepted .fin)).sendEnd .normal
  | _ => s.countDiscard

/-- A panel ABORT at the Originator (R100). -/
def State.takeAbort (s : State) : State :=
  match s.orig.state with
  | .leadIn => (s.notify (.accepted .abort)).sendEnd .aborted
  | .speech => (s.notify (.accepted .abort)).sendEnd .aborted
  | _ => s.countDiscard

/-- A station joins a set kept in ascending order. -/
def joinSet (l : List Nat) (x : Nat) : List Nat :=
  if l.contains x then l else insertBefore (fun a b => decide (a < b)) x l

/-- An ACK taken into the table (R102). -/
def ackTaken (t : AckTable) (station : Nat) (c : Totals) : AckTable :=
  { t with acked := joinSet t.acked station, totals := totalsAdd t.totals c,
           failed := if 0 < c.declined ∨ 0 < c.cut ∨ 0 < c.missed then joinSet t.failed station else t.failed }

/-- An ACK record at the Originator: in RUNNING with the panel enabled and the table OPEN, of the table's id, from a
station not yet in the acked set; in COLLECTING it may close the collection DELIVERED (R89, R102, R103). -/
def State.takeAck (s : State) (station : Nat) (id : AnnId) (c : Totals) : State :=
  if s.running && s.image.panel then
    match s.orig.ackTable with
    | none => s
    | some t =>
      if t.closed = false ∧ t.id = id ∧ t.acked.contains station = false then
        let t' := ackTaken t station c
        let s1 := s.modOrig fun o => { o with ackTable := some t' }
        if s.orig.state = .collecting ∧ ackCovered t' = true then s1.closeCollection .delivered else s1
      else s
  else s

/-! ## Commands -/

/-- BEGIN (R89, R92). -/
def execBeginAnn (cls first last stop language caption : Nat) (s : State) : Host.Outcome State Fault Refusal :=
  match s.panelGate with
  | .discard => .next s
  | .notEnabled => .next (s.refusePanel .begin .notEnabled)
  | .listening => .next (s.refusePanel .begin .busy)
  | .open_ => .next (s.checkBegin cls first last stop language caption)

/-- PANEL_AUDIO (R89, R98). -/
def execPanelAudio (samples : List Sample) (s : State) : Host.Outcome State Fault Refusal :=
  match s.panelGate with
  | .discard => .next s
  | .notEnabled => .next (s.refusePanel .audio .notEnabled)
  | .listening => .next (s.takePanelAudio samples)
  | .open_ => .next (s.takePanelAudio samples)

/-- PANEL_END (R89, R100). -/
def execPanelEnd (s : State) : Host.Outcome State Fault Refusal :=
  match s.panelGate with
  | .discard => .next s
  | .notEnabled => .next (s.refusePanel .fin .notEnabled)
  | .listening => .next s.takePanelEnd
  | .open_ => .next s.takePanelEnd

/-- ABORT (R89, R100). -/
def execAbort (s : State) : Host.Outcome State Fault Refusal :=
  match s.panelGate with
  | .discard => .next s
  | .notEnabled => .next (s.refusePanel .abort .notEnabled)
  | .listening => .next s.takeAbort
  | .open_ => .next s.takeAbort

/-- SET_PHASE (R89, R90, R134). -/
def execSetPhase (phase : Nat) (s : State) : Host.Outcome State Fault Refusal :=
  match s.panelGate with
  | .discard => .next s
  | .notEnabled => .next (s.refusePanel .setPhase .notEnabled)
  | .listening => .next (s.refusePanel .setPhase .busy)
  | .open_ =>
    if h : phase < 4 then .next ((s.notify (.accepted .setPhase)).originate ⟨phase, h⟩)
    else .next (s.refusePanel .setPhase .badArgument)

/-- PANEL_FRAME_ERROR: counted while the Originator exists, out of LOADING (R88, R180). -/
def execPanelFrameError (s : State) : Host.Outcome State Fault Refusal :=
  if s.image.panel && !s.loading then .next (s.modOrig fun o => { o with error := bump o.error }) else .next s

/-- LEAD_IN_EVENT: each 10 ms of the lead-in, up to 20 LEAD_IN packets (R95). -/
def execLeadInEvent (s : State) : Host.Outcome State Fault Refusal :=
  if s.orig.state = .leadIn ∧ s.orig.leadIns < 20 then
    let s1 := s.reach (s.orig.accepted + ms (10 * s.orig.leadIns))
    .next ((s1.sendAnnounce .leadIn).modOrig fun o => { o with leadIns := o.leadIns + 1 })
  else .next s

/-- LEAD_IN_COMPLETE: 200 ms after acceptance, ON_AIR and SPEECH (R95, R99). -/
def execLeadInComplete (s : State) : Host.Outcome State Fault Refusal :=
  match s.orig.state, s.orig.desc with
  | .leadIn, some d =>
    let s1 := s.reach (s.orig.accepted + ms 200)
    .next ((s1.notify (.onAir d.id)).modOrig fun o =>
      { o with state := .speech, nextBlock := .index 0, lastAudio := s1.now, nextHold := some (s1.now + ms 200) })
  | _, _ => .next s

/-- HOLD_TIMER: a HOLD packet 200 ms into a silence and each 100 ms after, but not in place of PANEL_LOST (R99). -/
def execHoldTimer (s : State) : Host.Outcome State Fault Refusal :=
  match s.orig.state, s.orig.nextHold with
  | .speech, some t =>
    if t < s.orig.lastAudio + ms 5000 then
      .next (((s.reach t).sendAnnounce .hold).modOrig fun o => { o with nextHold := some (t + ms 100) })
    else .next s
  | _, _ => .next s

/-- PANEL_LOST: 5,000 ms of silence in SPEECH (R99, R100). -/
def execPanelLost (s : State) : Host.Outcome State Fault Refusal :=
  match s.orig.state with
  | .speech => .next ((s.reach (s.orig.lastAudio + ms 5000)).sendEnd .panelLost)
  | _ => .next s

/-- WINDOW_END: 500 ms after the END the collection closes INCOMPLETE MISSING (R103). -/
def execWindowEnd (s : State) : Host.Outcome State Fault Refusal :=
  match s.orig.state, s.orig.ackTable with
  | .collecting, some t =>
    match t.windowEnd with
    | some w => .next ((s.reach w).closeCollection .missing)
    | none => .next s
  | _, _ => .next s

end Sys2Proof.Machine
end

