-- ==== Sys2Proof/Machine/Mixing.lean ====
section
/-! DEFINITION. The Mixer (chapter 2): attenuations, gain and scaling, chime, duck, the block event. -/

namespace Sys2Proof.Machine

/-! ## Gain and scaling (R35 to R37) -/

/-- The mantissa table M[0..11] (R35). -/
def gainTable : List Int := [32768, 30935, 29205, 27571, 26029, 24573, 23198, 21900, 20675, 19519, 18427, 17396]

/-- One mantissa. -/
def mantissa (k : Nat) : Int := (gainTable[k]?).getD 0

/-- A sample scaled by an attenuation; 127 is silence (R36). -/
def scale (x : Int) (a : Nat) : Int :=
  if 127 ≤ a then 0
  else
    let sft := 15 + a / 12
    (x * mantissa (a % 12) + 2 ^ (sft - 1)) / 2 ^ sft

/-- The clamp of a sum to −32,768..32,767 (R37). -/
def saturate (x : Int) : Int := max (-32768) (min 32767 x)

/-! ## Attenuations (R28 to R31) -/

/-- The volume attenuation A_vol (R28). -/
def volumeAttenuation (v : Nat) : Nat := 2 * (31 - v)

/-- The program attenuation A_p when no condition of silence holds (R29). -/
def programAttenuation (v floor duck : Nat) (trim : Int) : Nat :=
  (max 0 (min 126 ((max (volumeAttenuation v) floor : Nat) - trim + (duck : Int)))).toNat

/-- The announcement attenuation A_a (R30). -/
def announceAttenuation (k : AnnClass) (v floor emergency : Nat) : Nat :=
  match k with
  | .emergency => emergency
  | _ => min 40 (max floor (volumeAttenuation v - 6))

/-- The chime attenuation A_c (R31). -/
def chimeAttenuation (aa : Nat) : Nat := min 126 (aa + 12)

/-- The chime pattern of a class (R31). -/
def chimePattern (k : AnnClass) : Nat :=
  match k with
  | .service => 0
  | .stop => 1
  | .safety => 2
  | .emergency => 3

/-! ## Duck and chime of one berth (R31, R33) -/

/-- The duck moves by the ramp towards its target, and not past it (R33). -/
def duckStep (d target ramp : Nat) : Nat :=
  if d < target then min (d + ramp) target
  else if target < d then max (d - ramp) target
  else d

/-- The duck target: the profile's depth in CHIME and SPEAKING, 0 in IDLE (R33). -/
def duckTarget (v : Serving) (depth : Nat) : Nat :=
  match v with
  | .idle => 0
  | _ => depth

/-- The position a block of chime uses (R31). -/
def Mix.chimeUsed (m : Mix) (v : Serving) : Nat :=
  match v with
  | .chime id => if m.chimeId = some id then m.chimePos else 0
  | _ => 0

/-- The Mixer's update of one berth at a block event: duck and chime (R31, R33). -/
def Mix.update (m : Mix) (v : Serving) (pr : Profile) : Mix :=
  let d := duckStep m.duck (duckTarget v pr.depth) pr.ramp
  match v with
  | .chime id => { duck := d, chimeId := some id, chimePos := (m.chimeUsed v + 1) % 4 }
  | _ => { duck := d, chimeId := none, chimePos := 0 }

/-! ## The block event -/

/-- What the taps and the Voice Arbiter answered at a block event (R25, R26). -/
structure BlockAnswers where
  programs : List (Nat × TapState × TapAnswer)
  blocks   : List (AnnId × Option (List Sample))
deriving DecidableEq, Repr

/-- A tap's answer to a program, with its state after answering (R25). -/
def BlockAnswers.program? (a : BlockAnswers) (program : Nat) : Option (TapState × TapAnswer) :=
  (a.programs.find? fun x => x.1 == program).map fun x => x.2

/-- The block of an entry at this event (R26). -/
def BlockAnswers.block? (a : BlockAnswers) (id : AnnId) : Option (List Sample) :=
  (a.blocks.find? fun x => x.1 == id).bind fun x => x.2

/-- One block request to every tap (R25, R58). -/
def State.requestPrograms (s : State) : State × List (Nat × TapState × TapAnswer) :=
  let answered := s.taps.taps.map fun t => (t.state, t.request)
  let s1 := s.modTaps fun c => { c with taps := answered.map fun x => x.2.1 }
  let s2 := answered.foldl (fun u x =>
    u.modTaps fun c => c.countAnswer (x.1 == .playing && x.2.1.state == .starved) x.2.2) s1
  (s2, answered.map fun x => (x.2.1.program, x.2.1.state, x.2.2))

/-- The announcement request (R26, R111). -/
def State.requestAnnouncements (s : State) : State × List (AnnId × Option (List Sample)) :=
  let played := s.voice.table.map Entry.play
  ({ s with voice := { s.voice with table := played.map fun x => x.1 } }, played.map fun x => (x.1.desc.id, x.2))

/-- The program samples and attenuation of one berth: silence on any condition of R29, the packet's frames otherwise. -/
def State.programTerm (s : State) (a : BlockAnswers) (p : Port) (duck : Nat) : Nat × List StereoFrame :=
  let b := s.berth p
  if b.mute = true ∨ b.program = 0 ∨ s.inEmergency p = true then (127, [])
  else
    match a.program? b.program with
    | some (_, .block trim l) => (programAttenuation b.volume s.profile.floor duck trim, l)
    | _ => (127, [])

/-- The announcement or chime term of one berth at each of the 48 frames (R30, R31, R36). -/
def State.announceTerm (s : State) (a : BlockAnswers) (p : Port) (used : Nat) (i : Nat) : Int :=
  match s.currentClass p with
  | none => 0
  | some k =>
    let aa := announceAttenuation k (s.berth p).volume s.profile.floor s.image.emergency
    match (s.berthVoice p).serving with
    | .idle => 0
    | .chime _ => scale (s.image.chimeSample (chimePattern k) ((used * 48 + i) % 64)).toInt (chimeAttenuation aa)
    | .speaking id =>
      match a.block? id with
      | some l => scale (((l[i]?).getD 0#16).toInt) aa
      | none => 0

/-- A silent stereo frame. -/
def silentFrame : StereoFrame := { left := 0, right := 0 }

/-- One output frame, and whether the clamp changed a sample of it (R37). -/
def mixFrame (ap : Nat) (f : StereoFrame) (ya : Int) : StereoFrame × Bool :=
  let l := scale f.left.toInt ap + ya
  let r := scale f.right.toInt ap + ya
  ({ left := BitVec.ofInt 16 (saturate l), right := BitVec.ofInt 16 (saturate r) },
   decide (saturate l ≠ l) || decide (saturate r ≠ r))

/-- The output block of one berth, its 48 frames with their clip flags (R27, R36, R37). -/
def State.outputBlock (s : State) (a : BlockAnswers) (p : Port) (used duck : Nat) : List (StereoFrame × Bool) :=
  let pt := s.programTerm a p duck
  (List.range 48).map fun i => mixFrame pt.1 ((pt.2[i]?).getD silentFrame) (s.announceTerm a p used i)

/-- The tap state in the info word: none for program 0, WAITING for a program without a tap (R38, R59). -/
def State.reportedTap (s : State) (a : BlockAnswers) (p : Port) : Option TapState :=
  let q := (s.berth p).program
  if q = 0 then none
  else
    match a.program? q with
    | some (st, _) => some st
    | none => some .waiting

/-- The info word of one berth's AUDIO frame (R38, R200). -/
def State.infoOf (s : State) (a : BlockAnswers) (p : Port) : BitVec 16 :=
  infoWord s.phase.own.phase (s.berthVoice p).serving.state (s.currentClass p) (s.reportedTap a p) (s.berth p).mute

/-- One in-service berth at a block event: duck and chime updated; and when its link is UP its AUDIO frame handed over,
a clipped one counted (R24, R27, R38, R39). -/
def State.mixBerth (a : BlockAnswers) (s : State) (p : Port) : State :=
  let v := (s.berthVoice p).serving
  let used := s.mixer.berths[p].chimeUsed v
  let s1 := s.modMix p fun m => m.update v s.profile
  if s1.linkUp p then
    let out := s1.outputBlock a p used s1.mixer.berths[p].duck
    let s2 := s1.modLink p fun l => l.handAudio (.audio (s1.infoOf a p) (out.map fun x => x.1))
    if out.any fun x => x.2 then { s2 with mixer := { s2.mixer with clip := bump s2.mixer.clip } } else s2
  else s1

/-- The work of a block event (R24). -/
def State.blockWork (s : State) : State :=
  let (s1, programs) := s.requestPrograms
  let (s2, blocks) := s1.requestAnnouncements
  s2.servicePorts.foldl (State.mixBerth { programs := programs, blocks := blocks }) s2

/-- BLOCK_EVENT: a tick of the audio clock, which is stopped in LOADING (R24). -/
def execBlockEvent (s : State) : Host.Outcome State Fault Refusal :=
  match s.mixer.nextBlock with
  | none => .next s
  | some t =>
    let s1 := (s.reach t).blockWork
    .next { s1 with mixer := { s1.mixer with nextBlock := some (s1.now + ms 1) } }

end Sys2Proof.Machine
end

