-- ==== Sys2Proof/Machine/Startup.lean ====
section
/-! DEFINITION. The Start-up Controller (chapter 10, sections 10.1 to 10.5): straps, the configuration load, LISTENING, entry
to RUNNING, the soft restart; and the node's PRESENCE record (R173). -/

namespace Sys2Proof.Machine

/-! ## LOADING (R179 to R184) -/

/-- A strap fault: straps 0 or 31 (R179). -/
def strapsBad (straps : BitVec 5) : Bool := straps == 0#5 || straps == 31#5

/-- The straps are read and the load begins, at entry to LOADING with RESET_N high (R179, R180). -/
def State.readStraps (s : State) (straps : BitVec 5) : State :=
  let bad := strapsBad straps
  let station := if bad then 0 else straps.toNat
  { s with startup := { s.startup with straps := straps, station := station, strapFault := bad, loadSince := some s.now },
           trunk := { s.trunk with seed := station } }

/-- The end of the load, with an image and its flags: to LISTENING, or to STRAP_FAULT on a strap fault; the phase state
and the channels take their fields from the image, and the two clocks start (R181, R131, R179, R64, R24, R65). -/
def State.endLoad (s : State) (im : Image) (defaulted adjusted : Bool) : State :=
  let bad := s.startup.strapFault
  { s with
    startup := { s.startup with state := if bad then .strapFault else .listening, image := im, defaulted := defaulted,
                                adjusted := adjusted, loadSince := none,
                                listenEnd := if bad then none else some (s.now + ms 1000) },
    phase := { s.phase with own := { epoch := 0, phase := im.startPhase, setter := if bad then 31 else s.startup.station } },
    carry := { s.carry with channels := Channel.allInitial im, nextFeed := some (s.now + ms 1) },
    mixer := { s.mixer with nextBlock := some (s.now + ms 1) } }

/-- The whole image has been read: its checksum is tested (R181, R182). -/
def State.loadBytes (s : State) (bytes : List Byte) : State :=
  let image := bytes.take imageLength
  if checksumGood image then s.endLoad (loadGoodImage image).1 false (loadGoodImage image).2
  else s.endLoad defaultImage true false

/-! ## PRESENCE (R173) -/

/-- The number of in-service links in UP (R173). -/
def State.berthsUp (s : State) : Nat := (s.servicePorts.filter s.linkUp).length

/-- At least one feed channel is in use (R173). -/
def State.feedsPresent (s : State) : Bool := allChans.any s.inUse

/-- The answer to a yes/no field. -/
def yesNo (b : Bool) : YesNo := if b then .yes else .no

/-- The PRESENCE record of the node as it stands (R173). -/
def State.presenceRecord (s : State) : Presence :=
  { first := (s.ownRange.map fun r => r.1).getD 0, last := (s.ownRange.map fun r => r.2).getD 0, berthsUp := s.berthsUp,
    epoch := s.phase.own.epoch, feeds := yesNo s.feedsPresent, panel := yesNo s.image.panel }

/-- A PRESENCE record is handed to class C, and the 1,000 ms period starts from it, refused or not (R173). -/
def State.sendPresence (s : State) : State :=
  let s1 := s.handOver (.presence s.presenceRecord)
  { s1 with trunk := { s1.trunk with presenceDue := some (s.now + ms 1000) } }

/-! ## Entry to RUNNING (R187) -/

/-- The hand-overs at entry to RUNNING, one by each block that has a record to send (R187). -/
inductive RunningBlock where
  | want | carry | phase | presence
deriving DecidableEq, Repr

/-- One of them. -/
def State.enterBlock (s : State) (b : RunningBlock) : State :=
  match b with
  | .want => s.sendWant
  | .carry => s.sendCarry
  | .phase => s.sendPhase
  | .presence => s.sendPresence

/-- Which blocks hand over a record at entry to RUNNING: WANT if taps were built, CARRY if a channel is listed (R187). -/
def State.entryBlocks (s : State) : List RunningBlock :=
  (if s.taps.taps = [] then [] else [.want]) ++ (if s.carryList = [] then [] else [.carry]) ++ [.phase, .presence]

/-- The node enters RUNNING: taps built from the berth records, then the hand-overs in whichever order they are taken
(R187, log 3). -/
def State.enterRunning (s : State) : State :=
  let s1 := { s with startup := { s.startup with state := .running, listenEnd := none } }
  let s2 := s1.buildTaps
  (s2.arrange s2.entryBlocks).foldl State.enterBlock (s2.useFree s2.entryBlocks.length)

/-! ## The soft restart (R188) -/

/-- The Trunk Interface at a soft restart: queues emptied, a waiting packet abandoned, one in the middle of an attempt
left to its end, ENABLED, the peer list empty (R176, R178). -/
def Trunk.softRestart (t : Trunk) (station : Nat) : Trunk :=
  { Trunk.initial t.idleFrom station with
    current := match t.current with
      | none => none
      | some c =>
        match c.stage with
        | .waiting _ => none
        | .sending _ => some { c with leaving := true } }

/-- A link at a soft restart: DOWN from any state. A frame in progress is not cut (R151, R163). A UNIT_RESET of an earlier
fault or BERTH_RESET that still waits behind that frame is dropped with the queues: R163 gives a soft restart no
UNIT_RESET, and R22 lets no berth receive a frame until its link is UP, where R153 would send it next (DESIGN CHOICE, log
8). -/
def Link.softRestart (l : Link) : Link :=
  { Link.initial with cardSerial := l.cardSerial, sending := l.sending, cuts := l.cuts }

/-- The Start-up Controller at a soft restart (R195). -/
def Startup.softRestart (u : Startup) (now : Time) : Startup :=
  { u with state := .listening, listenEnd := some (now + ms 1000), restart := none, startedAt := now }

/-- A berth record at a soft restart: the passenger fields are kept (R22). -/
def Berth.softRestart (b : Berth) : Berth := { b with headset := false, hold := false, reported := none }

/-- The soft restart: every block leaves RUNNING as its reset table states (R188, R22, R41, R63, R87, R106, R130, R144,
R163, R178, R195). R87 clears the buffers and says nothing of an audio delivery that has begun or ended in the feed period: with
its buffer it is forgotten, so that its later frames are discarded uncounted and a delivery that begins before the next feed event
is the first of the period (DESIGN CHOICE, log 49). -/
def State.softRestart (s : State) : State :=
  { s with
    startup := s.startup.softRestart s.now,
    trunk := s.trunk.softRestart s.startup.station,
    taps := .initial,
    carry := { CarryCtl.initial s.image with nextFeed := s.carry.nextFeed, feedSyncs := s.carry.feedSyncs },
    berths := { records := Vector.ofFn fun p => (s.berths.records[p]).softRestart, requests := 0, refusals := 0 },
    phase := { own := s.phase.own, phaseDue := none, adoption := 0, phaseError := 0 },
    orig := { Originator.initial with notices := s.orig.notices },
    voice := .initial,
    mixer := { Mixer.initial with nextBlock := s.mixer.nextBlock },
    links := Vector.ofFn fun p => (s.links[p]).softRestart }

/-- A pending restart begins (R191). -/
def State.restartNow (s : State) : State := if s.startup.restart.isSome then s.softRestart else s

/-! ## Commands -/

/-- POWER_ON: LOADING from any state, every block at its power-on column; with RESET_N high the straps are read and the
load begins (R180). -/
def execPowerOn (straps : BitVec 5) (s : State) : Host.Outcome State Fault Refusal :=
  let s1 := State.atPowerOn s.now s.free s.pending s.startup.resetN s.image
  .next (if s.startup.resetN then s1.readStraps straps else s1)

/-- RESET_N_LOW: LOADING from any state; the node stays at its entry and reads nothing (R180). -/
def execResetNLow (s : State) : Host.Outcome State Fault Refusal :=
  .next (State.atPowerOn s.now s.free s.pending false s.image)

/-- RESET_N_HIGH: at the entry to LOADING, at which the node stayed while the pin was low, time since start and the
inactivity timers count from now, the straps are read and the load begins (R179, R180, R11). -/
def execResetNHigh (straps : BitVec 5) (s : State) : Host.Outcome State Fault Refusal :=
  .next (if s.loading && s.startup.loadSince.isNone then
      (State.atPowerOn s.now s.free s.pending true s.image).readStraps straps
    else { s with startup := { s.startup with resetN := true } })

/-- CONFIGURATION_LOAD_END: the last word of the image is read within 50 ms of the load's beginning (R181). -/
def execConfigurationLoadEnd (image : List Byte) (s : State) : Host.Outcome State Fault Refusal :=
  match s.startup.loadSince with
  | none => .next s
  | some t => if imageLength ≤ image.length ∧ s.now ≤ t + ms 50 then .next (s.loadBytes image) else .next s

/-- LOAD_TIMEOUT: 50 ms since the load began; every field at its default, CONFIG_DEFAULTED (R181). -/
def execLoadTimeout (s : State) : Host.Outcome State Fault Refusal :=
  match s.startup.loadSince with
  | none => .next s
  | some t => .next ((s.reach (t + ms 50)).endLoad defaultImage true false)

/-- LISTENING_END: 1,000 ms of LISTENING; the node enters RUNNING (R187). -/
def execListeningEnd (s : State) : Host.Outcome State Fault Refusal :=
  match s.startup.state, s.startup.listenEnd with
  | .listening, some t => .next (s.reach t).enterRunning
  | _, _ => .next s

/-- SOFT_RESTART: a restart that is pending begins (R188, R191). -/
def execSoftRestart (s : State) : Host.Outcome State Fault Refusal := .next s.restartNow

/-- RESTART_PENDING_TIMEOUT: 2,000 ms since the RESTART was taken; the soft restart begins (R191). -/
def execRestartPendingTimeout (s : State) : Host.Outcome State Fault Refusal :=
  match s.startup.restart with
  | none => .next s
  | some t => .next (s.reach t).softRestart

/-- PRESENCE_PERIOD: 1,000 ms since the last PRESENCE record, in RUNNING (R173). -/
def execPresencePeriod (s : State) : Host.Outcome State Fault Refusal :=
  match s.trunk.presenceDue with
  | some t => if s.running then .next (s.reach t).sendPresence else .next s
  | none => .next s

end Sys2Proof.Machine
end

