-- ==== Sys2Proof/Machine/Flags.lean ====
section
/-! DEFINITION. What the node shows of itself: the FAULT pin (R185), the STATUS report (R193), the COUNTERS report (R194),
and the clearing of the counters (R190). -/

namespace Sys2Proof.Machine

/-! ## The FAULT pin and time since start -/

/-- The FAULT pin is asserted, that is pulled low (R185). -/
def State.faultAsserted (s : State) : Bool :=
  s.startup.state == .strapFault || (s.loading && s.startup.strapFault) || s.startup.defaulted

/-- Time since start in whole seconds, sticking at 4,294,967,295 (R194, R180, R188). While RESET_N is low the node stays at
the entry to LOADING, where it is 0 (R180). -/
def State.secondsSinceStart (s : State) : Nat :=
  if s.startup.resetN then min 4294967295 ((s.now - s.startup.startedAt) / sec 1) else 0

/-! ## The STATUS report (R193) -/

/-- One feed channel in use. -/
def State.channelStatus (s : State) (c : Chan) : ChannelStatus :=
  let x := s.chan c
  { program := s.chanProgram c, state := x.state, trim := x.trim, mode := x.mode, demand := x.demand.length }

/-- One tap, with the status its catalogue entry lists. -/
def State.tapStatus (s : State) (t : Tap) : TapStatus :=
  { program := t.program, source := t.source, state := t.state, fill := t.queue.length,
    status := (s.catEntry? t.program).map CatEntry.status }

/-- One in-service berth. -/
def State.berthStatus (s : State) (p : Port) : BerthStatus :=
  let b := s.berth p
  let v := s.berthVoice p
  { berth := s.berthNumber p, link := s.links[p].state, attention := b.attention, screen := b.screen, program := b.program,
    voice := v.serving.state,
    current := v.serving.current.bind fun id => (s.classOfId id).map fun k => (id, k),
    pending := v.pending.map fun x => x.1 }

/-- One peer. -/
def State.peerStatus (s : State) (q : Peer) : PeerStatus :=
  { station := q.station, age := s.sinceMs q.heard, range := q.range, berthsUp := q.berthsUp, epoch := q.epoch, feeds := q.feeds,
    panel := q.panel }

/-- The transmitter is BACKED_OFF (R170). -/
def TxMode.isBackedOff (m : TxMode) : Bool :=
  match m with
  | .enabled => false
  | .backedOff _ => true

/-- The STATUS report of the node as it stands (R193). It carries the whole ack table, its window end among the fields: R193
says the table as chapter 5 gives it, and R91 lists the field, which R104's list does not name (DESIGN CHOICE, log 44). -/
def State.statusReport (s : State) : StatusReport :=
  { state := s.startup.state, station := s.startup.station, seconds := s.secondsSinceStart,
    defaulted := s.startup.defaulted, adjusted := s.startup.adjusted, panel := s.image.panel, feeds := s.feedsPresent,
    backedOff := s.trunk.mode.isBackedOff, restartPending := s.startup.restart.isSome,
    phase := s.phase.own,
    channels := (allChans.filter s.inUse).map s.channelStatus,
    taps := s.taps.taps.map s.tapStatus,
    berths := s.servicePorts.map s.berthStatus,
    announcements := s.voice.table.map fun e => (e.desc.id, e.state),
    outcome := s.orig.ackTable,
    peers := s.trunk.peers.map s.peerStatus }

/-! ## The COUNTERS report (R194) -/

/-- The counters of the Tap Controller, in R62's order. -/
def TapCtl.counters (t : TapCtl) : List Counter := [t.late, t.duplicate, t.resync, t.slip, t.gap, t.starve, t.foreign]

/-- The counters of the Voice Arbiter, in R129's order. -/
def VoiceArb.counters (v : VoiceArb) : List Counter := [v.late, v.overflow, v.lost, v.eviction, v.nodeFull]

/-- The eleven counters of the Trunk Interface, in R177's order. -/
def Trunk.counters (t : Trunk) : List Counter :=
  [t.dropA, t.dropB, t.refusalC, t.stale, t.collision, t.failure, t.backOff, t.crcError, t.headerError, t.stationClash,
   t.peerExpiry]

/-- The ten counters of a link, in R162's order. -/
def LinkCounters.list (c : LinkCounters) : List Counter :=
  [c.receiveError, c.linkLoss, c.fault, c.videoDrop, c.videoFlush, c.captionDrop, c.captionTimeout, c.strayAck,
   c.controlOverflow, c.audioOverrun]

/-- The 32 node counters in R194's order; an Originator that is absent reports 0. -/
def State.nodeCounters (s : State) : List Counter :=
  [s.berths.requests, s.berths.refusals, s.mixer.clip] ++ s.taps.counters ++ [s.carry.underrun, s.carry.feedError] ++
    (if s.image.panel then [s.orig.discard, s.orig.error] else [0, 0]) ++ s.voice.counters ++
    [s.phase.adoption, s.phase.phaseError] ++ s.trunk.counters

/-- The ten counters of one port; an out-of-service port reports 0 (R194). -/
def State.portCounters (s : State) (p : Port) : List Counter :=
  if s.inService p then s.links[p].counters.list else LinkCounters.zero.list

/-- The COUNTERS report of the node as it stands (R194, R161). -/
def State.counterReport (s : State) : CounterReport :=
  { seconds := s.secondsSinceStart, upTimes := allPorts.map fun p => s.links[p].upSeconds s.now, node := s.nodeCounters,
    links := allPorts.map s.portCounters }

/-! ## CLEAR_COUNTERS (R190) -/

/-- The Tap Controller's counters at 0. -/
def TapCtl.cleared (t : TapCtl) : TapCtl :=
  { t with late := 0, duplicate := 0, resync := 0, slip := 0, gap := 0, starve := 0, foreign := 0 }

/-- The Voice Arbiter's counters at 0. -/
def VoiceArb.cleared (v : VoiceArb) : VoiceArb := { v with late := 0, overflow := 0, lost := 0, eviction := 0, nodeFull := 0 }

/-- The Trunk Interface's counters at 0. -/
def Trunk.cleared (t : Trunk) : Trunk :=
  { t with dropA := 0, dropB := 0, refusalC := 0, stale := 0, collision := 0, failure := 0, backOff := 0, crcError := 0,
           headerError := 0, stationClash := 0, peerExpiry := 0 }

/-- Every counter of every block is set to 0; time since start and the link-up times stand (R190). -/
def State.clearCounters (s : State) : State :=
  { s with
    berths := { s.berths with requests := 0, refusals := 0 },
    mixer := { s.mixer with clip := 0 },
    taps := s.taps.cleared,
    carry := { s.carry with underrun := 0, feedError := 0 },
    orig := { s.orig with discard := 0, error := 0 },
    voice := s.voice.cleared,
    phase := { s.phase with adoption := 0, phaseError := 0 },
    trunk := s.trunk.cleared,
    links := Vector.ofFn fun p => { s.links[p] with counters := .zero } }

end Sys2Proof.Machine
end

