-- ==== Sys2Proof/Machine/Service.lean ====
section
/-! DEFINITION. Service requests (chapter 10, section 10.6; R85, R155). -/

namespace Sys2Proof.Machine

/-- One SERVICE_REPLY is handed to class C; the flag says that it was accepted (R189). -/
def State.reply (s : State) (k : ServiceKind) (r : ServiceResult) (pl : Payload) : State × Bool :=
  s.handOverTold (.serviceReply k r pl)

/-- A ONE_SHOT request at a channel that feeds the program: mode ONE_SHOT, a running window abandoned (R85). -/
def Channel.oneShot (x : Channel) (cfg : ChannelConfig) : Channel :=
  let y := if x.carried then x.abandon cfg else x
  { y with mode := .oneShot }

/-- ONE_SHOT: NOT_FED, or ACCEPTED with STARTED or HELD (R85, R192). -/
def State.serveOneShot (s : State) (program : Nat) : State :=
  match s.image.feeder program with
  | none => (s.reply .oneShot .notFed .none).1
  | some c =>
    let payload : Payload := if (s.chan c).carried then .started else .held
    ((s.modChan c fun x => x.oneShot s.image.channels[c]).reply .oneShot .accepted payload).1

/-- The port a number names, if it is 1 up to the berth count (R192). -/
def State.portOf (s : State) (n : Nat) : Option Port :=
  if h : 1 ≤ n ∧ n ≤ 12 then if n ≤ s.image.berthCount then some ⟨n - 1, by omega⟩ else none else none

/-- BERTH_RESET: BAD_PORT, or the link is reset and ACCEPTED (R155, R192). -/
def State.serveBerthReset (s : State) (port : Nat) : State :=
  match s.portOf port with
  | none => (s.reply .berthReset .badPort .none).1
  | some p => ((s.resetLink p).reply .berthReset .accepted .none).1

/-- RESTART: the restart is pending for 2,000 ms at most, or until the first reply leaves; refused, that reply lets it
begin at once (R191). -/
def State.serveRestart (s : State) : State :=
  if s.startup.restart.isSome then (s.reply .restart .accepted .none).1
  else
    let s1 := { s with startup := { s.startup with restart := some (s.now + ms 2000) } }
    let r := s1.handOverMarked (.serviceReply .restart .accepted .none) true
    if r.2 then r.1 else r.1.restartNow

/-- A SERVICE_REQUEST delivered with a good CRC: answered in RUNNING when its target is the own station, its effect
before its reply (R189). -/
def State.takeService (s : State) (target : Nat) (k : ServiceKind) (argument : Nat) : State :=
  if s.running ∧ target = s.startup.station then
    match k with
    | .status => (s.reply .status .accepted (.status s.statusReport)).1
    | .counters => (s.reply .counters .accepted (.counters s.counterReport)).1
    | .clearCounters => (s.clearCounters.reply .clearCounters .accepted .none).1
    | .restart => s.serveRestart
    | .oneShot => s.serveOneShot argument
    | .berthReset => s.serveBerthReset argument
    | .other n => (s.reply (.other n) .unknown .none).1
  else s

end Sys2Proof.Machine
end

