-- ==== Sys2Proof/Machine/Receive.lean ====
section
/-! DEFINITION. The receive side of the Trunk Interface (chapter 9, sections 9.3 and 9.4): checks, peer list, delivery by
kind; the commands of the packets received. -/

namespace Sys2Proof.Machine

/-! ## The peer list (R174) -/

/-- The entry of a station. -/
def State.peer? (s : State) (station : Nat) : Option Peer := s.trunk.peers.find? fun q => q.station == station

/-- An entry with every field absent (R174). -/
def Peer.fresh (station : Nat) (now : Time) : Peer :=
  { station := station, heard := now, range := none, berthsUp := none, epoch := none, feeds := none, panel := none }

/-- A good packet from a station: its entry is created, in station order, or its age set to 0 (R174). -/
def State.refreshPeer (s : State) (station : Nat) : State :=
  s.modTrunk fun t =>
    { t with peers :=
        match t.peers.find? fun q => q.station == station with
        | none => insertBefore (fun a b => decide (a.station < b.station)) (Peer.fresh station s.now) t.peers
        | some _ => t.peers.map fun q => if q.station = station then { q with heard := s.now } else q }

/-- The header error counter counts one (R171, R174). -/
def State.countHeaderError (s : State) : State := s.modTrunk fun t => { t with headerError := bump t.headerError }

/-- A yes/no field, absent when it is neither (R174). -/
def yesNoField (v : YesNo) : Option Bool :=
  match v with
  | .yes => some true
  | .no => some false
  | .neither => none

/-- The berth range a PRESENCE record sets (R174). -/
def presenceRange (r : Presence) : Option (Nat × Nat) :=
  if 1 ≤ r.first ∧ r.first ≤ r.last ∧ r.last ≤ 240 then some (r.first, r.last) else none

/-- A field of a PRESENCE record is bad: a range neither good nor 0 and 0, berths UP above 12, feeds or panel neither
yes nor no (R174). -/
def presenceBad (r : Presence) : Bool :=
  ((presenceRange r).isNone && !(r.first == 0 && r.last == 0)) || decide (12 < r.berthsUp) || r.feeds == .neither ||
    r.panel == .neither

/-- The fields of a PRESENCE record in an entry (R174). -/
def Peer.present (q : Peer) (r : Presence) : Peer :=
  { q with range := presenceRange r, berthsUp := if r.berthsUp ≤ 12 then some r.berthsUp else none, epoch := some r.epoch,
           feeds := yesNoField r.feeds, panel := yesNoField r.panel }

/-- A PRESENCE record at the peer list: passed over for the own station, counted once when a field is bad (R173, R174). -/
def State.takePresence (s : State) (source : Nat) (r : Presence) : State :=
  if source = s.startup.station then s
  else
    let s1 := s.modTrunk fun t => { t with peers := t.peers.map fun q => if q.station = source then q.present r else q }
    if presenceBad r then s1.countHeaderError else s1

/-! ## Delivery (R172) -/

/-- A good packet is delivered by its kind (R172). -/
def State.deliver (s : State) (p : Packet) : State :=
  match p.body with
  | .programAudio program trim sequence frames =>
    s.takeProgramAudio p.source program { sequence := sequence, trim := trim, frames := frames }
  | .programVideo program sequence payload => s.takeProgramVideo p.source program { sequence := sequence, payload := payload }
  | .carry l => (s.takeCatalogue p.source l).takeShadowing p.source l
  | .want l => s.takeWant p.source l
  | .announce d t => s.takeAnnounce d t
  | .ack id c _ => s.takeAck p.source id c
  | .phase e ph st => s.takePhase p.source e ph st
  | .presence r => s.takePresence p.source r
  | .serviceRequest target k a => s.takeService target k a
  | .serviceReply _ _ _ => s

/-- The transmitter is sending. -/
def Trunk.isSending (t : Trunk) : Bool :=
  match t.current with
  | none => false
  | some c =>
    match c.stage with
    | .sending _ => true
    | .waiting _ => false

/-- The receive side takes carrier from the trunk: not in LOADING, nor while the node itself is sending (R171). A packet is taken
from the beginning of its carrier to its end, and R171 is silent on one whose carrier begins in LOADING and ends after it: it is
judged here by the state at its end alone, and taken whole (DESIGN CHOICE, log 45). Nor does R171 say whether the node is
sending while it jams: here it is not, and carrier that ends during the jam is taken (DESIGN CHOICE, log 47). -/
def State.listens (s : State) : Bool := !s.loading && !s.trunk.isSending

/-- Carrier from another station ends now: waits count from here (R168). -/
def State.carrierEnds (s : State) : State := s.modTrunk fun t => { t with idleFrom := max t.idleFrom s.now }

/-- A packet whose CRC is good: the checks of R171 on its source and its fields (R198), then the peer list, then
delivery (R171, R172, R174). -/
def State.takeGood (s : State) (p : Packet) : State :=
  if ¬(1 ≤ p.source ∧ p.source ≤ 30) ∨ bodyOk p.body = false then s.countHeaderError
  else if p.source = s.startup.station then s.modTrunk fun t => { t with stationClash := bump t.stationClash }
  else (s.refreshPeer p.source).deliver p

/-- A packet with a good CRC arrives from the trunk (R171). -/
def State.receive (s : State) (p : Packet) : State := if s.listens then s.carrierEnds.takeGood p else s

/-! ## Commands -/

/-- TRUNK_PACKET_DISCARDED: the checks of R171 on the bytes of a carrier; debris is uncounted, a bad CRC and a bad header
or body are counted, and bytes that pass every check are a packet like any other (R171, R198). -/
def execTrunkPacketDiscarded (carrier : List Byte) (s : State) : Host.Outcome State Fault Refusal :=
  if s.listens then
    let s1 := s.carrierEnds
    match receiveBytes carrier with
    | .debris => .next s1
    | .crcError => .next (s1.modTrunk fun t => { t with crcError := bump t.crcError })
    | .headerError => .next s1.countHeaderError
    | .good p => .next (s1.takeGood p)
  else .next s

/-- PROGRAM_AUDIO (R53, R54). -/
def execProgramAudio (source program : Nat) (trim : Int) (sequence : Seq) (frames : List StereoFrame) (s : State) :
    Host.Outcome State Fault Refusal :=
  .next (s.receive { source := source, body := .programAudio program trim sequence frames })

/-- PROGRAM_VIDEO (R60). -/
def execProgramVideo (source program : Nat) (sequence : Seq) (payload : List Byte) (s : State) :
    Host.Outcome State Fault Refusal :=
  .next (s.receive { source := source, body := .programVideo program sequence payload })

/-- CARRY (R43, R81). -/
def execCarry (source : Nat) (entries : List CarryEntry) (s : State) : Host.Outcome State Fault Refusal :=
  .next (s.receive { source := source, body := .carry entries })

/-- WANT (R72). -/
def execWant (source : Nat) (programs : List Nat) (s : State) : Host.Outcome State Fault Refusal :=
  .next (s.receive { source := source, body := .want programs })

/-- ANNOUNCE, LEAD_IN phase (R108). -/
def execAnnounceLeadIn (source : Nat) (d : Descriptor) (s : State) : Host.Outcome State Fault Refusal :=
  .next (s.receive { source := source, body := .announce d .leadIn })

/-- ANNOUNCE, HOLD phase (R108). -/
def execAnnounceHold (source : Nat) (d : Descriptor) (s : State) : Host.Outcome State Fault Refusal :=
  .next (s.receive { source := source, body := .announce d .hold })

/-- ANNOUNCE, SPEECH phase (R108 to R110). -/
def execAnnounceSpeech (source : Nat) (d : Descriptor) (index : Seq) (samples : List Sample) (s : State) :
    Host.Outcome State Fault Refusal :=
  .next (s.receive { source := source, body := .announce d (.speech index samples) })

/-- ANNOUNCE, END phase (R126). -/
def execAnnounceEnd (source : Nat) (d : Descriptor) (reason : EndReason) (s : State) : Host.Outcome State Fault Refusal :=
  .next (s.receive { source := source, body := .announce d (.fin reason) })

/-- ACK (R102). -/
def execAck (source : Nat) (id : AnnId) (counts : Totals) (items : List AckItem) (s : State) :
    Host.Outcome State Fault Refusal :=
  .next (s.receive { source := source, body := .ack id counts items })

/-- PHASE (R133). -/
def execPhase (source : Nat) (epoch : Seq) (phase setter : Nat) (s : State) : Host.Outcome State Fault Refusal :=
  .next (s.receive { source := source, body := .phase epoch phase setter })

/-- PRESENCE (R174). -/
def execPresence (source : Nat) (r : Presence) (s : State) : Host.Outcome State Fault Refusal :=
  .next (s.receive { source := source, body := .presence r })

/-- SERVICE_STATUS (R189, R193). -/
def execServiceStatus (source target : Nat) (s : State) : Host.Outcome State Fault Refusal :=
  .next (s.receive { source := source, body := .serviceRequest target .status 0 })

/-- SERVICE_COUNTERS (R189, R194). -/
def execServiceCounters (source target : Nat) (s : State) : Host.Outcome State Fault Refusal :=
  .next (s.receive { source := source, body := .serviceRequest target .counters 0 })

/-- CLEAR_COUNTERS (R190). -/
def execClearCounters (source target : Nat) (s : State) : Host.Outcome State Fault Refusal :=
  .next (s.receive { source := source, body := .serviceRequest target .clearCounters 0 })

/-- RESTART (R191). -/
def execRestart (source target : Nat) (s : State) : Host.Outcome State Fault Refusal :=
  .next (s.receive { source := source, body := .serviceRequest target .restart 0 })

/-- ONE_SHOT (R85, R192). -/
def execOneShot (source target program : Nat) (s : State) : Host.Outcome State Fault Refusal :=
  .next (s.receive { source := source, body := .serviceRequest target .oneShot program })

/-- BERTH_RESET (R155, R192). -/
def execBerthReset (source target port : Nat) (s : State) : Host.Outcome State Fault Refusal :=
  .next (s.receive { source := source, body := .serviceRequest target .berthReset port })

/-- SERVICE_REQUEST_UNKNOWN (R189). -/
def execServiceRequestUnknown (source target code : Nat) (s : State) : Host.Outcome State Fault Refusal :=
  .next (s.receive { source := source, body := .serviceRequest target (.other code) 0 })

/-- SERVICE_REPLY_RECEIVED: passed over, after refreshing the peer list (R172). Its content is not read. -/
def execServiceReplyReceived (source : Nat) (s : State) : Host.Outcome State Fault Refusal :=
  .next (s.receive { source := source, body := .serviceReply .status .accepted .none })

/-- PEER_EXPIRY: an entry whose age reaches 3,000 ms is removed and counted (R175). -/
def execPeerExpiry (station : Nat) (s : State) : Host.Outcome State Fault Refusal :=
  match s.peer? station with
  | none => .next s
  | some q =>
    .next ((s.reach (q.heard + ms 3000)).modTrunk fun t =>
      { t with peers := t.peers.filter fun x => x.station ≠ station, peerExpiry := bump t.peerExpiry })

end Sys2Proof.Machine
end

