-- ==== Sys2Proof/Machine/Access.lean ====
section
/-! DEFINITION. The trunk transmitter (chapter 9, section 9.2): deferral, attempts, collisions, sending and loopback, stale
packets, BACKED_OFF. -/

namespace Sys2Proof.Machine

/-- A jam of 32 bits: 0.16 µs (R168). -/
def jam : Time := 4

/-- A class B packet's age limit before its first attempt: 2 ms (R166). -/
def staleAge : Time := ms 2

/-- The packet's class. -/
def TxPacket.cls (x : TxPacket) : AccessClass := accessClass x.packet.body

/-- The wait after a collision of the attempt counted last: the class gap plus k slots of 1 µs, k drawn from 0 to
2^m − 1, m the lesser of the attempt count and 5 (R168, log 4). -/
def backoffWait (t : Trunk) (c : Current) : Time :=
  c.tx.cls.gap + us (Config.backoffDraw t.seed t.draws % 2 ^ min c.attempts 5)

/-- A packet is dropped at the attempt limit: counted, and the 64th consecutive failure leads to BACKED_OFF (R168, R170). The
drop, and with it the entry to BACKED_OFF, falls at the moment of the collision and not at the end of the jam (DESIGN
CHOICE, log 41). -/
def Trunk.dropCurrent (t : Trunk) (now : Time) : Trunk :=
  let t1 := { t with current := none, failure := bump t.failure }
  if 64 ≤ t.failures + 1 then
    { t1 with mode := .backedOff (now + ms 1000), failures := 0, backOff := bump t.backOff }
  else { t1 with failures := t.failures + 1 }

/-- A collision of the attempt in progress (R168, R176). -/
def Trunk.collide (t : Trunk) (now : Time) (c : Current) : Trunk :=
  let t1 := { t with collision := bump t.collision, idleFrom := now + jam }
  if c.leaving then Trunk.take { t1 with current := none }
  else if 16 ≤ c.attempts then Trunk.take (t1.dropCurrent now)
  else { t1 with current := some { c with stage := .waiting (backoffWait t c) }, draws := t.draws + 1 }

/-- The class B packet whose age runs: the transmitter's before its first attempt, else the oldest queued (R166). -/
def Trunk.oldestB (t : Trunk) : Option TxPacket :=
  match t.current with
  | some c =>
    match c.tx.cls, c.attempts, c.stage with
    | .b, 0, .waiting _ => some c.tx
    | _, _, _ => t.queueB.head?
  | none => t.queueB.head?

/-- The oldest class B packet is removed as stale; the transmitter, if it held it, is free at once (R166). -/
def Trunk.discardStale (t : Trunk) : Trunk :=
  let t1 := { t with stale := bump t.stale }
  match t.current with
  | some c =>
    match c.tx.cls, c.attempts, c.stage with
    | .b, 0, .waiting _ => Trunk.take { t1 with current := none }
    | _, _, _ => { t1 with queueB := t.queueB.drop 1 }
  | none => { t1 with queueB := t.queueB.drop 1 }

/-- The moment at which the current packet begins an attempt: the carrier has been idle for its wait (R168). -/
def Trunk.attemptAt (t : Trunk) : Option Time :=
  match t.current with
  | none => none
  | some c =>
    match c.stage with
    | .waiting w => some (t.idleFrom + w)
    | .sending _ => none

/-- The moment of the attempt that the current packet may still begin: a class B packet past its age limit makes no first
attempt (R166, R168; log 28). -/
def State.attemptDue (s : State) : Option Time :=
  match s.trunk.current, s.trunk.attemptAt with
  | some c, some t =>
    if c.tx.cls = .b ∧ c.attempts = 0 ∧ c.tx.handed + staleAge < max s.now t then none else some t
  | _, _ => none

/-- The node's own packet is looped back to its blocks: the body check of R198 is made for it too (R172). -/
def State.loopBack (s : State) (p : Packet) : State := if bodyOk p.body then s.deliver p else s.countHeaderError

/-! ## Commands -/

/-- CARRIER_DEFER: carrier of another station for a duration; waits count again from its end (R168). -/
def execCarrierDefer (duration : Nat) (s : State) : Host.Outcome State Fault Refusal :=
  if s.listens then .next (s.modTrunk fun t => { t with idleFrom := max t.idleFrom (s.now + duration) }) else .next s

/-- ATTEMPT_START: the carrier has been idle for the wait of the current packet; a class B packet past its age limit
makes no first attempt (R166, R168). -/
def execAttemptStart (s : State) : Host.Outcome State Fault Refusal :=
  match s.trunk.current, s.attemptDue with
  | some c, some t =>
    let s1 := s.reach t
    .next (s1.modTrunk fun u => { u with current := some { c with attempts := c.attempts + 1, stage := .sending s1.now } })
  | _, _ => .next s

/-- COLLISION: jam, then a new wait, or the drop at attempt 16, or the abandonment of a packet that a soft restart left
in its attempt; a dropped restart reply lets the restart begin (R168, R170, R176, R191). -/
def execCollision (s : State) : Host.Outcome State Fault Refusal :=
  match s.trunk.current with
  | none => .next s
  | some c =>
    match c.stage with
    | .waiting _ => .next s
    | .sending _ =>
      let s1 := s.modTrunk fun t => t.collide s.now c
      if !c.leaving && decide (16 ≤ c.attempts) && c.tx.restartReply then .next s1.restartNow else .next s1

/-- PACKET_SENT: the attempt has reached the end of the packet: the transmitter is free and takes the next, the packet
is looped back, and a reply that a restart waits for lets it begin (R169, R172, R191, R198). -/
def execPacketSent (s : State) : Host.Outcome State Fault Refusal :=
  match s.trunk.current with
  | none => .next s
  | some c =>
    match c.stage with
    | .waiting _ => .next s
    | .sending since =>
      let s1 := s.reach (since + occupancy c.tx.packet)
      let s2 := s1.modTrunk fun t => Trunk.take { t with idleFrom := s1.now, failures := 0, current := none }
      let s3 := s2.loopBack c.tx.packet
      .next (if c.tx.restartReply && !c.leaving then s3.restartNow else s3)

/-- STALE: the oldest class B packet reaches 2 ms before its first attempt (R166). -/
def execStale (s : State) : Host.Outcome State Fault Refusal :=
  match s.trunk.oldestB with
  | none => .next s
  | some x => .next ((s.reach (x.handed + staleAge)).modTrunk Trunk.discardStale)

/-- BACKED_OFF_END: 1,000 ms after entering BACKED_OFF the transmitter is ENABLED and takes the head of its queues
(R170). -/
def execBackedOffEnd (s : State) : Host.Outcome State Fault Refusal :=
  match s.trunk.mode with
  | .enabled => .next s
  | .backedOff t => .next ((s.reach t).modTrunk fun u => Trunk.take { u with mode := .enabled })

end Sys2Proof.Machine
end

