-- ==== Sys2Proof/Machine/Timers.lean ====
section
/-! DEFINITION. What the node does when no command waits: every timer it holds, with its deadline, and the idle step (log 2,
log 3). -/

namespace Sys2Proof.Machine

/-- A timer, when it is armed: its deadline and the command it raises. -/
def timer (deadline : Option Time) (i : Instr) : List (Time × Instr) :=
  match deadline with
  | some t => [(t, i)]
  | none => []

/-- A deadline that counts only while a condition holds. -/
def onlyIf (b : Bool) (t : Option Time) : Option Time := if b then t else none

/-- The timers of the Start-up Controller and the Phase Controller (R181, R187, R191, R132). -/
def State.startTimers (s : State) : List (Time × Instr) :=
  timer (s.startup.loadSince.map fun t => t + ms 50) .loadTimeout ++
  timer (onlyIf (s.startup.state == .listening) s.startup.listenEnd) .listeningEnd ++
  timer s.startup.restart .restartPendingTimeout ++
  timer (onlyIf s.running s.phase.phaseDue) .phasePeriod

/-- The timers of the Trunk Interface (R166, R168, R170, R173, R175). -/
def State.trunkTimers (s : State) : List (Time × Instr) :=
  timer s.attemptDue .attemptStart ++
  timer (s.trunk.oldestB.map fun x => x.handed + staleAge) .stale ++
  timer (match s.trunk.mode with
    | .enabled => none
    | .backedOff t => some t) .backedOffEnd ++
  timer (onlyIf s.running s.trunk.presenceDue) .presencePeriod ++
  s.trunk.peers.map fun q => (q.heard + ms 3000, .peerExpiry q.station)

/-- The timers of the Tap Controller (R44, R51, R57). -/
def State.tapTimers (s : State) : List (Time × Instr) :=
  timer (onlyIf s.running s.taps.wantDue) .wantPeriod ++
  (s.taps.catalogue.map fun e => (e.listed + ms 1000, .catalogueExpiry e.program)) ++
  (s.taps.taps.filter fun t => t.state == .starved).map fun t => (t.lastKept + ms 300, .starvedTimeout t.program)

/-- The timers of one feed channel (R73, R77, R82, R84). -/
def State.channelTimers (s : State) (c : Chan) : List (Time × Instr) :=
  let x := s.chan c
  timer (onlyIf ((x.window.map fun w => decide (1000 ≤ w.count)).getD false) (some s.now)) (.levelWindowEnd c) ++
  (x.demand.map fun d => (d.2, .demandExpiry c d.1)) ++
  timer (onlyIf (x.state == .linger && x.demand.isEmpty) x.lingerEnd) (.lingerEnd c) ++
  timer (onlyIf (x.state == .shadowed) x.shadowEnd) (.shadowEnd c)

/-- The timers of the Carry Controller, and the two clocks (R24, R65, R80). -/
def State.carryTimers (s : State) : List (Time × Instr) :=
  timer s.mixer.nextBlock .blockEvent ++ timer s.carry.nextFeed .feedEvent ++
  timer (onlyIf s.running s.carry.carryDue) .carryPeriod ++ allChans.flatMap s.channelTimers

/-- The timers of the Originator (R95, R99, R103). -/
def State.origTimers (s : State) : List (Time × Instr) :=
  let o := s.orig
  match o.state with
  | .idle => []
  | .leadIn =>
    timer (onlyIf (decide (o.leadIns < 20)) (some (o.accepted + ms (10 * o.leadIns)))) .leadInEvent ++
    timer (onlyIf o.desc.isSome (some (o.accepted + ms 200))) .leadInComplete
  | .speech =>
    timer (onlyIf ((o.nextHold.map fun t => decide (t < o.lastAudio + ms 5000)).getD false) o.nextHold) .holdTimer ++
    timer (some (o.lastAudio + ms 5000)) .panelLost
  | .collecting => timer (o.ackTable.bind AckTable.windowEnd) .windowEnd

/-- The timers of one port: inactivity, seat link, caption, pending list (R12, R120, R149, R150, R152, R153, R159). -/
def State.portTimers (s : State) (p : Port) : List (Time × Instr) :=
  let b := s.berth p
  let l := s.links[p]
  timer (match b.attention, b.timer with
    | .awake, .counting t => onlyIf (s.inService p) (some (t + inactivityLimit))
    | _, _ => none) (.inactivityExpiry p) ++
  timer (onlyIf (l.state == .down && decide (0 < l.goodCount)) (l.lastGood.map fun t => t + ms 100)) (.goodCountTimeout p) ++
  timer (onlyIf (l.state == .up) (l.lastGood.map fun t => t + ms 100)) (.statusWatchExpiry p) ++
  timer (onlyIf (l.state == .up) (l.hold.map fun t => t + ms 50)) (.linkFault p) ++
  timer l.holdOff (.holdOffEnd p) ++
  timer l.cardDeadline (.captionAckTimeout p) ++
  (s.berthVoice p).pending.map fun x => (x.2 + ms 20000, .pendingWaitLimit p x.1)

/-- Every timer that is armed, with its deadline and its command. -/
def State.timers (s : State) : List (Time × Instr) :=
  s.startTimers ++ s.trunkTimers ++ s.tapTimers ++ s.carryTimers ++ s.origTimers ++
  (s.voice.table.map fun e => (e.lastPacket + ms 300, .entryLost e.desc.id)) ++
  allPorts.flatMap s.portTimers

/-- The earliest deadline that time has reached. -/
def State.earliest (s : State) : Option Time :=
  (s.timers.filter fun x => decide (x.1 ≤ s.now)).foldl
    (fun acc x =>
      match acc with
      | none => some x.1
      | some t => some (min t x.1)) none

/-- The commands of the timers that run out first, of those that time has reached. -/
def State.dueCommands (s : State) : List Instr :=
  match s.earliest with
  | none => []
  | some t => (s.timers.filter fun x => x.1 == t).map fun x => x.2

/-- Nothing waits: of the timers that ran out first, one raises its command, a free choice among those that ran out
together, which are looked at anew when it has been taken (log 3); when none has run out, 40 ns pass. -/
def State.idle (s : State) : State :=
  match s.dueCommands[Config.pick s.free % s.dueCommands.length]? with
  | none => { s with now := s.now + 1 }
  | some c => { s with pending := [c], free := s.free + 1 }

end Sys2Proof.Machine
end

