-- ==== Sys2Proof/Machine/Dispatch.lean ====
section
/-! DEFINITION. The dispatch of a command to its meaning: one arm for each constructor of Instr. -/

namespace Sys2Proof.Machine

/-- The effect of a command on everything but the queue of commands. -/
def exec (i : Instr) (s : State) : Host.Outcome State Fault Refusal :=
  match i with
  | .powerOn straps => Sys2Proof.Machine.execPowerOn straps s
  | .resetNLow => Sys2Proof.Machine.execResetNLow s
  | .resetNHigh straps => Sys2Proof.Machine.execResetNHigh straps s
  | .configurationLoadEnd image => Sys2Proof.Machine.execConfigurationLoadEnd image s
  | .loadTimeout => Sys2Proof.Machine.execLoadTimeout s
  | .listeningEnd => Sys2Proof.Machine.execListeningEnd s
  | .softRestart => Sys2Proof.Machine.execSoftRestart s
  | .restartPendingTimeout => Sys2Proof.Machine.execRestartPendingTimeout s
  | .serviceStatus source target => Sys2Proof.Machine.execServiceStatus source target s
  | .serviceCounters source target => Sys2Proof.Machine.execServiceCounters source target s
  | .clearCounters source target => Sys2Proof.Machine.execClearCounters source target s
  | .restart source target => Sys2Proof.Machine.execRestart source target s
  | .oneShot source target program => Sys2Proof.Machine.execOneShot source target program s
  | .berthReset source target port => Sys2Proof.Machine.execBerthReset source target port s
  | .serviceRequestUnknown source target code => Sys2Proof.Machine.execServiceRequestUnknown source target code s
  | .serviceReplyReceived source => Sys2Proof.Machine.execServiceReplyReceived source s
  | .trunkPacketDiscarded carrier => Sys2Proof.Machine.execTrunkPacketDiscarded carrier s
  | .programAudio source program trim sequence frames => Sys2Proof.Machine.execProgramAudio source program trim sequence frames s
  | .programVideo source program sequence payload => Sys2Proof.Machine.execProgramVideo source program sequence payload s
  | .carry source entries => Sys2Proof.Machine.execCarry source entries s
  | .want source programs => Sys2Proof.Machine.execWant source programs s
  | .announceLeadIn source d => Sys2Proof.Machine.execAnnounceLeadIn source d s
  | .announceHold source d => Sys2Proof.Machine.execAnnounceHold source d s
  | .announceSpeech source d index samples => Sys2Proof.Machine.execAnnounceSpeech source d index samples s
  | .announceEnd source d reason => Sys2Proof.Machine.execAnnounceEnd source d reason s
  | .ack source id counts items => Sys2Proof.Machine.execAck source id counts items s
  | .phase source epoch phase setter => Sys2Proof.Machine.execPhase source epoch phase setter s
  | .presence source r => Sys2Proof.Machine.execPresence source r s
  | .carrierDefer duration => Sys2Proof.Machine.execCarrierDefer duration s
  | .attemptStart => Sys2Proof.Machine.execAttemptStart s
  | .collision => Sys2Proof.Machine.execCollision s
  | .packetSent => Sys2Proof.Machine.execPacketSent s
  | .stale => Sys2Proof.Machine.execStale s
  | .backedOffEnd => Sys2Proof.Machine.execBackedOffEnd s
  | .presencePeriod => Sys2Proof.Machine.execPresencePeriod s
  | .peerExpiry station => Sys2Proof.Machine.execPeerExpiry station s
  | .catalogueExpiry program => Sys2Proof.Machine.execCatalogueExpiry program s
  | .wantPeriod => Sys2Proof.Machine.execWantPeriod s
  | .starvedTimeout program => Sys2Proof.Machine.execStarvedTimeout program s
  | .blockEvent => Sys2Proof.Machine.execBlockEvent s
  | .feedEvent => Sys2Proof.Machine.execFeedEvent s
  | .levelWindowEnd channel => Sys2Proof.Machine.execLevelWindowEnd channel s
  | .audioDelivery channel begins frames check => Sys2Proof.Machine.execAudioDelivery channel begins frames check s
  | .videoDelivery channel payload => Sys2Proof.Machine.execVideoDelivery channel payload s
  | .demandExpiry channel station => Sys2Proof.Machine.execDemandExpiry channel station s
  | .lingerEnd channel => Sys2Proof.Machine.execLingerEnd channel s
  | .shadowEnd channel => Sys2Proof.Machine.execShadowEnd channel s
  | .carryPeriod => Sys2Proof.Machine.execCarryPeriod s
  | .entryLost id => Sys2Proof.Machine.execEntryLost id s
  | .pendingWaitLimit port id => Sys2Proof.Machine.execPendingWaitLimit port id s
  | .select port program => Sys2Proof.Machine.execSelect port program s
  | .volume port level => Sys2Proof.Machine.execVolume port level s
  | .mute port on => Sys2Proof.Machine.execMute port on s
  | .language port value => Sys2Proof.Machine.execLanguage port value s
  | .stop port value wake => Sys2Proof.Machine.execStop port value wake s
  | .dnd port on => Sys2Proof.Machine.execDnd port on s
  | .screen port on => Sys2Proof.Machine.execScreen port on s
  | .brightness port level => Sys2Proof.Machine.execBrightness port level s
  | .skip port => Sys2Proof.Machine.execSkip port s
  | .inactivityExpiry port => Sys2Proof.Machine.execInactivityExpiry port s
  | .status port headset ready => Sys2Proof.Machine.execStatus port headset ready s
  | .goodCountTimeout port => Sys2Proof.Machine.execGoodCountTimeout port s
  | .statusWatchExpiry port => Sys2Proof.Machine.execStatusWatchExpiry port s
  | .request port frame => Sys2Proof.Machine.execRequest port frame s
  | .holdFrame port => Sys2Proof.Machine.execHoldFrame port s
  | .resume port => Sys2Proof.Machine.execResume port s
  | .captionAck port caption action => Sys2Proof.Machine.execCaptionAck port caption action s
  | .seatFrameError port cause => Sys2Proof.Machine.execSeatFrameError port cause s
  | .linkFault port => Sys2Proof.Machine.execLinkFault port s
  | .holdOffEnd port => Sys2Proof.Machine.execHoldOffEnd port s
  | .captionAckTimeout port => Sys2Proof.Machine.execCaptionAckTimeout port s
  | .linkFrameSent port => Sys2Proof.Machine.execLinkFrameSent port s
  | .beginAnn cls first last stop language caption => Sys2Proof.Machine.execBeginAnn cls first last stop language caption s
  | .panelAudio samples => Sys2Proof.Machine.execPanelAudio samples s
  | .panelEnd => Sys2Proof.Machine.execPanelEnd s
  | .abort => Sys2Proof.Machine.execAbort s
  | .setPhase phase => Sys2Proof.Machine.execSetPhase phase s
  | .panelFrameError => Sys2Proof.Machine.execPanelFrameError s
  | .leadInEvent => Sys2Proof.Machine.execLeadInEvent s
  | .leadInComplete => Sys2Proof.Machine.execLeadInComplete s
  | .holdTimer => Sys2Proof.Machine.execHoldTimer s
  | .panelLost => Sys2Proof.Machine.execPanelLost s
  | .windowEnd => Sys2Proof.Machine.execWindowEnd s
  | .phasePeriod => Sys2Proof.Machine.execPhasePeriod s

end Sys2Proof.Machine
end

