-- ==== Sys2Proof/Machine/Step.lean ====
section
/-! DEFINITION. The step: the command at the front of the queue is executed with the queue's rest; an empty queue lets
time pass. -/

namespace Sys2Proof.Machine

/-- One step of the block. With commands waiting it takes the first of them; with none it raises the timers that have run
out, or lets 40 ns pass (log 2). -/
def step (s : State) : Host.Outcome State Fault Refusal :=
  match s.pending with
  | c :: r => exec c { s with pending := r }
  | [] => .next s.idle

/-- The command that a word spells, put at the front of the queue. The table of this block gives no row any bits, so no
word spells a command, and the state stands. -/
def State.withFetchWord (s : State) (_nbits _w : Nat) : State := s

end Sys2Proof.Machine
end

