-- ==== Sys2Proof/Safety.lean ====
section
/-! DEFINITION. What stays true of a node, block by block: the capacities of its queues and lists and the ranges of its
fields. -/

namespace Sys2Proof.Machine

/-- The transmit queues hold at most 8, 16 and 32 packets, and the failure counts stay in range (R164, R167, R170). -/
def Trunk.bounded (t : Trunk) : Bool :=
  decide (t.queueA.length ≤ 8) && decide (t.queueB.length ≤ 16) && decide (t.queueC.length ≤ 32) && decide (t.failures < 64)

/-- A link's queues hold at most 16 control frames, 8 video chunks and 4 waiting cards, and its fault history two times
(R147, R153, R156, R158). -/
def Link.bounded (l : Link) : Bool :=
  decide (l.control.length ≤ 16) && decide (l.video.length ≤ 8) && decide (l.waiting.length ≤ 4) && decide (l.faults.length ≤ 2)

/-- Every link of the node is within its capacities. -/
def State.linksBounded (s : State) : Bool := allPorts.all fun p => s.links[p].bounded

/-- An inactivity timer stands at 600 s at most, whatever the time (R2, R11). -/
def Inactivity.inRange (t : Inactivity) : Bool :=
  match t with
  | .counting _ => true
  | .held v => decide (v ≤ inactivityLimit)

/-- A berth record's fields are in the ranges of R2. -/
def Berth.inRange (b : Berth) : Bool :=
  decide (b.program ≤ 63) && decide (b.volume ≤ 31) && decide (b.language ≤ 3) && decide (b.stop ≤ 99) &&
    decide (b.brightness ≤ 15) && b.timer.inRange && b.reported.all fun n => decide (n ≤ 255)

/-- Every berth record is in range. -/
def State.berthsInRange (s : State) : Bool := allPorts.all fun p => (s.berth p).inRange

/-- The announcement table holds at most 4 entries, the closed-id list 8 ids, each pending list 3 (R107, R114, R119). -/
def VoiceArb.bounded (v : VoiceArb) : Bool :=
  decide (v.table.length ≤ 4) && decide (v.closed.length ≤ 8) && allPorts.all fun p => decide (v.voices[p].pending.length ≤ 3)

/-- An image's fields are in the ranges of R182 and of chapter 7. -/
def Image.inRange (im : Image) : Bool :=
  decide (im.berthBase ≤ 228) && decide (im.berthCount ≤ 12) && decide (im.carryBudget ≤ 8) && decide (im.emergency ≤ 40) &&
    (im.depth == 4 || im.depth == 8 || im.depth == 16)

/-- No two channels in use feed one program (R183). -/
def Image.feedsApart (im : Image) : Bool :=
  allChans.all fun c => allChans.all fun d =>
    c == d || im.channels[c].program == 0 || im.channels[c].program != im.channels[d].program

/-- A step is safe when it has not stopped: its outcome is a next state. -/
def isNext (o : Host.Outcome State Fault Refusal) : Bool :=
  match o with
  | .next _ => true
  | .fault _ => false
  | .refused _ => false

/-! ## Words for statements -/

/-- The packet a command brings from the trunk, for the rows that are packets received (R172). -/
def receivedPacket (i : Instr) : Option Packet :=
  match i with
  | .serviceStatus source target => some { source := source, body := .serviceRequest target .status 0 }
  | .serviceCounters source target => some { source := source, body := .serviceRequest target .counters 0 }
  | .clearCounters source target => some { source := source, body := .serviceRequest target .clearCounters 0 }
  | .restart source target => some { source := source, body := .serviceRequest target .restart 0 }
  | .oneShot source target program => some { source := source, body := .serviceRequest target .oneShot program }
  | .berthReset source target port => some { source := source, body := .serviceRequest target .berthReset port }
  | .serviceRequestUnknown source target code => some { source := source, body := .serviceRequest target (.other code) 0 }
  | .serviceReplyReceived source => some { source := source, body := .serviceReply .status .accepted .none }
  | .programAudio source program trim sequence frames => some { source := source, body := .programAudio program trim sequence frames }
  | .programVideo source program sequence payload => some { source := source, body := .programVideo program sequence payload }
  | .carry source entries => some { source := source, body := .carry entries }
  | .want source programs => some { source := source, body := .want programs }
  | .announceLeadIn source d => some { source := source, body := .announce d .leadIn }
  | .announceHold source d => some { source := source, body := .announce d .hold }
  | .announceSpeech source d index samples => some { source := source, body := .announce d (.speech index samples) }
  | .announceEnd source d reason => some { source := source, body := .announce d (.fin reason) }
  | .ack source id counts items => some { source := source, body := .ack id counts items }
  | .phase source epoch phase setter => some { source := source, body := .phase epoch phase setter }
  | .presence source r => some { source := source, body := .presence r }
  | _ => none

/-- The seven service requests (section 10.6): their source, target, kind and argument. -/
def serviceRequest (i : Instr) : Option (Nat × Nat × ServiceKind × Nat) :=
  match receivedPacket i with
  | some { source := source, body := .serviceRequest target kind argument } => some (source, target, kind, argument)
  | _ => none

/-- A packet of another station that the node takes: the receive side listens, and the source is a station number and not
the node's own (R171). -/
def State.takesFrom (s : State) (source : Nat) : Bool :=
  s.listens && decide (1 ≤ source ∧ source ≤ 30) && decide (source ≠ s.startup.station)

/-- The state in which a packet of another station is delivered: its carrier has ended and the peer list has it (R171,
R174). -/
def State.heard (s : State) (source : Nat) : State := s.carrierEnds.refreshPeer source

/-- Every counter of every block and of all twelve ports (R190). -/
def State.everyCounter (s : State) : List Counter :=
  [s.berths.requests, s.berths.refusals, s.mixer.clip, s.carry.underrun, s.carry.feedError, s.orig.discard, s.orig.error,
   s.phase.adoption, s.phase.phaseError] ++ s.taps.counters ++ s.voice.counters ++ s.trunk.counters ++
  allPorts.flatMap fun p => s.links[p].counters.list

/-- The packet of a body that the node hands over between two states (R164). -/
def handedBy (s t : State) (b : Body) : TxPacket :=
  { packet := { source := s.startup.station, body := b }, handed := t.now, restartReply := false }

/-- Every packet that the transmitter and its queues hold. -/
def Trunk.held (t : Trunk) : List TxPacket := (t.current.map Current.tx).toList ++ t.queueA ++ t.queueB ++ t.queueC

/-- The transmitter takes no packet: it holds one, or it is BACKED_OFF (R167, R170). -/
def Trunk.takesNone (t : Trunk) : Prop := t.current.isSome = true ∨ t.mode ≠ .enabled

/-- A body handed to class C: a queue with room takes it, at its tail while the transmitter takes none, and the transmitter and
its queues then hold it beside what they held; a full queue refuses and counts it (R164, R165, R167, R170). -/
def queuedC (s t : State) (b : Body) : Prop :=
  (s.trunk.queueC.length < 32 → t.trunk.held.Perm (s.trunk.held ++ [handedBy s t b]) ∧
    (s.trunk.takesNone → t.trunk.queueC = s.trunk.queueC ++ [handedBy s t b])) ∧
  (32 ≤ s.trunk.queueC.length → t.trunk.held.Perm s.trunk.held ∧ t.trunk.refusalC = bump s.trunk.refusalC ∧
    (s.trunk.takesNone → t.trunk.queueC = s.trunk.queueC))

/-- A body handed to class A: a queue with room takes it, at its tail while the transmitter takes none, and the transmitter and
its queues then hold it beside what they held; a full queue loses its oldest, which is counted (R164, R165, R167, R170). -/
def queuedA (s t : State) (b : Body) : Prop :=
  (s.trunk.queueA.length < 8 → t.trunk.held.Perm (s.trunk.held ++ [handedBy s t b]) ∧
    (s.trunk.takesNone → t.trunk.queueA = s.trunk.queueA ++ [handedBy s t b])) ∧
  (s.trunk.queueA.length = 8 → t.trunk.dropA = bump s.trunk.dropA ∧
    (s.trunk.takesNone → t.trunk.queueA = s.trunk.queueA.tail ++ [handedBy s t b]))

/-- Bodies handed to class C one after the other: with room for all, the transmitter and its queues hold them beside what they
held; while the transmitter takes none, those there is room for join the tail in their order, and each of the rest is refused and
counted (R164, R165, R167, R170). -/
def queuedInC (s t : State) (l : List Body) : Prop :=
  let room := 32 - s.trunk.queueC.length
  (l.length ≤ room → t.trunk.held.Perm (s.trunk.held ++ l.map (handedBy s t))) ∧
  (s.trunk.takesNone → t.trunk.queueC = s.trunk.queueC ++ (l.map (handedBy s t)).take room ∧
    t.trunk.refusalC = bumpBy (l.length - room) s.trunk.refusalC)

/-- A frame is handed to a link: it waits in the control queue or is being sent (R147). -/
def Link.holds (l : Link) (f : SeatFrame) : Prop := l.sending = some f ∨ f ∈ l.control

/-- Control frames handed to an UP link one after the other, with nothing else (R147): while the transmitter is busy, those there
is room for join the control queue's tail and each of the rest is counted; a free transmitter, with no UNIT_RESET to send, takes
the oldest at once; with room for all, the link holds them all. -/
def framesHanded (l l' : Link) (frames : List SeatFrame) : Prop :=
  let room := 16 - l.control.length
  let waiting := l.control ++ frames
  (frames = [] → l' = l) ∧
  (l.sending.isSome = true → l' = { l with
    control := l.control ++ frames.take room,
    counters := { l.counters with controlOverflow := bumpBy (frames.length - room) l.counters.controlOverflow } }) ∧
  (frames ≠ [] → frames.length ≤ room → l.sending = none → l.resets = [] →
    l' = { l with sending := waiting.head?, control := waiting.tail }) ∧
  (frames.length ≤ room → ∀ f ∈ frames, l'.holds f)

/-- The level of an UP berth is recomputed once, after the event, and no other frame than those of `before` is handed to its link
(R18): a SCREEN_LEVEL frame of the new level follows them exactly when it differs from the level last reported, and is then the
level reported. -/
def levelSent (s t : State) (p : Port) (before : List SeatFrame) : Prop :=
  let level := t.screenLevel p
  framesHanded s.links[p] t.links[p] (before ++ if (s.berth p).reported = some level then [] else [.screenLevel level]) ∧
  (t.berth p).reported = some level

/-- What a passenger request does beside its own effect `f` on the berth record (R4, R5, R18, R23): the activity step,
one ANSWER, the counters, the level reported, in a SCREEN_LEVEL frame behind the ANSWER when it is new; no other port and no other
block. -/
def requestTaken (s t : State) (p : Port) (k : RequestKind) (a : Answer) (f : Berth → Berth) : Prop :=
  t.berth p = { f ((s.berth p).activity s.now) with reported := some (t.screenLevel p) } ∧
  (∀ q, q ≠ p → t.berth q = s.berth q ∧ t.links[q] = s.links[q]) ∧
  t.berths.requests = bump s.berths.requests ∧
  t.berths.refusals = (if a = .accepted then s.berths.refusals else bump s.berths.refusals) ∧
  (s.links[p].control.length < 16 → (t.links[p]).holds (.answer k a)) ∧ levelSent s t p [.answer k a] ∧
  t = { s with berths := t.berths, links := t.links }

/-- The record of a port in the entry of an id (R107). -/
def State.record? (s : State) (id : AnnId) (p : Port) : Option BerthRec :=
  (s.entry? id).bind fun e => e.recs.find? fun r => r.port == p

/-- What a voice left free comes to: what it serves, the pending list that is left, the berth record after the wakes, and the
roles that the berth's records take, in the order of their turns (R118, R120). -/
structure Served where
  serving : Serving
  left    : List (AnnId × Time)
  berth   : Berth
  roles   : List (AnnId × Role)

/-- An announcement takes a role at its turn, before those of the others. -/
def Served.with (w : Served) (id : AnnId) (r : Role) : Served := { w with roles := (id, r) :: w.roles }

/-- An entry in SPEECH is at a position above 2,000, the late-join test of R118: how far it has played, or the lowest queued
index before playout (R111). -/
def Entry.tooLate (e : Entry) : Bool :=
  e.state == .speech && match e.playout, e.queue with
    | .started n, _ => decide (2000 < n)
    | .notStarted, b :: _ => decide (2000 < b.index.toNat)
    | .notStarted, [] => false

/-- The wake of a berth at a time (R13). -/
def Berth.woken (b : Berth) (now : Time) : Berth :=
  if b.attention = .dnd then { b with screen := .on } else { b with attention := .awake, timer := .counting now, screen := .on }

/-- A voice left free at a time serves its pending list from the head (R120): each announcement leaves the list and has its turn
(R118), with the delivery decision made afresh on the berth as it then stands; one that fixes an outcome is passed over, the
first taken into the voice ends the serving, and an empty list leaves the voice IDLE. -/
def State.servedFrom (s : State) (p : Port) (now : Time) : Berth → List (AnnId × Time) → Served
  | b, [] => { serving := .idle, left := [], berth := b, roles := [] }
  | b, x :: r =>
    match s.entry? x.1 with
    | none => s.servedFrom p now b r
    | some e =>
      match (s.modBerth p fun _ => b).decision e.desc.cls p with
      | .unreachable => (s.servedFrom p now b r).with x.1 (.fixed (.declined .unreachable))
      | .decline => (s.servedFrom p now b r).with x.1 (.fixed (.declined .policy))
      | .caption => (s.servedFrom p now b r).with x.1 (.fixed .caption)
      | .audio wake =>
        let b' := if wake then b.woken now else b
        if e.tooLate then (s.servedFrom p now b' r).with x.1 (.fixed .missed)
        else { serving := if e.state = .leadIn then .chime x.1 else .speaking x.1, left := r, berth := b',
               roles := [(x.1, .inService)] }

/-- A role at which a caption card is shown: CAPTION, MISSED, or taken into the voice (R127). -/
def Role.shown (r : Role) : Bool :=
  match r with
  | .inService => true
  | .fixed .caption => true
  | .fixed .missed => true
  | _ => false

/-- What an event leaves at a berth whose voice it frees, from the berth record that the event's other steps make and the list
that waits (R118 to R120, R125, R127, R18, R19): the voice serves the list; each announcement of it that has had its turn has its
role, with a card where one is shown; the emergency hold is set exactly while an EMERGENCY is served, and an announcement that
finds it set flushes no video; a level newly reported is handed in a SCREEN_LEVEL frame, and a change of the hold reports the
level. -/
def servesOn (s t : State) (p : Port) (b : Berth) (list : List (AnnId × Time)) : Prop :=
  let w := s.servedFrom p t.now b list
  t.berthVoice p = { serving := w.serving, pending := w.left } ∧
  t.berth p = { w.berth with hold := (t.berth p).hold, reported := (t.berth p).reported } ∧
  ((t.berth p).hold = true ↔ (t.currentId p).bind t.classOfId = some .emergency) ∧
  t.links[p].counters.videoFlush = (if (t.berth p).hold = true ∧ (s.berth p).hold = false
    then bumpBy s.links[p].video.length s.links[p].counters.videoFlush else s.links[p].counters.videoFlush) ∧
  ((list.map Prod.fst).Nodup → ∀ x ∈ w.roles, ∀ r, s.record? x.1 p = some r → r.role = .pending →
    t.record? x.1 p = some { r with role := x.2, card := r.card || x.2.shown }) ∧
  ((s.inService p && s.linkUp p) = true →
    ((t.berth p).hold ≠ (s.berth p).hold → (t.berth p).reported = some (t.screenLevel p)) ∧
    ((t.berth p).reported ≠ (s.berth p).reported → (t.berth p).reported = some (t.screenLevel p) ∧
      (s.links[p].control.length ≤ 12 → (t.links[p]).holds (.screenLevel (t.screenLevel p)))))

/-- What a request that dismisses the announcement in service leaves beside the passenger fields (R4, R10, R18, R23, R123): its
record DISMISSED with the card cleared, the voice free and serving its pending list, one ANSWER, the counter of requests, the
level reported; no other port and no other block. -/
def dismissed (s t : State) (p : Port) (id : AnnId) (k : RequestKind) (b : Berth) : Prop :=
  (∀ r, s.record? id p = some r → r.role = .inService → t.record? id p = some { r with role := .fixed .dismissed, card := false }) ∧
  servesOn s t p b (s.berthVoice p).pending ∧ (t.berth p).reported = some (t.screenLevel p) ∧
  t.berths.requests = bump s.berths.requests ∧ t.berths.refusals = s.berths.refusals ∧
  (s.links[p].control.length ≤ 12 → (t.links[p]).holds (.answer k .accepted)) ∧
  (∀ q, q ≠ p → t.berth q = s.berth q ∧ t.links[q] = s.links[q] ∧ t.berthVoice q = s.berthVoice q) ∧
  t = { s with berths := t.berths, links := t.links, voice := t.voice }

/-- The channels in use that send (R76). -/
def State.sendingChannels (s : State) : List Chan := allChans.filter fun c => s.inUse c && (s.chan c).carried

/-- The trim at the end of a level window of a peak: one step down above 26,000, one up between 1,000 and 13,000, clamped to
the channel's bounds (R84). -/
def movedTrim (cfg : ChannelConfig) (trim : Int) (peak : Nat) : Int :=
  max cfg.trimMin (min cfg.trimMax (trim + if 26000 < peak then -1 else if 1000 < peak ∧ peak < 13000 then 1 else 0))

/-- The PROGRAM_AUDIO packet of a channel whose filling buffer is complete: its program, its trim after a level window that has
counted its 1,000 blocks, its sequence and the block (R69, R84). -/
def State.feedPacket (s : State) (c : Chan) : Option Body :=
  match (s.chan c).filling, (s.chan c).window with
  | .complete l, some w => some (.programAudio (s.chanProgram c)
      (if w.count < 1000 then (s.chan c).trim else movedTrim s.image.channels[c] (s.chan c).trim w.peak) (s.chan c).audioSeq l)
  | .complete l, none => some (.programAudio (s.chanProgram c) (s.chan c).trim (s.chan c).audioSeq l)
  | _, _ => none

/-- A packet of one of the three kinds laid out in chapter 12, every field in its range (R197, R198). -/
def encodable (p : Packet) : Bool :=
  decide (1 ≤ p.source ∧ p.source ≤ 30) && bodyOk p.body &&
    match p.body with
    | .programAudio program _ _ _ => decide (program ≤ 255)
    | .announce d _ => decide (d.caption ≤ 255)
    | .ack id _ items => decide (id.origin ≤ 255) && items.all fun i => decide (i.berth ≤ 255)
    | _ => false

end Sys2Proof.Machine
end

