-- ==== Sys2Proof/WellFormed.lean ====
section
/-! DEFINITION. Which commands are well formed: each operand within the field that the spec gives it. The machine gives a
meaning to the others too; a well-formed command is one that the hardware can be given. -/

namespace Sys2Proof

/-- A number that fits a byte. -/
def fitsByte (n : Nat) : Bool := decide (n ≤ 255)

/-- A station number, 1..30 (chapter 12). -/
def isStation (n : Nat) : Bool := decide (1 ≤ n ∧ n ≤ 30)

/-- A program number, 1..63 (R42). -/
def isProgram (n : Nat) : Bool := decide (1 ≤ n ∧ n ≤ 63)

/-- The 48 samples of one block (chapter 12). -/
def isBlock {α : Type} (l : List α) : Bool := decide (l.length = 48)

/-- A trim in a PROGRAM_AUDIO packet, −12..+12 (R198). -/
def isTrim (t : Int) : Bool := decide (-12 ≤ t ∧ t ≤ 12)

/-- An announcement id: origin 1..30 (R197). -/
def isAnnId (id : AnnId) : Bool := isStation id.origin

/-- A descriptor with every field in the range of R197. -/
def isDescriptor (d : Descriptor) : Bool :=
  isAnnId d.id && decide (1 ≤ d.first ∧ d.first ≤ d.last ∧ d.last ≤ 240) && decide (d.stop ≤ 99) && decide (d.language ≤ 3) &&
    fitsByte d.caption

/-- An ACK's items: at most 12, each of a berth 1..240 (R197). -/
def isItems (l : List AckItem) : Bool :=
  decide (l.length ≤ 12) && l.all fun i => decide (1 ≤ i.berth ∧ i.berth ≤ 240)

/-- An ACK's counts: 0..12 each (R197). -/
def isTotals (t : Totals) : Bool :=
  decide (t.audio ≤ 12 ∧ t.caption ≤ 12 ∧ t.declined ≤ 12 ∧ t.cut ≤ 12 ∧ t.dismissed ≤ 12 ∧ t.missed ≤ 12)

/-- The fields of a PRESENCE record fit their bytes (R173). -/
def isPresence (r : Presence) : Bool := fitsByte r.first && fitsByte r.last && fitsByte r.berthsUp

/-- A command is well formed. -/
def Instr.wellFormed (i : Instr) : Bool :=
  match i with
  | .powerOn _ => true
  | .resetNLow => true
  | .resetNHigh _ => true
  | .configurationLoadEnd image => decide (image.length = 658)
  | .loadTimeout => true
  | .listeningEnd => true
  | .softRestart => true
  | .restartPendingTimeout => true
  | .serviceStatus source target => isStation source && fitsByte target
  | .serviceCounters source target => isStation source && fitsByte target
  | .clearCounters source target => isStation source && fitsByte target
  | .restart source target => isStation source && fitsByte target
  | .oneShot source target program => isStation source && fitsByte target && fitsByte program
  | .berthReset source target port => isStation source && fitsByte target && fitsByte port
  | .serviceRequestUnknown source target code => isStation source && fitsByte target && fitsByte code
  | .serviceReplyReceived source => isStation source
  | .trunkPacketDiscarded _ => true
  | .programAudio source program trim _ frames => isStation source && fitsByte program && isTrim trim && isBlock frames
  | .programVideo source program _ payload => isStation source && fitsByte program && decide (1 ≤ payload.length ∧ payload.length ≤ 1400)
  | .carry source entries => isStation source && decide (entries.length ≤ 8) && entries.all fun e => fitsByte e.program
  | .want source programs => isStation source && decide (programs.length ≤ 12) && programs.all fitsByte
  | .announceLeadIn source d => isStation source && isDescriptor d
  | .announceHold source d => isStation source && isDescriptor d
  | .announceSpeech source d _ samples => isStation source && isDescriptor d && isBlock samples
  | .announceEnd source d _ => isStation source && isDescriptor d
  | .ack source id counts items => isStation source && isAnnId id && isTotals counts && isItems items
  | .phase source _ ph setter => isStation source && fitsByte ph && fitsByte setter
  | .presence source r => isStation source && isPresence r
  | .carrierDefer duration => decide (0 < duration)
  | .attemptStart => true
  | .collision => true
  | .packetSent => true
  | .stale => true
  | .backedOffEnd => true
  | .presencePeriod => true
  | .peerExpiry station => isStation station
  | .catalogueExpiry program => isProgram program
  | .wantPeriod => true
  | .starvedTimeout program => isProgram program
  | .blockEvent => true
  | .feedEvent => true
  | .levelWindowEnd _ => true
  | .audioDelivery channel _ _ _ => fitsByte channel
  | .videoDelivery channel _ => fitsByte channel
  | .demandExpiry _ station => isStation station
  | .lingerEnd _ => true
  | .shadowEnd _ => true
  | .carryPeriod => true
  | .entryLost id => isAnnId id
  | .pendingWaitLimit _ id => isAnnId id
  | .select _ program => fitsByte program
  | .volume _ level => fitsByte level
  | .mute _ _ => true
  | .language _ value => fitsByte value
  | .stop _ value _ => fitsByte value
  | .dnd _ _ => true
  | .screen _ _ => true
  | .brightness _ level => fitsByte level
  | .skip _ => true
  | .inactivityExpiry _ => true
  | .status _ _ _ => true
  | .goodCountTimeout _ => true
  | .statusWatchExpiry _ => true
  | .request _ frame => decide (frame.length = 6)
  | .holdFrame _ => true
  | .resume _ => true
  | .captionAck _ caption _ => fitsByte caption
  | .seatFrameError _ _ => true
  | .linkFault _ => true
  | .holdOffEnd _ => true
  | .captionAckTimeout _ => true
  | .linkFrameSent _ => true
  | .beginAnn cls first last st lang caption =>
    fitsByte cls && fitsByte first && fitsByte last && fitsByte st && fitsByte lang && fitsByte caption
  | .panelAudio samples => isBlock samples
  | .panelEnd => true
  | .abort => true
  | .setPhase ph => fitsByte ph
  | .panelFrameError => true
  | .leadInEvent => true
  | .leadInComplete => true
  | .holdTimer => true
  | .panelLost => true
  | .windowEnd => true
  | .phasePeriod => true

end Sys2Proof
end

