-- ==== Sys2Proof/Certificates/Slice0/Obligations.lean ====
section
/-! DEFINITION. The statements for the provers. -/

open Sys2Proof Sys2Proof.Machine

/-! ## The machine as a whole -/

/-- The timers of the node that are armed, each with the moment at which it runs out and the command it raises. -/
def armedTimers (s : State) : Prop :=
  let armed (t0 : Time) (i : Instr) : Prop := (t0, i) ∈ s.timers
  (∀ t0, s.startup.loadSince = some t0 → armed (t0 + ms 50) .loadTimeout) ∧
  (∀ t0, s.startup.state = .listening → s.startup.listenEnd = some t0 → armed t0 .listeningEnd) ∧
  (∀ t0, s.startup.restart = some t0 → armed t0 .restartPendingTimeout) ∧
  (∀ t0, s.mixer.nextBlock = some t0 → armed t0 .blockEvent) ∧ (∀ t0, s.carry.nextFeed = some t0 → armed t0 .feedEvent) ∧
  (∀ t0, s.running = true → (s.phase.phaseDue = some t0 → armed t0 .phasePeriod) ∧
    (s.trunk.presenceDue = some t0 → armed t0 .presencePeriod) ∧ (s.taps.wantDue = some t0 → armed t0 .wantPeriod) ∧
    (s.carry.carryDue = some t0 → armed t0 .carryPeriod)) ∧
  (∀ c w, s.trunk.current = some c → c.stage = .waiting w →
    (c.tx.cls ≠ .b ∨ 0 < c.attempts ∨ max s.now (s.trunk.idleFrom + w) ≤ c.tx.handed + ms 2) →
    armed (s.trunk.idleFrom + w) .attemptStart) ∧
  (∀ x r, s.trunk.current = none → s.trunk.queueB = x :: r → armed (x.handed + ms 2) .stale) ∧
  (∀ t0, s.trunk.mode = .backedOff t0 → armed t0 .backedOffEnd) ∧
  (∀ q ∈ s.trunk.peers, armed (q.heard + ms 3000) (.peerExpiry q.station)) ∧
  (∀ e ∈ s.taps.catalogue, armed (e.listed + ms 1000) (.catalogueExpiry e.program)) ∧
  (∀ x ∈ s.taps.taps, x.state = .starved → armed (x.lastKept + ms 300) (.starvedTimeout x.program)) ∧
  (∀ c : Chan, (∀ d ∈ (s.chan c).demand, armed d.2 (.demandExpiry c d.1)) ∧
    (∀ t0, (s.chan c).state = .linger → (s.chan c).demand = [] → (s.chan c).lingerEnd = some t0 → armed t0 (.lingerEnd c)) ∧
    (∀ t0, (s.chan c).state = .shadowed → (s.chan c).shadowEnd = some t0 → armed t0 (.shadowEnd c)) ∧
    (∀ w, (s.chan c).window = some w → 1000 ≤ w.count → armed s.now (.levelWindowEnd c))) ∧
  (∀ e ∈ s.voice.table, armed (e.lastPacket + ms 300) (.entryLost e.desc.id)) ∧
  (s.orig.state = .leadIn → (s.orig.leadIns < 20 → armed (s.orig.accepted + ms (10 * s.orig.leadIns)) .leadInEvent) ∧
    (s.orig.desc.isSome = true → armed (s.orig.accepted + ms 200) .leadInComplete)) ∧
  (s.orig.state = .speech → armed (s.orig.lastAudio + ms 5000) .panelLost ∧
    (∀ t0, s.orig.nextHold = some t0 → t0 < s.orig.lastAudio + ms 5000 → armed t0 .holdTimer)) ∧
  (∀ a w, s.orig.state = .collecting → s.orig.ackTable = some a → a.windowEnd = some w → armed w .windowEnd) ∧
  (∀ p : Port,
    (∀ t0, s.inService p = true → (s.berth p).attention = .awake → (s.berth p).timer = .counting t0 →
      armed (t0 + sec 600) (.inactivityExpiry p)) ∧
    (∀ t0, s.links[p].state = .down → 0 < s.links[p].goodCount → s.links[p].lastGood = some t0 →
      armed (t0 + ms 100) (.goodCountTimeout p)) ∧
    (∀ t0, s.links[p].state = .up → (s.links[p].lastGood = some t0 → armed (t0 + ms 100) (.statusWatchExpiry p)) ∧
      (s.links[p].hold = some t0 → armed (t0 + ms 50) (.linkFault p))) ∧
    (∀ t0, s.links[p].holdOff = some t0 → armed t0 (.holdOffEnd p)) ∧
    (∀ o t0, s.links[p].outstanding = some o → o.sending = .sent t0 → armed (t0 + ms 200) (.captionAckTimeout p)) ∧
    (∀ x ∈ (s.berthVoice p).pending, armed (x.2 + ms 20000) (.pendingWaitLimit p x.1)))

/-- A step runs the command at the front of the queue on the state with the queue's rest. With no command waiting, time passes by
one unit of 40 ns while no timer has run out; otherwise the step raises one command, that of a timer that ran out first. The
timers that are armed are named with their deadlines. Model's choices: log 2 and 3. -/
def Obligations.StepRunsTheFrontCommand : Prop :=
  (∀ (s : State) (c : Instr) (r : List Instr), s.pending = c :: r → step s = exec c { s with pending := r }) ∧
  (∀ s : State, s.pending = [] →
    ((∀ x ∈ s.timers, s.now < x.1) → step s = .next { s with now := s.now + 1 }) ∧
    ((∃ x ∈ s.timers, x.1 ≤ s.now) → ∃ x ∈ s.timers, x.1 ≤ s.now ∧ (∀ y ∈ s.timers, x.1 ≤ y.1) ∧
      step s = .next { s with pending := [x.2], free := s.free + 1 })) ∧
  (∀ s : State, armedTimers s)

/-- No command stops the node, none touches the queue, and time never goes back. Model's choices: log 2, 29 and
31. -/
def Obligations.CommandsGoOnAndKeepTheQueue : Prop :=
  ∀ (i : Instr) (s : State), ∃ t, exec i s = .next t ∧ t.pending = s.pending ∧ s.now ≤ t.now

/-- The transmit queues keep their capacities of 8, 16 and 32 through every step. -/
def Obligations.TransmitQueuesStayBounded : Prop :=
  ∀ s t : State, s.trunk.bounded = true → step s = .next t → t.trunk.bounded = true

/-- Every link's queues keep their capacities through every step. -/
def Obligations.LinkQueuesStayBounded : Prop :=
  ∀ s t : State, s.linksBounded = true → step s = .next t → t.linksBounded = true

/-- Every berth record keeps the ranges of its fields, its inactivity timer and its reported level among them, through every
step. -/
def Obligations.BerthRecordsStayInRange : Prop :=
  ∀ s t : State, s.berthsInRange = true → step s = .next t → t.berthsInRange = true

/-- The announcement table, the closed-id list and the pending lists keep their capacities through every step. -/
def Obligations.VoiceListsStayBounded : Prop :=
  ∀ s t : State, s.voice.bounded = true → step s = .next t → t.voice.bounded = true

/-- The invariants hold at reset. Model's choice: log 1, for the values that reset has and the spec does not give. -/
def Obligations.ResetMeetsTheInvariants : Prop :=
  State.reset.trunk.bounded = true ∧ State.reset.linksBounded = true ∧ State.reset.berthsInRange = true ∧
    State.reset.voice.bounded = true ∧ State.reset.image.inRange = true ∧ State.reset.image.feedsApart = true

/-- The epoch of the phase state never goes back, but at a command that starts the node or ends its load. Model's choice:
log 1. -/
def Obligations.PhaseEpochNeverGoesBack : Prop :=
  ∀ (i : Instr) (s t : State), (∀ x, i ≠ .powerOn x) → i ≠ .resetNLow → (∀ x, i ≠ .resetNHigh x) →
    (∀ l, i ≠ .configurationLoadEnd l) → i ≠ .loadTimeout →
    exec i s = .next t → s.phase.own.epoch.toNat ≤ t.phase.own.epoch.toNat

/-! ## Start-up and service (chapter 10) -/

/-- POWER_ON puts the node at the entry to LOADING and, while RESET_N is high, reads the straps and begins the load, a strap
fault asserting FAULT at once. RESET_N driven low does the same without reading anything, and the node stays at that
entry: however long the pin is low, time since start and every inactivity timer stand at 0. RESET_N returning high reads
the straps and begins the load, and the times count from then. The image stands until the load ends. Model's choices: log
1, 25 and 26. -/
def Obligations.StartsReachLoading : Prop :=
  (∀ (straps : BitVec 5) (s : State), s.startup.resetN = true →
    let bad : Bool := decide (straps.toNat = 0 ∨ straps.toNat = 31)
    let station : Nat := if bad then 0 else straps.toNat
    ∃ t, exec (.powerOn straps) s = .next t ∧
      t = { State.atPowerOn s.now s.free s.pending true s.image with
            startup := { Startup.initial s.now true s.image with straps := straps, station := station, strapFault := bad,
                                                                 loadSince := some s.now },
            trunk := { Trunk.initial s.now 0 with seed := station } } ∧
      t.faultAsserted = bad ∧ t.secondsSinceStart = 0) ∧
  (∀ (straps : BitVec 5) (s : State) (n : Time), 1 ≤ straps.toNat → straps.toNat ≤ 30 →
    ∃ t, exec .resetNLow s = .next t ∧ t.loading = true ∧ t.startup.resetN = false ∧ t.startup.loadSince = none ∧
      t.faultAsserted = false ∧ t.mixer.nextBlock = none ∧ t.carry.nextFeed = none ∧ t.image = s.image ∧
      (∀ p : Port, t.links[p] = Link.initial ∧ t.berth p = Berth.initial (.held 0)) ∧
      t.everyCounter.all (fun c => c == 0) = true ∧ t.now = s.now ∧
      exec (.powerOn straps) t = .next t ∧
      let u : State := { t with now := n }
      u.secondsSinceStart = 0 ∧ (∀ p : Port, (u.berth p).timer.value n = 0) ∧
      exec (.resetNHigh straps) u = .next { State.atPowerOn n s.free s.pending true s.image with
        startup := { Startup.initial n true s.image with straps := straps, station := straps.toNat, loadSince := some n },
        trunk := { Trunk.initial n 0 with seed := straps.toNat } })

/-- What the end of a load leaves, for an image and its flags. -/
def loadEnded (s t : State) (im : Image) (defaulted adjusted : Bool) : Prop :=
  t.startup.image = im ∧ t.startup.defaulted = defaulted ∧ t.startup.adjusted = adjusted ∧ t.startup.loadSince = none ∧
  t.startup.station = s.startup.station ∧
  (s.startup.strapFault = false → t.startup.state = .listening ∧ t.startup.listenEnd = some (t.now + ms 1000) ∧
    t.phase.own = { epoch := 0, phase := im.startPhase, setter := s.startup.station }) ∧
  (s.startup.strapFault = true → t.startup.state = .strapFault ∧ t.startup.listenEnd = none ∧
    t.phase.own = { epoch := 0, phase := im.startPhase, setter := 31 } ∧ t.faultAsserted = true) ∧
  (∀ c : Chan, (t.chan c).state = (if im.channels[c].program = 0 then .unused else .idle)) ∧
  t.mixer.nextBlock.isSome = true ∧ t.carry.nextFeed.isSome = true ∧
  t = { s with now := t.now, startup := t.startup, phase := { s.phase with own := t.phase.own }, carry := t.carry, mixer := t.mixer }

/-- An image read within 50 ms is taken when its checksum is good, and every field defaults when it is bad. A load that has run
for 50 ms ends with every field at its default, and CONFIG_DEFAULTED set. Model's choices: log 2, 7 and 27. -/
def Obligations.LoadEndsByImageOrTimeout : Prop :=
  (∀ (s : State) (bytes : List Byte) (t0 : Time), s.startup.loadSince = some t0 → s.now ≤ t0 + ms 50 → bytes.length = 658 →
    ∃ t, exec (.configurationLoadEnd bytes) s = .next t ∧ t.now = s.now ∧
      (checksumGood bytes = true → loadEnded s t (loadGoodImage bytes).1 false (loadGoodImage bytes).2) ∧
      (checksumGood bytes = false → loadEnded s t defaultImage true false)) ∧
  (∀ (s : State) (t0 : Time), s.startup.loadSince = some t0 →
    ∃ t, exec .loadTimeout s = .next t ∧ t.now = max s.now (t0 + ms 50) ∧ loadEnded s t defaultImage true false ∧
      t.faultAsserted = true ∧ t.image.berthCount = 12 ∧ t.image.panel = false ∧ (∀ c : Chan, t.inUse c = false))

/-- Whatever bytes are loaded, the fields are in range, the bounds of a channel in use are consistent, and no two channels
feed one program. -/
def Obligations.LoadedFieldsAreInRange : Prop :=
  ∀ bytes : List Byte,
    (loadGoodImage bytes).1.inRange = true ∧
    (∀ c : Chan, let x := (loadGoodImage bytes).1.channels[c]
      x.program ≤ 63 ∧ (x.program ≠ 0 → -12 ≤ x.trimMin ∧ x.trimMin ≤ x.initialTrim ∧ x.initialTrim ≤ x.trimMax ∧ x.trimMax ≤ 12)) ∧
    (∀ c d : Chan, c ≠ d → (loadGoodImage bytes).1.channels[c].program = (loadGoodImage bytes).1.channels[d].program →
      (loadGoodImage bytes).1.channels[c].program = 0) ∧
    (∀ p : Phase, let x := (loadGoodImage bytes).1.profiles[p]
      x.floor ≤ 40 ∧ x.depth ≤ 60 ∧ 1 ≤ x.ramp ∧ x.ramp ≤ 8 ∧ x.dimBank ≤ 3)

/-- At the end of LISTENING the node is RUNNING: the tapped programs are those its berths select, in program order; a WANT of them when there are
any, a CARRY record when a channel is listed, a PHASE and a PRESENCE record are handed over, in any order, and the period of
each record sent starts. Model's choices: log 2 and 3. -/
def Obligations.ListeningEndEntersRunning : Prop :=
  ∀ (s : State) (t0 : Time), s.startup.state = .listening → s.startup.listenEnd = some t0 →
    ∃ t, exec .listeningEnd s = .next t ∧ t.now = max s.now t0 ∧ t.startup = { s.startup with state := .running, listenEnd := none } ∧
      t.phase = { s.phase with phaseDue := some (t.now + ms 5000) } ∧ t.trunk.presenceDue = some (t.now + ms 1000) ∧
      (∀ q, (t.tap? q).isSome = true ↔ ((s.tap? q).isSome = true ∨ (q ≠ 0 ∧ s.isSelected q = true))) ∧
      (s.taps.taps.Pairwise (fun x y => x.program < y.program) → t.taps.taps.Pairwise fun x y => x.program < y.program) ∧
      t.taps.wantDue = (if t.taps.taps = [] then s.taps.wantDue else some (t.now + ms 100)) ∧
      t.carry.carryDue = (if t.carryList = [] then s.carry.carryDue else some (t.now + ms 250)) ∧
      (s.trunk.queueA.length < 8 → s.trunk.queueC.length + 3 ≤ 32 →
        let records : List Body :=
          (if t.taps.taps = [] then [] else [.want (t.taps.taps.map Tap.program)]) ++
          (if t.carryList = [] then [] else [.carry t.carryList]) ++
          [.phase s.phase.own.epoch s.phase.own.phase.val s.phase.own.setter, .presence t.presenceRecord]
        t.trunk.held.Perm (s.trunk.held ++ records.map (handedBy s t))) ∧
      t.berths = s.berths ∧ t.links = s.links ∧ t.voice = s.voice ∧ t.orig = s.orig ∧ t.mixer = s.mixer ∧
      t.carry.channels = s.carry.channels

/-- What a soft restart leaves: what the reset tables keep is kept, the rest is as at a start. -/
def softRestarted (s t : State) : Prop :=
  t.startup = { s.startup with state := .listening, listenEnd := some (t.now + ms 1000), restart := none, startedAt := t.now } ∧
  t.secondsSinceStart = 0 ∧ t.phase.own = s.phase.own ∧ t.phase.phaseDue = none ∧
  (∀ p : Port, t.berth p = { s.berth p with headset := false, hold := false, reported := none }) ∧
  (∀ p : Port, t.mixer.berths[p] = { duck := 0, chimeId := none, chimePos := 0 }) ∧
  (∀ p : Port, t.links[p].state = .down ∧ t.links[p].goodCount = 0 ∧ t.links[p].lastGood = none ∧ t.links[p].hold = none ∧
    t.links[p].holdOff = none ∧ t.links[p].faults = [] ∧ t.links[p].locking = false ∧ t.links[p].upSince = none ∧
    t.links[p].control = [] ∧ t.links[p].audio = none ∧ t.links[p].video = [] ∧ t.links[p].waiting = [] ∧
    t.links[p].outstanding = none ∧ t.links[p].resets = [] ∧ t.links[p].sending = s.links[p].sending) ∧
  t.everyCounter.all (fun c => c == 0) = true ∧
  t.trunk.queueA = [] ∧ t.trunk.queueB = [] ∧ t.trunk.queueC = [] ∧ t.trunk.peers = [] ∧ t.trunk.mode = .enabled ∧
  t.trunk.failures = 0 ∧ t.trunk.presenceDue = none ∧
  (s.trunk.current = none → t.trunk.current = none) ∧
  (∀ c w, s.trunk.current = some c → c.stage = .waiting w → t.trunk.current = none) ∧
  (∀ c since, s.trunk.current = some c → c.stage = .sending since → t.trunk.current = some { c with leaving := true }) ∧
  t.taps.taps = [] ∧ t.taps.catalogue = [] ∧ t.taps.wantDue = none ∧ t.carry.carryDue = none ∧
  t.voice.table = [] ∧ t.voice.closed = [] ∧
  (∀ p : Port, t.currentId p = none ∧ (t.berthVoice p).pending = []) ∧
  t.orig.state = .idle ∧ t.orig.sequence = 0 ∧ t.orig.ackTable = none ∧ t.orig.desc = none ∧
  (∀ c : Chan, t.chan c = Channel.initial s.image.channels[c]) ∧
  t.mixer.nextBlock = s.mixer.nextBlock ∧ t.carry.nextFeed = s.carry.nextFeed

/-- A pending restart takes the node to LISTENING: what the reset tables keep is kept, and the rest is as at a start; a packet in
the middle of an attempt and a seat frame in progress go on to their end, and a waiting UNIT_RESET is dropped. Without a
pending restart both commands change nothing. Model's choices: log 2, 8, 17, 22 and 49. -/
def Obligations.SoftRestartKeepsAndClears : Prop :=
  ∀ (s : State) (t0 : Time),
    (s.startup.restart = some t0 →
      (∃ t, exec .softRestart s = .next t ∧ t.now = s.now ∧ softRestarted s t) ∧
      (∃ t, exec .restartPendingTimeout s = .next t ∧ t.now = max s.now t0 ∧ softRestarted s t)) ∧
    (s.startup.restart = none → exec .softRestart s = .next s ∧ exec .restartPendingTimeout s = .next s)

/-- The STATUS report of a node, part by part in the order of R193: an item for each channel in use, for each tap in program
order, for each in-service port, for each entry of the announcement table, and for each peer in station order. The ack table is
carried whole, its window end among the fields. -/
def reportsStatus (s : State) (r : StatusReport) : Prop :=
  r.state = s.startup.state ∧ r.station = s.startup.station ∧
  (s.startup.resetN = true → r.seconds = min 4294967295 ((s.now - s.startup.startedAt) / sec 1)) ∧
  r.defaulted = s.startup.defaulted ∧ r.adjusted = s.startup.adjusted ∧ r.panel = s.image.panel ∧
  (r.feeds = true ↔ ∃ c : Chan, s.image.channels[c].program ≠ 0) ∧ (r.backedOff = true ↔ s.trunk.mode ≠ .enabled) ∧
  r.restartPending = s.startup.restart.isSome ∧ r.phase = s.phase.own ∧
  r.channels = ((List.finRange 8).filter fun c => s.image.channels[c].program != 0).map (fun c =>
    { program := s.image.channels[c].program, state := (s.chan c).state, trim := (s.chan c).trim, mode := (s.chan c).mode,
      demand := (s.chan c).demand.length }) ∧
  r.taps = s.taps.taps.map (fun x =>
    { program := x.program, source := x.source, state := x.state, fill := x.queue.length,
      status := (s.catEntry? x.program).map CatEntry.status }) ∧
  r.berths = ((List.finRange 12).filter fun p => decide (p.val + 1 ≤ s.image.berthCount)).map (fun p =>
    { berth := s.image.berthBase + p.val + 1, link := s.links[p].state, attention := (s.berth p).attention,
      screen := (s.berth p).screen, program := (s.berth p).program,
      voice := (match (s.berthVoice p).serving with
        | .idle => .idle
        | .chime _ => .chime
        | .speaking _ => .speaking),
      current := (s.currentId p).bind fun id => (s.classOfId id).map fun k => (id, k),
      pending := (s.berthVoice p).pending.map Prod.fst }) ∧
  r.announcements = s.voice.table.map (fun e => (e.desc.id, e.state)) ∧ r.outcome = s.orig.ackTable ∧
  r.peers = s.trunk.peers.map (fun q =>
    { station := q.station, age := (s.now - q.heard) / ms 1, range := q.range, berthsUp := q.berthsUp, epoch := q.epoch,
      feeds := q.feeds, panel := q.panel })

/-- The COUNTERS report of a node, in the order of R194: the 32 node counters, 0 for an Originator whose panel is disabled; the
link-up time and the ten counters of each of the twelve ports, the counters 0 for a port out of service. -/
def reportsCounters (s : State) (r : CounterReport) : Prop :=
  let panel (c : Counter) : Counter := if s.image.panel then c else 0
  (s.startup.resetN = true → r.seconds = min 4294967295 ((s.now - s.startup.startedAt) / sec 1)) ∧
  r.node = [s.berths.requests, s.berths.refusals, s.mixer.clip,
    s.taps.late, s.taps.duplicate, s.taps.resync, s.taps.slip, s.taps.gap, s.taps.starve, s.taps.foreign,
    s.carry.underrun, s.carry.feedError, panel s.orig.discard, panel s.orig.error,
    s.voice.late, s.voice.overflow, s.voice.lost, s.voice.eviction, s.voice.nodeFull, s.phase.adoption, s.phase.phaseError,
    s.trunk.dropA, s.trunk.dropB, s.trunk.refusalC, s.trunk.stale, s.trunk.collision, s.trunk.failure, s.trunk.backOff,
    s.trunk.crcError, s.trunk.headerError, s.trunk.stationClash, s.trunk.peerExpiry] ∧
  r.upTimes.length = 12 ∧ r.links.length = 12 ∧
  ∀ p : Port,
    r.upTimes[p.val]? = some (match s.links[p].upSince with
      | none => 0
      | some t0 => min 65535 ((s.now - t0) / sec 1)) ∧
    r.links[p.val]? = some (if p.val + 1 ≤ s.image.berthCount then
      let c := s.links[p].counters
      [c.receiveError, c.linkLoss, c.fault, c.videoDrop, c.videoFlush, c.captionDrop, c.captionTimeout, c.strayAck,
       c.controlOverflow, c.audioOverrun]
      else List.replicate 10 0)

/-- STATUS, COUNTERS and a request of unknown kind for the own station are answered in RUNNING, with the report of the node as
it stands once the peer list has the request: the parts of R193, and the counters in the order of R194. They change nothing but
the trunk. A request for another station, or taken outside RUNNING, has no effect but on the peer list. Model's choice: log 44,
for the window end in the ack table. -/
def Obligations.ServiceReportsAndIgnoredRequests : Prop :=
  (∀ (s : State) (source code : Nat), s.takesFrom source = true → s.running = true →
    (∃ t r, exec (.serviceStatus source s.startup.station) s = .next t ∧ t = { s with trunk := t.trunk } ∧
      queuedC s t (.serviceReply .status .accepted (.status r)) ∧ reportsStatus (s.heard source) r ∧ r.state = .running) ∧
    (∃ t r, exec (.serviceCounters source s.startup.station) s = .next t ∧ t = { s with trunk := t.trunk } ∧
      queuedC s t (.serviceReply .counters .accepted (.counters r)) ∧ reportsCounters (s.heard source) r) ∧
    (∃ t, exec (.serviceRequestUnknown source s.startup.station code) s = .next t ∧ t = { s with trunk := t.trunk } ∧
      queuedC s t (.serviceReply (.other code) .unknown .none))) ∧
  (∀ (i : Instr) (s : State) (source target argument : Nat) (k : ServiceKind),
    serviceRequest i = some (source, target, k, argument) → s.takesFrom source = true →
    (target ≠ s.startup.station ∨ s.running = false) → exec i s = .next (s.heard source))

/-- CLEAR_COUNTERS sets every counter of every block and port to 0 in one event; time since start and the link-up times
stand, and so does all else but the trunk; the reply is handed over after the clear, so its refusal is counted in the fresh
counter; and a counted event taken after the clear counts from 0 to 1. -/
def Obligations.ClearCountersClearsEveryCounter : Prop :=
  ∀ (s : State) (source : Nat), s.takesFrom source = true → s.running = true →
    ∃ t, exec (.clearCounters source s.startup.station) s = .next t ∧
      (s.trunk.queueC.length < 32 → t.everyCounter.all (fun c => c == 0) = true) ∧
      queuedC { s with trunk := { s.trunk with refusalC := 0 } } t (.serviceReply .clearCounters .accepted .none) ∧
      t.trunk.peers = (s.heard source).trunk.peers ∧
      t = { s with
            berths := { s.berths with requests := 0, refusals := 0 }, mixer := { s.mixer with clip := 0 },
            taps := { s.taps with late := 0, duplicate := 0, resync := 0, slip := 0, gap := 0, starve := 0, foreign := 0 },
            carry := { s.carry with underrun := 0, feedError := 0 }, orig := { s.orig with discard := 0, error := 0 },
            voice := { s.voice with late := 0, overflow := 0, lost := 0, eviction := 0, nodeFull := 0 },
            phase := { s.phase with adoption := 0, phaseError := 0 }, trunk := t.trunk, links := t.links } ∧
      (32 ≤ s.trunk.queueC.length → t.trunk.refusalC = 1 ∧
        ({ t with trunk := { t.trunk with refusalC := 0 } }).everyCounter.all (fun c => c == 0) = true) ∧
      t.secondsSinceStart = s.secondsSinceStart ∧ (∀ p : Port, t.links[p] = { s.links[p] with counters := .zero }) ∧
      (∀ p : Port, t.links[p].upSeconds t.now = s.links[p].upSeconds s.now) ∧
      (∀ b : Body, bodyOk b = true → 1 ≤ s.startup.station → s.startup.station ≤ 30 →
        (t.receive { source := s.startup.station, body := b }).trunk.stationClash = 1) ∧
      bump 0 = 1

/-- RESTART is pending for 2,000 ms at most while the node stays RUNNING, its reply, marked, handed to class C; a second RESTART
is answered too and does not move it; a reply refused by a full class C queue lets it begin at once. Model's choice: log
17. -/
def Obligations.RestartWaitsForItsReply : Prop :=
  ∀ (s : State) (source : Nat), s.takesFrom source = true → s.running = true →
    ∃ t, exec (.restart source s.startup.station) s = .next t ∧
      (s.startup.restart = none → s.trunk.queueC.length < 32 →
        t = { s with trunk := t.trunk, startup := { s.startup with restart := some (s.now + ms 2000) } } ∧
        t.trunk.held.Perm (s.trunk.held ++ [{ handedBy s t (.serviceReply .restart .accepted .none) with restartReply := true }])) ∧
      (s.startup.restart.isSome = true → t = { s with trunk := t.trunk } ∧
        queuedC s t (.serviceReply .restart .accepted .none)) ∧
      (s.startup.restart = none → 32 ≤ s.trunk.queueC.length → t.startup.state = .listening ∧ t.startup.restart = none)

/-- ONE_SHOT for a program that a channel feeds puts that channel in ONE_SHOT, abandons a level window that runs and ends one
that has counted its 1,000 blocks, and answers STARTED or HELD; for any other program it is answered NOT_FED and changes
nothing but the trunk. Model's choice: log 16. -/
def Obligations.OneShotRequest : Prop :=
  ∀ (s : State) (source program : Nat), s.takesFrom source = true → s.running = true →
    ∃ t, exec (.oneShot source s.startup.station program) s = .next t ∧
      (s.image.feeder program = none → t = { s with trunk := t.trunk } ∧ queuedC s t (.serviceReply .oneShot .notFed .none)) ∧
      (∀ c, s.image.feeder program = some c →
        ((∀ w, (s.chan c).carried = true → (s.chan c).window = some w → w.count < 1000) →
          t.chan c = { s.chan c with mode := .oneShot, window := if (s.chan c).carried then none else (s.chan c).window }) ∧
        (∀ w, (s.chan c).carried = true → (s.chan c).window = some w → 1000 ≤ w.count →
          t.chan c = { s.chan c with mode := .oneShot, window := none,
                                     trim := movedTrim s.image.channels[c] (s.chan c).trim w.peak }) ∧
        (∀ d, d ≠ c → t.chan d = s.chan d) ∧ t = { s with trunk := t.trunk, carry := { s.carry with channels := t.carry.channels } } ∧
        queuedC s t (.serviceReply .oneShot .accepted (if (s.chan c).carried then .started else .held)))

/-- A UNIT_RESET follows: with no frame or a VIDEO frame in progress the transmitter is free and begins the first UNIT_RESET
that waits at once, the VIDEO frame having been ended with CUT; any other frame in progress goes on before it (R153, R155). -/
def unitResetFollows (l l' : Link) : Prop :=
  let waiting := l.resets ++ [.unitReset]
  (l.sending = none → l'.sending = waiting.head? ∧ l'.resets = waiting.tail ∧ l'.cuts = l.cuts) ∧
  (∀ v, l.sending = some (.video v) → l'.sending = waiting.head? ∧ l'.resets = waiting.tail ∧ l'.cuts = l.cuts + 1) ∧
  (∀ f, l.sending = some f → (∀ v, f ≠ .video v) → l'.sending = some f ∧ l'.resets = waiting ∧ l'.cuts = l.cuts)

/-- What a link that leaves UP leaves (R151, R21, R124): its queues are discarded with the outstanding card, its hold is clear and its
link-up time 0; the berth has no headset, no hold and no reported level; its voice is IDLE and its pending list empty; its current
announcement is CUT LINK_LOST, its pending ones DECLINED UNREACHABLE, and its cards are forgotten. -/
def leftUp (s t : State) (p : Port) : Prop :=
  t.links[p].hold = none ∧ t.links[p].control = [] ∧ t.links[p].audio = none ∧ t.links[p].video = [] ∧
  t.links[p].waiting = [] ∧ t.links[p].outstanding = none ∧ t.links[p].upSince = none ∧
  t.berth p = { s.berth p with headset := false, hold := false, reported := none } ∧
  t.berthVoice p = { serving := .idle, pending := [] } ∧
  (∀ id r, s.currentId p = some id → s.record? id p = some r → r.role = .inService →
    t.record? id p = some { r with role := .fixed (.cut .linkLost), card := false }) ∧
  (∀ x r, x ∈ (s.berthVoice p).pending → s.currentId p ≠ some x.1 → s.record? x.1 p = some r → r.role = .pending →
    t.record? x.1 p = some { r with role := .fixed (.declined .unreachable), card := false }) ∧
  (∀ e ∈ t.voice.table, ∀ r ∈ e.recs, r.port = p → r.card = false)

/-- BERTH_RESET of an in-service port takes its link to DOWN with a hold-off of 500 ms, empties its fault history and sends
a UNIT_RESET, a VIDEO frame in progress being ended at once with CUT; a link that was UP is settled as at a link loss, its
announcements CUT LINK_LOST and DECLINED UNREACHABLE; any other port is answered BAD_PORT. Model's choice: log 8. -/
def Obligations.BerthResetRequest : Prop :=
  ∀ (s : State) (source port : Nat), s.takesFrom source = true → s.running = true →
    ∃ t, exec (.berthReset source s.startup.station port) s = .next t ∧
      ((port = 0 ∨ s.image.berthCount < port) → t = { s with trunk := t.trunk } ∧
        queuedC s t (.serviceReply .berthReset .badPort .none)) ∧
      (∀ p : Port, portNumber p = port → port ≤ s.image.berthCount →
        t.links[p].state = .down ∧ t.links[p].goodCount = 0 ∧ t.links[p].lastGood = none ∧
        t.links[p].holdOff = some (s.now + ms 500) ∧ t.links[p].faults = [] ∧ t.links[p].locking = false ∧
        unitResetFollows s.links[p] t.links[p] ∧
        (s.links[p].state = .up → leftUp s t p) ∧
        (∀ q, q ≠ p → t.links[q] = s.links[q] ∧ t.berth q = s.berth q ∧ t.berthVoice q = s.berthVoice q) ∧
        t = { s with trunk := t.trunk, berths := t.berths, voice := t.voice, links := t.links } ∧
        queuedC s t (.serviceReply .berthReset .accepted .none))

/-! ## The trunk (chapter 9) -/

/-- In LOADING no packet is taken; one with the own station number is a station clash; one whose source or fields are out of
range is a header error. Carrier shorter than a header with its CRC is uncounted; a CRC that does not match is a CRC error;
an unknown kind, a bad source or a length that does not match the bytes is a header error. Model's choices: log 11 and 21. -/
def Obligations.ReceiveSideChecks : Prop :=
  (∀ (i : Instr) (p : Packet) (s : State), receivedPacket i = some p →
    (s.loading = true → exec i s = .next s) ∧
    (s.listens = true → (p.source = 0 ∨ 30 < p.source ∨ bodyOk p.body = false) →
      exec i s = .next { s with trunk := { s.trunk with idleFrom := max s.trunk.idleFrom s.now, headerError := bump s.trunk.headerError } }) ∧
    (s.listens = true → 1 ≤ p.source → p.source ≤ 30 → bodyOk p.body = true → p.source = s.startup.station →
      exec i s = .next { s with trunk := { s.trunk with idleFrom := max s.trunk.idleFrom s.now, stationClash := bump s.trunk.stationClash } })) ∧
  (∀ (l : List Byte) (s : State), s.listens = true →
    let len := wordAt l 2
    (l.length < 8 → exec (.trunkPacketDiscarded l) s =
      .next { s with trunk := { s.trunk with idleFrom := max s.trunk.idleFrom s.now } }) ∧
    (8 ≤ l.length → 4 ≤ len → len ≤ l.length → crcBytes (crc32 (l.take (len - 4))) ≠ (l.drop (len - 4)).take 4 →
      exec (.trunkPacketDiscarded l) s =
        .next { s with trunk := { s.trunk with idleFrom := max s.trunk.idleFrom s.now, crcError := bump s.trunk.crcError } }) ∧
    (8 ≤ l.length → 4 ≤ len → len ≤ l.length → crcBytes (crc32 (l.take (len - 4))) = (l.drop (len - 4)).take 4 →
      (byteAt l 0 = 0 ∨ 10 < byteAt l 0 ∨ byteAt l 1 = 0 ∨ 30 < byteAt l 1 ∨ len < 8 ∨ 1411 < len ∨ l.length ≠ max len 36) →
      exec (.trunkPacketDiscarded l) s =
        .next { s with trunk := { s.trunk with idleFrom := max s.trunk.idleFrom s.now, headerError := bump s.trunk.headerError } }))

/-- A PRESENCE record and a SERVICE_REPLY of another station change nothing but the trunk's peer list, the end of the carrier
heard and, for a bad PRESENCE, the header error counter: the sender's entry has age 0, and a PRESENCE record sets its
fields, a bad one to absent, counted once. A list in station order stays so. Model's choice: log 21. -/
def Obligations.PeerListTakesRecords : Prop :=
  ∀ (s : State) (source : Nat) (r : Presence), s.takesFrom source = true →
    let inOrder (s t : State) : Prop := s.trunk.peers.Pairwise (fun x y => x.station < y.station) →
      t.trunk.peers.Pairwise fun x y => x.station < y.station
    (∃ t q, exec (.presence source r) s = .next t ∧
      t = { s with trunk := { s.trunk with peers := t.trunk.peers, idleFrom := max s.trunk.idleFrom s.now,
                                           headerError := t.trunk.headerError } } ∧ t.peer? source = some q ∧ q.heard = s.now ∧
      q.range = (if 1 ≤ r.first ∧ r.first ≤ r.last ∧ r.last ≤ 240 then some (r.first, r.last) else none) ∧
      q.berthsUp = (if r.berthsUp ≤ 12 then some r.berthsUp else none) ∧ q.epoch = some r.epoch ∧
      q.feeds = yesNoField r.feeds ∧ q.panel = yesNoField r.panel ∧
      (∀ st, st ≠ source → t.peer? st = s.peer? st) ∧ inOrder s t ∧
      t.trunk.headerError =
        (if (¬(1 ≤ r.first ∧ r.first ≤ r.last ∧ r.last ≤ 240) ∧ ¬(r.first = 0 ∧ r.last = 0)) ∨ 12 < r.berthsUp ∨
            r.feeds = .neither ∨ r.panel = .neither then bump s.trunk.headerError else s.trunk.headerError)) ∧
    (∃ t q, exec (.serviceReplyReceived source) s = .next t ∧
      t = { s with trunk := { s.trunk with peers := t.trunk.peers, idleFrom := max s.trunk.idleFrom s.now } } ∧ t.peer? source = some q ∧
      q.heard = s.now ∧ (∀ old, s.peer? source = some old → q = { old with heard := s.now }) ∧
      (s.peer? source = none → q = { station := source, heard := s.now, range := none, berthsUp := none, epoch := none,
                                     feeds := none, panel := none }) ∧
      (∀ st, st ≠ source → t.peer? st = s.peer? st) ∧ inOrder s t)

/-- A packet handed to a full queue of class A or B removes and counts the oldest; a full class C refuses and counts it;
the handing block is told of a refusal alone. A queue with room takes it at its tail. So it is while the transmitter holds a packet
and while it is BACKED_OFF and takes none (R165, R170). A free, ENABLED transmitter with empty queues takes the packet at once
(R167). -/
def Obligations.HandOverByClass : Prop :=
  ∀ (s : State) (b : Body), s.running = true →
    let x : TxPacket := { packet := { source := s.startup.station, body := b }, handed := s.now, restartReply := false }
    (s.trunk.takesNone →
      (accessClass b = .a → (s.handOverTold b).2 = true ∧
        (s.trunk.queueA.length < 8 → (s.handOverTold b).1 = { s with trunk := { s.trunk with queueA := s.trunk.queueA ++ [x] } }) ∧
        (s.trunk.queueA.length = 8 → (s.handOverTold b).1 =
          { s with trunk := { s.trunk with queueA := s.trunk.queueA.tail ++ [x], dropA := bump s.trunk.dropA } })) ∧
      (accessClass b = .b → (s.handOverTold b).2 = true ∧
        (s.trunk.queueB.length < 16 → (s.handOverTold b).1 = { s with trunk := { s.trunk with queueB := s.trunk.queueB ++ [x] } }) ∧
        (s.trunk.queueB.length = 16 → (s.handOverTold b).1 =
          { s with trunk := { s.trunk with queueB := s.trunk.queueB.tail ++ [x], dropB := bump s.trunk.dropB } })) ∧
      (accessClass b = .c →
        (s.trunk.queueC.length < 32 → (s.handOverTold b).2 = true ∧
          (s.handOverTold b).1 = { s with trunk := { s.trunk with queueC := s.trunk.queueC ++ [x] } }) ∧
        (s.trunk.queueC.length = 32 → (s.handOverTold b).2 = false ∧
          (s.handOverTold b).1 = { s with trunk := { s.trunk with refusalC := bump s.trunk.refusalC } }))) ∧
    (s.trunk.current = none → s.trunk.mode = .enabled → s.trunk.queueA = [] → s.trunk.queueB = [] → s.trunk.queueC = [] →
      (s.handOverTold b).1 = { s with trunk := { s.trunk with
        current := some { tx := x, attempts := 0, stage := .waiting (accessClass b).gap, leaving := false } } })

/-- Carrier of another station puts off the wait; once the carrier has been idle for its wait, the current packet begins an
attempt. A class B packet that reaches 2 ms before its first attempt is removed and counted, from the transmitter or, while
that is free or holds another packet, from the queue. At the end of BACKED_OFF the
transmitter is ENABLED and takes the head of class A, else of B, else of C. Model's choices: log 2 and 28. -/
def Obligations.TransmitterWaitsAndAges : Prop :=
  (∀ s : State,
    (∀ d, s.listens = true → exec (.carrierDefer d) s =
      .next { s with trunk := { s.trunk with idleFrom := max s.trunk.idleFrom (s.now + d) } }) ∧
    (∀ c w, s.trunk.current = some c → c.stage = .waiting w →
      (c.tx.cls ≠ .b ∨ 0 < c.attempts ∨ max s.now (s.trunk.idleFrom + w) ≤ c.tx.handed + ms 2) →
      let now' := max s.now (s.trunk.idleFrom + w)
      let c' : Current := { c with attempts := c.attempts + 1, stage := .sending now' }
      exec .attemptStart s = .next { s with now := now', trunk := { s.trunk with current := some c' } })) ∧
  (∀ s : State,
    (∀ x r, s.trunk.current = none → s.trunk.queueB = x :: r →
      exec .stale s = .next { s with now := max s.now (x.handed + ms 2),
                                     trunk := { s.trunk with queueB := r, stale := bump s.trunk.stale } }) ∧
    (∀ c w, s.trunk.current = some c → c.tx.cls = .b → c.attempts = 0 → c.stage = .waiting w →
      ∃ t, exec .stale s = .next t ∧ t = { s with now := max s.now (c.tx.handed + ms 2), trunk := t.trunk } ∧
        t.trunk = Trunk.take { s.trunk with stale := bump s.trunk.stale, current := none }) ∧
    (∀ c x r, s.trunk.current = some c → (c.tx.cls ≠ .b ∨ 0 < c.attempts ∨ ∃ t1, c.stage = .sending t1) →
      s.trunk.queueB = x :: r →
      exec .stale s = .next { s with now := max s.now (x.handed + ms 2),
                                     trunk := { s.trunk with queueB := r, stale := bump s.trunk.stale } }) ∧
    (∀ t0, s.trunk.mode = .backedOff t0 → s.trunk.current = none →
      ∃ t, exec .backedOffEnd s = .next t ∧ t = { s with now := max s.now t0, trunk := t.trunk } ∧ t.trunk.mode = .enabled ∧
        (∀ x r, s.trunk.queueA = x :: r → t.trunk.queueA = r ∧ ∃ c, t.trunk.current = some c ∧ c.tx = x ∧ c.attempts = 0) ∧
        (∀ x r, s.trunk.queueA = [] → s.trunk.queueB = x :: r →
          t.trunk.queueB = r ∧ ∃ c, t.trunk.current = some c ∧ c.tx = x ∧ c.attempts = 0) ∧
        (∀ x r, s.trunk.queueA = [] → s.trunk.queueB = [] → s.trunk.queueC = x :: r →
          t.trunk.queueC = r ∧ ∃ c, t.trunk.current = some c ∧ c.tx = x ∧ c.attempts = 0)))

/-- A collision below attempt 16 gives the packet a new wait of its class gap and 0 to 2^m − 1 slots; one at attempt 16
drops it, so that the transmitter is free and takes the next, and the 64th drop in a row leads to BACKED_OFF for 1,000 ms; a
dropped reply that a restart waits for lets the restart begin; a packet that a soft restart left is abandoned uncounted.
Model's choices: log 4, 14, 17 and 41. -/
def Obligations.CollisionBacksOff : Prop :=
  ∀ (s : State) (c : Current) (t0 : Time), s.trunk.current = some c → c.stage = .sending t0 →
    (c.leaving = false → c.attempts < 16 → ∃ k, k < 2 ^ min c.attempts 5 ∧
      exec .collision s = .next { s with trunk := { s.trunk with
        collision := bump s.trunk.collision, idleFrom := s.now + 4, draws := s.trunk.draws + 1,
        current := some { c with stage := .waiting (c.tx.cls.gap + us k) } } }) ∧
    (c.leaving = false → 16 ≤ c.attempts → (c.tx.restartReply = false ∨ s.startup.restart = none) →
      (s.trunk.failures + 1 < 64 → exec .collision s = .next { s with trunk := Trunk.take { s.trunk with
        collision := bump s.trunk.collision, idleFrom := s.now + 4, current := none, failure := bump s.trunk.failure,
        failures := s.trunk.failures + 1 } }) ∧
      (64 ≤ s.trunk.failures + 1 → exec .collision s = .next { s with trunk := { s.trunk with
        collision := bump s.trunk.collision, idleFrom := s.now + 4, current := none, failure := bump s.trunk.failure,
        failures := 0, mode := .backedOff (s.now + ms 1000), backOff := bump s.trunk.backOff } })) ∧
    (c.leaving = false → 16 ≤ c.attempts → c.tx.restartReply = true → s.startup.restart.isSome = true →
      ∃ t, exec .collision s = .next t ∧ t.startup.state = .listening ∧ t.startup.restart = none ∧ t.trunk.queueA = [] ∧
        t.trunk.queueB = [] ∧ t.trunk.queueC = [] ∧ t.trunk.current = none) ∧
    (c.leaving = true → exec .collision s = .next { s with trunk := Trunk.take { s.trunk with
      collision := bump s.trunk.collision, idleFrom := s.now + 4, current := none } })

/-- An attempt that reaches the end of its packet frees the transmitter, which takes the next packet, and delivers the
packet to the node's own blocks when it passes the body check, which every packet of the node does; the reply that a
restart waits for lets it begin. Model's choices: log 2, 12, 13 and 17. -/
def Obligations.PacketSentLoopsBack : Prop :=
  ∀ (s : State) (c : Current) (t0 : Time), s.trunk.current = some c → c.stage = .sending t0 →
    let now' := max s.now (t0 + occupancy c.tx.packet)
    let u : State := { s with now := now', trunk := Trunk.take { s.trunk with idleFrom := now', failures := 0, current := none } }
    ((c.tx.restartReply = false ∨ c.leaving = true) →
      (bodyOk c.tx.packet.body = true → exec .packetSent s = .next (u.deliver c.tx.packet)) ∧
      (bodyOk c.tx.packet.body = false → exec .packetSent s =
        .next { u with trunk := { u.trunk with headerError := bump u.trunk.headerError } })) ∧
    (c.tx.restartReply = true → c.leaving = false → s.startup.restart.isSome = true →
      (∃ k r pl, c.tx.packet.body = .serviceReply k r pl) →
      ∃ t, exec .packetSent s = .next t ∧ t.now = now' ∧ t.startup.state = .listening ∧ t.startup.restart = none)

/-- The periodic PRESENCE, WANT, CARRY and PHASE records: each is handed over when its period has passed, and the period
starts anew from it. Model's choice: log 2. -/
def Obligations.PeriodicRecords : Prop :=
  ∀ (s : State) (t0 : Time), s.running = true →
    (s.trunk.presenceDue = some t0 → ∃ t, exec .presencePeriod s = .next t ∧
      t = { s with now := max s.now t0, trunk := t.trunk } ∧ t.trunk.presenceDue = some (t.now + ms 1000) ∧
      queuedC s t (.presence s.presenceRecord)) ∧
    (s.taps.wantDue = some t0 → ∃ t, exec .wantPeriod s = .next t ∧
      t = { s with now := max s.now t0, trunk := t.trunk, taps := { s.taps with wantDue := t.taps.wantDue } } ∧
      t.taps.wantDue = (if s.taps.taps = [] then none else some (t.now + ms 100)) ∧
      queuedC s t (.want (s.taps.taps.map Tap.program))) ∧
    (s.carry.carryDue = some t0 → ∃ t, exec .carryPeriod s = .next t ∧
      t = { s with now := max s.now t0, trunk := t.trunk, carry := { s.carry with carryDue := t.carry.carryDue } } ∧
      t.carry.carryDue = (if s.carryList = [] then none else some (t.now + ms 250)) ∧
      queuedC s t (.carry s.carryList)) ∧
    (s.phase.phaseDue = some t0 → ∃ t, exec .phasePeriod s = .next t ∧
      t = { s with now := max s.now t0, trunk := t.trunk, phase := { s.phase with phaseDue := some (t.now + ms 5000) } } ∧
      queuedA s t (.phase s.phase.own.epoch s.phase.own.phase.val s.phase.own.setter))

/-- List entries age out: a peer after 3,000 ms, counted; a catalogue entry after 1,000 ms, its tap standing; a starved tap
goes to WAITING after 300 ms. Model's choice: log 2. -/
def Obligations.EntriesAgeOut : Prop :=
  ∀ (s : State),
    (∀ st q, s.peer? st = some q → ∃ t, exec (.peerExpiry st) s = .next t ∧
      t = { s with now := max s.now (q.heard + ms 3000),
                   trunk := { s.trunk with peers := t.trunk.peers, peerExpiry := bump s.trunk.peerExpiry } } ∧
      t.peer? st = none ∧ ∀ o, o ≠ st → t.peer? o = s.peer? o) ∧
    (∀ program e, s.catEntry? program = some e → ∃ t, exec (.catalogueExpiry program) s = .next t ∧
      t = { s with now := max s.now (e.listed + ms 1000), taps := { s.taps with catalogue := t.taps.catalogue } } ∧
      t.catEntry? program = none ∧ ∀ o, o ≠ program → t.catEntry? o = s.catEntry? o) ∧
    (∀ program x, s.tap? program = some x → x.state = .starved → ∃ t, exec (.starvedTimeout program) s = .next t ∧
      t = { s with now := max s.now (x.lastKept + ms 300), taps := { s.taps with taps := t.taps.taps } } ∧
      t.tap? program = some { x with state := .waiting, expected := none, queue := [] } ∧
      ∀ o, o ≠ program → t.tap? o = s.tap? o)

/-! ## Encodings (chapter 12) -/

/-- A packet of a kind that chapter 12 lays out, sent with its fill, is received as it was. What is sent of any packet is the start
pattern, the packet and zero fill up to 36 bytes: the packet opens with its kind code, source and length and closes with a
CRC that matches, and it occupies the trunk for 4 + max(length, 36) bytes, 11 + payload being the length of PROGRAM_VIDEO. A
packet received of a kind without a layout, header and CRC being good, passes the body check by its length alone: by the
fields of its kind, and for PROGRAM_VIDEO by a length of 12 to 1,411 with a payload of 11 bytes less. Model's choices: log 5
and 12. -/
def Obligations.PacketsSurviveTheTrunk : Prop :=
  (∀ p : Packet, encodable p = true → receiveBytes (filled (packetBytes p)) = .good p) ∧
  (∀ p : Packet, p.source ≤ 255 → (bodyBytes p.body).length ≤ 65527 →
    let l := packetBytes p
    wireBytes p = [0xAA#8, 0xAA#8, 0xAA#8, 0x5E#8] ++ l ++ List.replicate (36 - l.length) 0#8 ∧
    occupancy p = 4 + max l.length 36 ∧
    byteAt l 0 = kindCode p.body ∧ byteAt l 1 = p.source ∧ wordAt l 2 = l.length ∧
    (l.drop 4).take (l.length - 8) = bodyBytes p.body ∧
    crcBytes (crc32 (l.take (l.length - 4))) = l.drop (l.length - 4)) ∧
  (∀ (source program : Nat) (q : Seq) (payload : List Byte),
    (packetBytes { source := source, body := .programVideo program q payload }).length = 11 + payload.length) ∧
  (∀ (kind source : Nat) (body : List Byte), 1 ≤ source → source ≤ 30 → body.length ≤ 1403 →
    let l := filled (packetBytesOf kind source body)
    (kind = 2 → 4 ≤ body.length → ∃ program q payload,
      receiveBytes l = .good { source := source, body := .programVideo program q payload } ∧ 11 + payload.length = body.length + 8) ∧
    (kind = 2 → body.length < 4 → receiveBytes l = .headerError) ∧
    ((kind = 3 ∨ kind = 4 ∨ (7 ≤ kind ∧ kind ≤ 10)) →
      (leastLength kind ≤ body.length → ∃ b, receiveBytes l = .good { source := source, body := b } ∧ kindCode b = kind) ∧
      (body.length < leastLength kind → receiveBytes l = .headerError)) ∧
    ((kind = 7 → 3 ≤ leastLength kind) ∧ (kind = 8 → 5 ≤ leastLength kind) ∧ (kind = 9 → 1 ≤ leastLength kind) ∧
      (kind = 10 → 1 ≤ leastLength kind)))

/-- A REQUEST frame with a good check and a known kind delivers its request; a bad check or an unknown kind is a receive
error. Every frame that the node sends opens with its frame kind, the same for every frame of that kind, and closes with the
frame check over kind and body. An ANSWER names the kind of its request by the same code, an AUDIO frame's body is its info
word followed by its stereo frames, and CUT and UNIT_RESET have no body. Model's choices: log 42 and 48. -/
def Obligations.RequestFramesAreRead : Prop :=
  ∀ (p : Port) (kind value flags : Byte) (s : State),
    (∀ r, requestOf kind value flags = some r → exec (.request p (requestFrame kind value flags)) s = .next (s.takeRequest p r)) ∧
    ((kind.toNat = 0 ∨ 9 < kind.toNat) → exec (.request p (requestFrame kind value flags)) s = .next (s.frameError p .unknownKind)) ∧
    (∀ hi lo, [hi, lo] ≠ wordBytes (crc16 [0x22#8, kind, value, flags]) →
      exec (.request p [0x22#8, kind, value, flags, hi, lo]) s = .next (s.frameError p .badCheck)) ∧
    (kind = 6#8 → requestOf kind value flags = some (.stop value.toNat (flags.getLsbD 0))) ∧
    (kind = 2#8 → requestOf kind value flags = some (.volume value.toNat)) ∧
    (∀ f : SeatFrame, ∃ hi lo, seatFrameBytes f = Config.frameKind f.kind :: (seatBody f ++ [hi, lo]) ∧
      wordOf hi lo = crc16 (Config.frameKind f.kind :: seatBody f)) ∧
    (∀ r a, requestOf kind value flags = some r → kind ∈ seatBody (.answer (requestKind r) a)) ∧
    (∀ info l, ∃ hi lo r, seatBody (.audio info l) = hi :: lo :: r ∧ wordOf hi lo = info ∧ framesOf r = l ∧
      r.length = 4 * l.length) ∧
    (∃ hi lo, seatFrameBytes .unitReset = [Config.frameKind .unitReset, hi, lo]) ∧
    (∃ hi lo, cutBytes = [Config.frameKind .cut, hi, lo])

/-! ## Taps (chapter 3) -/

/-- What a carry decision leaves (R75, R76). It reads the demand sets that stand in `t`, and `was`, the state of each channel when
it runs. The candidates have demand; the lingering channels are those that sent and have none, with their linger end, or one
2,000 ms from now for a CARRIED one. While the candidates exceed the room, the budget less the lingering channels, the
lingering channel with the earliest end is stopped, of equal ends that of the higher program. The candidates ranked within
the room are CARRIED and those below it REFUSED; every other channel is IDLE. A channel that goes on sending keeps its level
window, and one that does not send has none. -/
def carryDecided (s t : State) (was : Chan → ChanState) : Prop :=
  let seen (c : Chan) : Bool := s.inUse c && was c != .shadowed
  let candidates := allChans.filter fun c => seen c && !(t.chan c).demand.isEmpty
  let lingering := allChans.filter fun c => seen c && (t.chan c).demand.isEmpty && (was c == .carried || was c == .linger)
  let standing (c : Chan) : Standing :=
    { chan := c, program := s.chanProgram c, demand := (t.chan c).demand.length, state := was c, lingerEnd := (s.chan c).lingerEnd }
  let ends (c : Chan) : Option Time := if was c = .carried then some (t.now + ms 2000) else (s.chan c).lingerEnd
  let sooner (c d : Chan) : Bool :=
    decide ((ends c).getD 0 < (ends d).getD 0 ∨ ((ends c).getD 0 = (ends d).getD 0 ∧ s.chanProgram d < s.chanProgram c))
  let stopped := min lingering.length (candidates.length + lingering.length - s.image.carryBudget)
  let room := s.image.carryBudget - (lingering.length - stopped)
  ∀ c : Chan,
    (c ∈ candidates → (t.chan c).lingerEnd = none ∧ (t.chan c).state =
      if (candidates.filter fun d => ranksBefore (standing d) (standing c)).length < room then .carried else .refused) ∧
    (c ∈ lingering →
      let stops : Prop := (lingering.filter fun d => sooner d c).length < stopped
      (stops → (t.chan c).state = .idle ∧ (t.chan c).lingerEnd = none) ∧
      (¬stops → (t.chan c).state = .linger ∧ (t.chan c).lingerEnd = ends c)) ∧
    (seen c = true → c ∉ candidates → c ∉ lingering → (t.chan c).state = .idle ∧ (t.chan c).lingerEnd = none) ∧
    (seen c = false → (t.chan c).state = was c ∧ (was c = (s.chan c).state → (t.chan c).lingerEnd = (s.chan c).lingerEnd)) ∧
    ((t.chan c).carried = true → (t.chan c).window = (s.chan c).window ∧ (t.chan c).trim = (s.chan c).trim ∧
      (t.chan c).mode = (s.chan c).mode) ∧
    (seen c = true → (t.chan c).carried = false → (t.chan c).window = none) ∧
    (t.chan c).filling = (s.chan c).filling ∧ (t.chan c).ready = (s.chan c).ready ∧
    (t.chan c).audioSeq = (s.chan c).audioSeq ∧ (t.chan c).videoSeq = (s.chan c).videoSeq

/-- What an event leaves that lists a channel, or takes it off the list, before the carry decision runs, the channels then standing
in the states of `was` (R77, R80 to R82): one CARRY record of that list; the decision; and one more record of the new list when
it changes a listed status. The period starts anew. -/
def recordThenDecision (s t : State) (was : Chan → ChanState) : Prop :=
  let listed : List CarryEntry := (List.finRange 8).filterMap fun c =>
    let entry (st : CarryStatus) : CarryEntry :=
      { program := s.image.channels[c].program, kind := s.image.channels[c].kind, status := st }
    if s.image.channels[c].program = 0 then none
    else match was c with
      | .idle => some (entry .idle)
      | .carried => some (entry .carried)
      | .linger => some (entry .carried)
      | .refused => some (entry .refused)
      | .unused => none
      | .shadowed => none
  let records : List Body := .carry listed :: if t.carryList = listed then [] else [.carry t.carryList]
  queuedInC s t records ∧ t.carry.carryDue = (if t.carryList = [] then none else some (t.now + ms 250)) ∧
  (s.image.feedsApart = true → carryDecided s t was)

/-- A CARRY record is taken entry by entry. Each program 1..63 that it lists enters the catalogue with the last entry for it,
renews an entry of the same station and takes over one of a higher station, a tap of the program being retargeted when the
entry is new or taken over; a lower station's entry stands; nothing else of the catalogue changes. A record of a lower
station that lists the program of a channel in use shadows it for 1,000 ms: it stops sending, its demand set is empty and
its level window abandoned. In RUNNING one CARRY record at least follows for each channel newly shadowed, the last one the list as
it then stands, and its period starts anew; of a channel newly shadowed alone, one record of the list without it, the carry
decision, and one more record when that changes a listed status. In LISTENING no record and no decision follows. Model's choices:
log 15 and 39. -/
def Obligations.CarryRecordsAreTaken : Prop :=
  (∀ (s : State) (source : Nat) (l : List CarryEntry), s.takesFrom source = true →
    ∃ t, exec (.carry source l) s = .next t ∧
      (∀ q, (q = 0 ∨ 63 < q ∨ ∀ e ∈ l, e.program ≠ q) → t.catEntry? q = s.catEntry? q ∧ t.tap? q = s.tap? q) ∧
      (∀ q e, 1 ≤ q → q ≤ 63 → (l.filter fun e => e.program == q).getLast? = some e →
        (∀ h, s.catEntry? q = some h → h.source < source → t.catEntry? q = some h ∧ t.tap? q = s.tap? q) ∧
        (((s.catEntry? q).all fun h => decide (source ≤ h.source)) = true →
          t.catEntry? q = some { program := q, source := source, kind := e.kind, status := e.status, listed := s.now }) ∧
        (∀ h, s.catEntry? q = some h → h.source = source → t.tap? q = s.tap? q) ∧
        (((s.catEntry? q).all fun h => decide (source < h.source)) = true → ∀ x, s.tap? q = some x →
          (x.source = none → t.tap? q = some { x with source := some source }) ∧
          (x.source = some source → t.tap? q = some x) ∧
          (∀ o, x.source = some o → o ≠ source →
            t.tap? q = some { x with source := some source, queue := [], expected := none, state := .waiting }))) ∧
      t.taps = { s.taps with catalogue := t.taps.catalogue, taps := t.taps.taps } ∧
      t = { s with trunk := t.trunk, taps := t.taps, carry := t.carry } ∧
      (s.startup.station < source → t.carry = s.carry ∧ t.trunk = (s.heard source).trunk)) ∧
  (∀ (s : State) (source : Nat) (l : List CarryEntry) (c : Chan),
    s.takesFrom source = true → (s.running = true ∨ s.startup.state = .listening) → source < s.startup.station →
    (∃ e ∈ l, s.image.feeder e.program = some c) →
    ∃ t, exec (.carry source l) s = .next t ∧ (t.chan c).state = .shadowed ∧ (t.chan c).shadowEnd = some (s.now + ms 1000) ∧
      ((s.chan c).state ≠ .shadowed → (t.chan c).demand = [] ∧ (t.chan c).lingerEnd = none ∧ (t.chan c).window = none) ∧
      ((s.chan c).state = .shadowed → t.chan c = { s.chan c with shadowEnd := some (s.now + ms 1000) }) ∧
      (t.chan c).audioSeq = (s.chan c).audioSeq ∧ (t.chan c).videoSeq = (s.chan c).videoSeq ∧
      t = { s with trunk := t.trunk, taps := t.taps, carry := t.carry } ∧
      let newly (d : Chan) : Prop := (s.chan d).state ≠ .shadowed ∧ ∃ e ∈ l, s.image.feeder e.program = some d
      (s.running = true → newly c →
        t.carry.carryDue = (if t.carryList = [] then none else some (s.now + ms 250)) ∧
        (∃ records : List (List CarryEntry), records.getLast? = some t.carryList ∧ queuedInC s t (records.map .carry) ∧
          ∀ chans : List Chan, chans.Nodup → (∀ d ∈ chans, newly d) → chans.length ≤ records.length) ∧
        ((∀ d, newly d → d = c) →
          recordThenDecision s t (fun e => if e = c then .shadowed else (s.chan e).state) ∧
          ∀ e, e ≠ c → (t.chan e).demand = (s.chan e).demand)) ∧
      ((s.running = false ∨ ∀ d, ¬newly d) → t.trunk = (s.heard source).trunk ∧ t.carry.carryDue = s.carry.carryDue ∧
        ∀ e, ¬newly e → t.chan e = { s.chan e with shadowEnd := (t.chan e).shadowEnd }))

/-- A PROGRAM_AUDIO packet starts a WAITING tap; at any other tap it is late when behind expected, a resync at 256 or more
ahead, a duplicate when queued, and kept otherwise: it joins the queued packets in its place by distance from expected, behind
those that are not further, and a full queue slips its oldest packet, so that the tap expects the oldest that stays; a queue
in order of distance stays so. A foreign packet is counted and discarded. -/
def Obligations.ProgramAudioAtItsTap : Prop :=
  ∀ (s : State) (source : Nat) (x : Tap) (trim : Int) (q : Seq) (frames : List StereoFrame),
    s.takesFrom source = true → s.running = true → -12 ≤ trim → trim ≤ 12 → frames.length = 48 → s.tap? x.program = some x →
    let k : AudioPacket := { sequence := q, trim := trim, frames := frames }
    ∃ t, exec (.programAudio source x.program trim q frames) s = .next t ∧
      t = { s with trunk := t.trunk, taps := t.taps } ∧ t.taps.catalogue = s.taps.catalogue ∧
      (∀ o, o ≠ x.program → t.tap? o = s.tap? o) ∧
      (x.source.isSome = true → x.source ≠ some source → t.tap? x.program = some x ∧ t.taps.foreign = bump s.taps.foreign) ∧
      ((x.source = none ∨ x.source = some source) →
        (x.state = .waiting → t.tap? x.program =
          some { x with source := some source, state := .priming, expected := some q, queue := [k], lastKept := s.now }) ∧
        (∀ e, x.state ≠ .waiting → x.expected = some e →
          (32768 ≤ (q - e).toNat → t.tap? x.program = some x ∧ t.taps.late = bump s.taps.late) ∧
          ((q - e).toNat < 32768 → 256 ≤ (q - e).toNat → t.taps.resync = bump s.taps.resync ∧
            t.tap? x.program = some { x with state := .priming, expected := some q, queue := [k], lastKept := s.now }) ∧
          ((q - e).toNat < 256 → (∃ y ∈ x.queue, y.sequence = q) →
            t.tap? x.program = some x ∧ t.taps.duplicate = bump s.taps.duplicate) ∧
          ((q - e).toNat < 256 → (∀ y ∈ x.queue, y.sequence ≠ q) →
            let nearer : AudioPacket → Bool := fun z => decide ((z.sequence - e).toNat ≤ (q - e).toNat)
            let joined := x.queue.takeWhile nearer ++ k :: x.queue.dropWhile nearer
            let inOrder (l : List AudioPacket) : Prop := l.Pairwise fun a b => (a.sequence - e).toNat < (b.sequence - e).toNat
            (inOrder x.queue → inOrder joined) ∧
            (x.queue.length < s.image.depth → t.tap? x.program = some { x with
              queue := joined, lastKept := s.now,
              state := match x.state with
                | .priming => if s.image.depth / 2 ≤ x.queue.length + 1 then .playing else .priming
                | .starved => .priming
                | z => z }) ∧
            (x.queue.length = s.image.depth → 0 < s.image.depth → t.taps.slip = bump s.taps.slip ∧
              t.tap? x.program = some { x with
                queue := joined.tail, expected := (joined.tail.head?).map AudioPacket.sequence, lastKept := s.now,
                state := match x.state with
                  | .priming => .playing
                  | .starved => .priming
                  | z => z }))))

/-- A PROGRAM_VIDEO packet of the tap's source goes to the video queue of each link whose berth selects the program with
its screen ON, no emergency hold and the link UP, and to no other link. The chunk joins at the tail of a queue of 8, a ninth
removing the oldest, which is counted; a free transmitter, with nothing else to send and no hold, takes the oldest at once. -/
def Obligations.VideoIsForwarded : Prop :=
  ∀ (s : State) (source : Nat) (x : Tap) (q : Seq) (payload : List Byte),
    s.takesFrom source = true → s.running = true → payload ≠ [] → payload.length ≤ 1400 →
    s.tap? x.program = some x → x.source = some source →
    (s.catEntry? x.program).map CatEntry.kind ≠ some .audio →
    ∃ t, exec (.programVideo source x.program q payload) s = .next t ∧ t = { s with trunk := t.trunk, links := t.links } ∧
      ∀ p : Port,
        ((s.inService p = true ∧ (s.berth p).program = x.program ∧ (s.berth p).screen = .on ∧ (s.berth p).hold = false ∧
            s.links[p].state = .up) →
          let l := s.links[p]
          let joined := (l.video ++ [({ sequence := q, payload := payload } : Chunk)]).drop (l.video.length - 7)
          let counted : LinkCounters :=
            { l.counters with videoDrop := if l.video.length < 8 then l.counters.videoDrop else bump l.counters.videoDrop }
          ((l.sending.isSome = true ∨ (l.hold.isSome = true ∧ l.resets = [] ∧ l.control = [] ∧ l.audio = none)) →
            t.links[p] = { l with video := joined, counters := counted }) ∧
          (l.sending = none → l.hold = none → l.resets = [] → l.control = [] → l.audio = none →
            t.links[p] = { l with sending := joined.head?.map .video, video := joined.tail, counters := counted })) ∧
        (¬(s.inService p = true ∧ (s.berth p).program = x.program ∧ (s.berth p).screen = .on ∧ (s.berth p).hold = false ∧
            s.links[p].state = .up) → t.links[p] = s.links[p])

/-! ## Berths (chapter 1) -/

/-- A SELECT of 0 or of a program in the catalogue sets the program, and while RUNNING a changed selection taps the new
program, releases one that no in-service berth selects any more, and sends one WANT when the tapped set has changed; a new
tap is WAITING with nothing received and the source of its catalogue entry, every other tap stands, and taps in program order
stay so. Any other SELECT is refused UNKNOWN. Each does the activity step and hands one ANSWER, with a SCREEN_LEVEL frame behind
it when the level is new. Model's choice: log 9. -/
def Obligations.SelectMovesTheTap : Prop :=
  ∀ (s : State) (p : Port) (q : Nat), (s.linkRuns p && s.linkUp p) = true →
    ∃ t, exec (.select p q) s = .next t ∧
      ((q = 0 ∨ (q ≤ 63 ∧ (s.catEntry? q).isSome = true)) →
        t.berth p = { (s.berth p).activity s.now with program := q, reported := some (t.screenLevel p) } ∧
        t.berths.requests = bump s.berths.requests ∧ t.berths.refusals = s.berths.refusals ∧
        (s.links[p].control.length < 16 → (t.links[p]).holds (.answer .select .accepted)) ∧
        levelSent s t p [.answer .select .accepted] ∧
        (s.taps.taps.Pairwise (fun x y => x.program < y.program) → t.taps.taps.Pairwise fun x y => x.program < y.program) ∧
        (∀ o, o ≠ p → t.berth o = s.berth o ∧ t.links[o] = s.links[o]) ∧
        t = { s with berths := t.berths, links := t.links, taps := t.taps, trunk := t.trunk } ∧
        (s.running = true → (s.berth p).program ≠ q →
          let old := (s.berth p).program
          (q ≠ 0 → s.tap? q = none → ∃ x, t.tap? q = some x ∧ x.program = q ∧ x.state = .waiting ∧ x.expected = none ∧
            x.queue = [] ∧ x.source = (s.catEntry? q).map CatEntry.source) ∧
          ((s.tap? q).isSome = true → t.tap? q = s.tap? q) ∧
          (old ≠ 0 → (∀ o, o ≠ p → s.inService o = true → (s.berth o).program ≠ old) → t.tap? old = none) ∧
          ((∃ o, o ≠ p ∧ s.inService o = true ∧ (s.berth o).program = old) → t.tap? old = s.tap? old) ∧
          (∀ o, o ≠ q → o ≠ old → t.tap? o = s.tap? o)) ∧
        (s.running = true → t.taps.taps.map Tap.program ≠ s.taps.taps.map Tap.program →
          t.taps.wantDue = (if t.taps.taps = [] then none else some (s.now + ms 100)) ∧
          queuedC s t (.want (t.taps.taps.map Tap.program))) ∧
        (t.taps.taps.map Tap.program = s.taps.taps.map Tap.program → t.taps = s.taps ∧ t.trunk = s.trunk) ∧
        (s.running = false → t.taps = s.taps ∧ t.trunk = s.trunk)) ∧
      (q ≠ 0 → (63 < q ∨ (s.catEntry? q) = none) →
        requestTaken s t p .select (.refused .unknown) (fun b => b))

/-- BRIGHTNESS sets the field, clamped to 15, and is answered ACCEPTED; the brightness is kept by SCREEN requests and at the
inactivity limit, and gives the level whenever the shown screen is ON, by the screen field or by the emergency hold. Model's
choice: log 9. -/
def Obligations.BrightnessIsClampedAndKept : Prop :=
  ∀ (s : State) (p : Port) (v : Nat), (s.linkRuns p && s.linkUp p) = true →
    (∃ t, exec (.brightness p v) s = .next t ∧
      requestTaken s t p .brightness .accepted (fun b => { b with brightness := if 15 < v then 15 else v })) ∧
    (∀ on, ∃ t, exec (.screen p on) s = .next t ∧ (t.berth p).brightness = (s.berth p).brightness) ∧
    (∃ t, exec (.inactivityExpiry p) s = .next t ∧ (t.berth p).brightness = (s.berth p).brightness) ∧
    (((s.berth p).screen = .on ∨ (s.berth p).hold = true) → s.screenLevel p = s.image.level s.profile.dimBank (s.berth p).brightness)

/-- VOLUME clamps to 31, MUTE and SCREEN take both values; each is accepted. LANGUAGE 0..3 and STOP 0..99 set their fields;
values above are refused BAD_VALUE and leave them. Each request does the activity step, hands one ANSWER and reports the
level. Model's choice: log 9. -/
def Obligations.SettingsAreTaken : Prop :=
  (∀ (s : State) (p : Port), (s.linkRuns p && s.linkUp p) = true →
    (∀ v, ∃ t, exec (.volume p v) s = .next t ∧
      requestTaken s t p .volume .accepted (fun b => { b with volume := if 31 < v then 31 else v })) ∧
    (∀ on, ∃ t, exec (.mute p on) s = .next t ∧ requestTaken s t p .mute .accepted (fun b => { b with mute := on })) ∧
    (∀ on, ∃ t, exec (.screen p on) s = .next t ∧
      requestTaken s t p .screen .accepted (fun b => { b with screen := if on then .on else .off }))) ∧
  (∀ (s : State) (p : Port) (v : Nat) (w : Bool), (s.linkRuns p && s.linkUp p) = true →
    (∃ t, exec (.language p v) s = .next t ∧
      (v ≤ 3 → requestTaken s t p .language .accepted (fun b => { b with language := v })) ∧
      (3 < v → requestTaken s t p .language (.refused .badValue) (fun b => b))) ∧
    (∃ t, exec (.stop p v w) s = .next t ∧
      (v ≤ 99 → requestTaken s t p .stop .accepted (fun b => { b with stop := v, stopWake := w })) ∧
      (99 < v → requestTaken s t p .stop (.refused .badValue) (fun b => b))))

/-- DND on holds the timer and leaves the screen, a DIM one too; DND off makes the berth AWAKE with its timer at 0 and a DIM
screen ON. DND on dismisses an announcement in service that is no EMERGENCY, and the freed voice serves its pending list under
DND. At 600 s without activity an AWAKE berth of the node goes to RESTING, its timer held, an ON screen DIM, and a level that is new
goes to an UP link in a SCREEN_LEVEL frame; an out-of-service port and a berth that is not AWAKE are not changed. Model's choices:
log 2, 9, 19, 24 and 37. -/
def Obligations.AttentionMoves : Prop :=
  (∀ (s : State) (p : Port) (on : Bool), (s.linkRuns p && s.linkUp p) = true →
    ((on = false ∨ s.currentId p = none ∨ (s.currentId p).bind s.classOfId = some .emergency) →
      ∃ t, exec (.dnd p on) s = .next t ∧
        requestTaken s t p .dnd .accepted (fun b =>
          match on, b.attention with
          | true, .dnd => b
          | true, _ => { b with attention := .dnd, timer := .held (b.timer.value s.now), screen := (s.berth p).screen }
          | false, .dnd => { b with attention := .awake, timer := .counting s.now, screen := if b.screen = .dim then .on else b.screen }
          | false, _ => b)) ∧
    (∀ id k, s.currentId p = some id → s.classOfId id = some k → k ≠ .emergency →
      (∀ x ∈ (s.berthVoice p).pending, x.1 ≠ id) →
      ∃ t, exec (.dnd p true) s = .next t ∧ (t.berth p).attention = .dnd ∧ t.currentId p ≠ some id ∧
        dismissed s t p id .dnd (match (s.berth p).attention with
          | .dnd => s.berth p
          | _ => { (s.berth p).activity s.now with
                   attention := .dnd, timer := .held (((s.berth p).activity s.now).timer.value s.now),
                   screen := (s.berth p).screen }))) ∧
  (∀ (s : State) (p : Port),
    (∀ t0, (s.berth p).timer = .counting t0 → (s.berth p).attention = .awake → s.inService p = true →
      ∃ t, exec (.inactivityExpiry p) s = .next t ∧
        t.berth p = { s.berth p with
          attention := .resting, timer := .held (sec 600),
          screen := if (s.berth p).screen = .on then .dim else (s.berth p).screen,
          reported := if s.linkUp p then some (t.screenLevel p) else none } ∧
        (s.linkUp p = true → levelSent s t p []) ∧ (s.linkUp p = false → t.links[p] = s.links[p]) ∧
        (∀ q, q ≠ p → t.berth q = s.berth q ∧ t.links[q] = s.links[q]) ∧
        t = { s with now := max s.now (t0 + sec 600), berths := t.berths, links := t.links }) ∧
    (((s.berth p).attention ≠ .awake ∨ s.inService p = false) → exec (.inactivityExpiry p) s = .next s))

/-! ## Feed channels (chapter 4) -/

/-- A feed event empties the filling buffer of every channel in use, makes a completed block the ready block, and sends it
when the channel is CARRIED or LINGER, the sequence advancing by one: each such block is handed to class B, of which the
last 16 packets wait. Each block sent in AUTO or ONE_SHOT is counted into the channel's level window, which starts with it if
none runs, and raises its peak to the greatest magnitude of its samples; a window that has counted its 1,000 blocks has ended
first, and otherwise trim and mode stand. A channel that sends and has no completed block is one underrun; a channel not in
use is not touched. Model's choices: log 2, 3, 7 and 16. -/
def Obligations.FeedEventSettlesChannels : Prop :=
  ∀ (s : State) (t0 : Time), s.carry.nextFeed = some t0 →
    ∃ t, exec .feedEvent s = .next t ∧ t.now = max s.now t0 ∧ t.carry.nextFeed = some (t.now + ms 1) ∧
      t.carry.feedSyncs = s.carry.feedSyncs + 1 ∧
      (∀ c : Chan, s.inUse c = false → t.chan c = s.chan c) ∧
      (∀ c : Chan, s.inUse c = true →
        (t.chan c).filling = .empty ∧ (t.chan c).state = (s.chan c).state ∧
        (∀ l, (s.chan c).filling = .complete l → (t.chan c).ready = some l ∧
          (t.chan c).audioSeq = (if (s.chan c).carried then (s.chan c).audioSeq + 1 else (s.chan c).audioSeq)) ∧
        ((∀ l, (s.chan c).filling ≠ .complete l) → (t.chan c).ready = (s.chan c).ready ∧ (t.chan c).audioSeq = (s.chan c).audioSeq) ∧
        (t.chan c).demand = (s.chan c).demand ∧ (t.chan c).videoSeq = (s.chan c).videoSeq ∧
        (t.chan c).lingerEnd = (s.chan c).lingerEnd ∧ (t.chan c).shadowEnd = (s.chan c).shadowEnd ∧
        let running : Option LevelWindow := (s.chan c).window.filter fun w => decide (w.count < 1000)
        ((s.chan c).window = running → (t.chan c).trim = (s.chan c).trim ∧ (t.chan c).mode = (s.chan c).mode) ∧
        (∀ w, (s.chan c).window = some w → 1000 ≤ w.count →
          (t.chan c).trim = movedTrim s.image.channels[c] (s.chan c).trim w.peak ∧
          (t.chan c).mode = if (s.chan c).mode = .oneShot then .manual else (s.chan c).mode) ∧
        (∀ l, (s.chan c).filling = .complete l → (s.chan c).carried = true → (t.chan c).mode ≠ .manual →
          ∃ w, (t.chan c).window = some w ∧
            (running = none → w.count = 1 ∧ w.peak = blockPeak l) ∧
            (∀ w0, running = some w0 → w.count = w0.count + 1 ∧ w.peak = max w0.peak (blockPeak l))) ∧
        (((∀ l, (s.chan c).filling ≠ .complete l) ∨ (s.chan c).carried = false ∨ (t.chan c).mode = .manual) →
          (t.chan c).window = running)) ∧
      (∀ l : List StereoFrame,
        (∀ f ∈ l, f.left.toInt.natAbs ≤ blockPeak l ∧ f.right.toInt.natAbs ≤ blockPeak l) ∧
        (∀ n, (∀ f ∈ l, f.left.toInt.natAbs ≤ n ∧ f.right.toInt.natAbs ≤ n) → blockPeak l ≤ n)) ∧
      (let packets := (s.sendingChannels.filterMap s.feedPacket).map (handedBy s t);
        s.running = true → s.trunk.queueB.length ≤ 16 →
          (s.trunk.queueB.length + packets.length ≤ 16 → t.trunk.held.Perm (s.trunk.held ++ packets)) ∧
          (s.trunk.current.isSome = true → ∃ l : List TxPacket, l.Perm packets ∧
            t.trunk.queueB = (s.trunk.queueB ++ l).drop (s.trunk.queueB.length + l.length - 16) ∧
            t.trunk.dropB = bumpBy (s.trunk.queueB.length + l.length - 16) s.trunk.dropB)) ∧
      t.carry.underrun = bumpBy (s.sendingChannels.filter fun c => (s.feedPacket c).isNone).length s.carry.underrun ∧
      t.carry.feedError = s.carry.feedError ∧
      t = { s with now := t.now, free := t.free, trunk := t.trunk, carry := t.carry }

/-- A window of 1,000 blocks ends with the trim moved by its peak and clamped; a ONE_SHOT channel becomes MANUAL. Model's
choice: log 16. -/
def Obligations.LevelWindowMovesTheTrim : Prop :=
  ∀ (s : State) (c : Chan) (w : LevelWindow), (s.chan c).window = some w →
    (1000 ≤ w.count →
      ∃ t, exec (.levelWindowEnd c) s = .next t ∧
        t.chan c = { s.chan c with trim := movedTrim s.image.channels[c] (s.chan c).trim w.peak, window := none,
                                   mode := if (s.chan c).mode = .oneShot then .manual else (s.chan c).mode } ∧
        (∀ d, d ≠ c → t.chan d = s.chan d) ∧ t = { s with carry := { s.carry with channels := t.carry.channels } }) ∧
    (w.count < 1000 → exec (.levelWindowEnd c) s = .next s)

/-- A delivery of 48 frames with a matching check word completes an empty filling buffer; one with a wrong check word or too
many frames is a frame error, counted; one that ends with fewer frames and a matching check word is an error or leaves the
buffer incomplete; a delivery begun after one has ended, or in a frame error, is a frame error, counted; a video
chunk of a wrong length or for an AUDIO channel is counted and discarded, and one that a carried channel's class C accepts
advances the video sequence. Model's choices: log 6 and 20. -/
def Obligations.DeliveriesAreTaken : Prop :=
  ∀ (s : State) (c : Chan), s.inUse c = true → s.loading = false →
    (∀ l check, (s.chan c).filling = .empty → (l.length = 48 → check = deliverySum l →
        exec (.audioDelivery (chanNumber c) true l (some check)) s = .next (s.modChan c fun x => { x with filling := .complete l })) ∧
      ((48 < l.length ∨ check ≠ deliverySum l) →
        exec (.audioDelivery (chanNumber c) true l (some check)) s =
          .next (s.modChan c fun x => { x with filling := .frameError }).countFeedError) ∧
      (l.length < 48 → check = deliverySum l →
        exec (.audioDelivery (chanNumber c) true l (some check)) s =
            .next (s.modChan c fun x => { x with filling := .frameError }).countFeedError ∨
          exec (.audioDelivery (chanNumber c) true l (some check)) s = .next (s.modChan c fun x => { x with filling := .ended }))) ∧
    (∀ l check, ((s.chan c).filling = .ended ∨ (∃ m, (s.chan c).filling = .complete m) ∨ (s.chan c).filling = .frameError) →
      exec (.audioDelivery (chanNumber c) true l check) s =
        .next (s.modChan c fun x => { x with filling := .frameError }).countFeedError) ∧
    (∀ payload, (payload = [] ∨ 1400 < payload.length ∨ s.image.channels[c].kind = .audio) →
      exec (.videoDelivery (chanNumber c) payload) s =
        .next { s with carry := { s.carry with feedError := bump s.carry.feedError } }) ∧
    (∀ payload, payload ≠ [] → payload.length ≤ 1400 → s.image.channels[c].kind = .audioVideo →
      ∃ t, exec (.videoDelivery (chanNumber c) payload) s = .next t ∧
        ((s.chan c).carried = true → s.running = true → queuedC s t (.programVideo (s.chanProgram c) (s.chan c).videoSeq payload) ∧
          (s.trunk.queueC.length < 32 → t.chan c = { s.chan c with videoSeq := (s.chan c).videoSeq + 1 }) ∧
          (32 ≤ s.trunk.queueC.length → t.carry = s.carry)) ∧
        ((s.chan c).carried = false → t = s) ∧ (∀ d, d ≠ c → t.chan d = s.chan d) ∧
        t = { s with trunk := t.trunk, carry := { s.carry with channels := t.carry.channels } })

/-- One CARRY record follows a carry decision that changes the listed status of any channel, and none any other; its period
starts anew from it (R76, R80). -/
def statusRecordSent (s t : State) : Prop :=
  (t.carryList ≠ s.carryList → queuedC s t (.carry t.carryList) ∧
    t.carry.carryDue = if t.carryList = [] then none else some (t.now + ms 250)) ∧
  (t.carryList = s.carryList → t.trunk.held = s.trunk.held ∧ t.trunk.refusalC = s.trunk.refusalC ∧
    t.carry.carryDue = s.carry.carryDue)

/-- No step takes a node within the carry budget out of it, nor makes two channels feed one program. The carry decision brings
any node within the budget: after a demand expiry, a linger end, a shadow end, and a WANT that changes a demand set, each
with its own effect on the channel or the sets. The decision carries the candidates ranked within the room, refuses those
below it, lets a channel that has lost its demand linger, stops lingering channels to make room, and has one CARRY record
sent when a listed status changes; a linger end and a shadow end send one before it, of the list with the channel IDLE. A WANT that
changes no set runs no decision. Any WANT sets or renews its station's expiry, 350 ms from now, in the set of each channel it lists,
and leaves the entries of the other stations with theirs. Model's choices: log 2 and 15. -/
def Obligations.CarryBudgetHolds : Prop :=
  (∀ s t : State, s.sendingChannels.length ≤ s.image.carryBudget → step s = .next t →
    t.sendingChannels.length ≤ t.image.carryBudget) ∧
  (∀ s t : State, s.image.feedsApart = true → step s = .next t → t.image.feedsApart = true) ∧
  ∀ (s : State), s.running = true →
    (∀ c st d, (s.chan c).demand.find? (fun x => x.1 == st) = some d →
      ∃ t, exec (.demandExpiry c st) s = .next t ∧ t.sendingChannels.length ≤ s.image.carryBudget ∧
        (t.chan c).demand = (s.chan c).demand.filter (fun x => x.1 ≠ st) ∧ (∀ e, e ≠ c → (t.chan e).demand = (s.chan e).demand) ∧
        (s.image.feedsApart = true → carryDecided s t fun e => (s.chan e).state) ∧ statusRecordSent s t ∧
        t = { s with now := max s.now d.2, carry := t.carry, trunk := t.trunk }) ∧
    (∀ c t0, (s.chan c).state = .linger → (s.chan c).lingerEnd = some t0 → (s.chan c).demand = [] →
      ∃ t, exec (.lingerEnd c) s = .next t ∧ t.sendingChannels.length ≤ s.image.carryBudget ∧
        (t.chan c).state = .idle ∧ (t.chan c).lingerEnd = none ∧ (∀ e, (t.chan e).demand = (s.chan e).demand) ∧
        recordThenDecision s t (fun e => if e = c then .idle else (s.chan e).state) ∧
        t = { s with now := max s.now t0, carry := t.carry, trunk := t.trunk }) ∧
    (∀ c t0, (s.chan c).state = .shadowed → (s.chan c).shadowEnd = some t0 →
      ∃ t, exec (.shadowEnd c) s = .next t ∧ t.sendingChannels.length ≤ s.image.carryBudget ∧
        (t.chan c).state ≠ .shadowed ∧ (t.chan c).shadowEnd = none ∧ (∀ e, (t.chan e).demand = (s.chan e).demand) ∧
        recordThenDecision s t (fun e => if e = c then .idle else (s.chan e).state) ∧
        t = { s with now := max s.now t0, carry := t.carry, trunk := t.trunk }) ∧
    (∀ source programs, s.takesFrom source = true →
      ∃ t, exec (.want source programs) s = .next t ∧ t = { s with carry := t.carry, trunk := t.trunk } ∧
        (∀ c : Chan, s.inUse c = true → (s.chan c).state ≠ .shadowed →
          ((t.chan c).wantedBy source = true ↔ s.chanProgram c ∈ programs) ∧
          (∀ o, o ≠ source → (t.chan c).wantedBy o = (s.chan c).wantedBy o) ∧
          ((t.chan c).demand.filter fun d => d.1 == source) =
            (if s.chanProgram c ∈ programs then [(source, s.now + ms 350)] else []) ∧
          ((t.chan c).demand.filter fun d => d.1 ≠ source) = (s.chan c).demand.filter fun d => d.1 ≠ source) ∧
        (∀ c : Chan, (s.inUse c = false ∨ (s.chan c).state = .shadowed) → (t.chan c).demand = (s.chan c).demand) ∧
        let changes : Prop := ∃ c : Chan, s.inUse c = true ∧ (s.chan c).state ≠ .shadowed ∧
          (s.chan c).wantedBy source ≠ decide (s.chanProgram c ∈ programs)
        (changes → t.sendingChannels.length ≤ s.image.carryBudget ∧
          (s.image.feedsApart = true → carryDecided s t fun e => (s.chan e).state) ∧ statusRecordSent s t) ∧
        (¬changes → t.trunk = (s.heard source).trunk ∧
          ∀ c : Chan, t.chan c = { s.chan c with demand := (t.chan c).demand }))

/-- Of two candidates for different programs exactly one ranks before the other, and ranking is transitive: more stations
first, then a channel that sends, then the lower program. -/
def Obligations.CandidateRankingIsTotal : Prop :=
  (∀ x y : Standing, x.program ≠ y.program → ranksBefore x y = !ranksBefore y x) ∧
  (∀ x y z : Standing, ranksBefore x y = true → ranksBefore y z = true → ranksBefore x z = true) ∧
  (∀ x y : Standing, y.demand < x.demand → ranksBefore x y = true) ∧
  (∀ x y : Standing, x.demand = y.demand → x.incumbent = true → y.incumbent = false → ranksBefore x y = true) ∧
  (∀ x y : Standing, x.demand = y.demand → x.incumbent = y.incumbent → x.program < y.program → ranksBefore x y = true) ∧
  (∀ x : Standing, x.incumbent = true ↔ x.state = .carried ∨ x.state = .linger)

/-! ## Announcements (chapters 5 and 6) -/

/-- What the meeting of a targeted berth with a new announcement leaves at that berth (R116 to R118, R121, R122, R125, R127).
`served` is the voice that takes it: CHIME for an entry in LEAD_IN, SPEAKING for one in SPEECH. No voice and no pending list
holds the id, which is new. -/
def berthMeets (s t : State) (d : Descriptor) (tail : AnnTail) (p : Port) : Prop :=
  let served : Serving := match tail with
    | .speech _ _ => .speaking d.id
    | _ => .chime d.id
  let late : Prop := ∃ i l, tail = .speech i l ∧ 2000 < i.toNat
  let record (role : Role) (card : Bool) : Option BerthRec := some { port := p, berth := s.berthNumber p, role := role, card := card }
  let rank : Nat := annClassCode d.cls
  (s.decision d.cls p = .unreachable → t.record? d.id p = record (.fixed (.declined .unreachable)) false ∧
    t.berth p = s.berth p ∧ t.links[p] = s.links[p] ∧ t.berthVoice p = s.berthVoice p) ∧
  (s.decision d.cls p = .decline → t.record? d.id p = record (.fixed (.declined .policy)) false ∧
    t.berth p = s.berth p ∧ t.links[p] = s.links[p] ∧ t.berthVoice p = s.berthVoice p) ∧
  (s.decision d.cls p = .caption → t.record? d.id p = record (.fixed .caption) true ∧
    t.berth p = s.berth p ∧ t.berthVoice p = s.berthVoice p ∧
    t.links[p] = s.links[p].handCard s.now { caption := d.caption, language := d.language, cls := d.cls, action := .show }) ∧
  (∀ w, s.decision d.cls p = .audio w → s.currentId p ≠ some d.id → (∀ x ∈ (s.berthVoice p).pending, x.1 ≠ d.id) →
    (w = true → (s.currentId p).all (fun cur => decide (s.priorityOf cur < rank)) = true → (t.berth p).screen = .on ∧
      ((s.berth p).attention ≠ .dnd → (t.berth p).attention = .awake) ∧
      (s.inService p = true → (t.berth p).reported = some (t.screenLevel p) ∧
        ((s.berth p).reported ≠ some (t.screenLevel p) → s.links[p].control.length ≤ 12 →
          (t.links[p]).holds (.screenLevel (t.screenLevel p))))) ∧
    ((s.currentId p).all (fun cur => decide (s.priorityOf cur < rank)) = true → ¬late →
      t.berthVoice p = { s.berthVoice p with serving := served } ∧ t.record? d.id p = record .inService true ∧
      (d.cls = .emergency → (t.berth p).hold = true ∧
        ((s.berth p).hold = false → t.links[p].video = [] ∧
          t.links[p].counters.videoFlush = bumpBy s.links[p].video.length s.links[p].counters.videoFlush ∧
          (∀ c, s.links[p].sending = some (.video c) → t.links[p].cuts = s.links[p].cuts + 1 ∧
            (∀ f r, s.links[p].resets = [] → s.links[p].control = f :: r → t.links[p].sending = some f))))) ∧
    ((s.currentId p).all (fun cur => decide (s.priorityOf cur < rank)) = true → late →
      t.record? d.id p = record (.fixed .missed) true ∧ (s.currentId p = none → t.berthVoice p = s.berthVoice p)) ∧
    (∀ cur, s.currentId p = some cur → s.priorityOf cur < rank → late → (∀ x ∈ (s.berthVoice p).pending, x.1 ≠ cur) →
      servesOn s t p (if w then (s.berth p).woken s.now else s.berth p) (s.berthVoice p).pending) ∧
    (∀ cur r, s.currentId p = some cur → s.priorityOf cur < rank → s.record? cur p = some r → r.role = .inService →
      (∀ x ∈ (s.berthVoice p).pending, x.1 ≠ cur) →
      t.record? cur p = some { r with role := .fixed (.cut .preempted), card := false }) ∧
    (∀ cur, s.currentId p = some cur → rank ≤ s.priorityOf cur →
      let ahead : AnnId × Time → Bool := fun x => decide (rank ≤ s.priorityOf x.1)
      let joined := (s.berthVoice p).pending.takeWhile ahead ++ (d.id, s.now) :: (s.berthVoice p).pending.dropWhile ahead
      t.berthVoice p = { s.berthVoice p with pending := joined.take 3 } ∧ t.berth p = s.berth p ∧ t.links[p] = s.links[p] ∧
      t.record? d.id p = record (if (joined.drop 3).any (fun x => x.1 == d.id) then .fixed (.declined .busy) else .pending) false ∧
      (∀ x r, x ∈ joined.drop 3 → x.1 ≠ d.id → s.record? x.1 p = some r → r.role = .pending →
        t.record? x.1 p = some { r with role := .fixed (.declined .busy) })))

/-- ANNOUNCE_LEAD_IN, ANNOUNCE_HOLD, ANNOUNCE_SPEECH, ANNOUNCE_END: an announcement whose id is unknown enters a table with
room, with one record for each targeted berth in port order, and each targeted berth meets it by its delivery decision: its
outcome is fixed, its voice takes the announcement, preempting one of lower priority, or it waits in the pending list; a voice
that it preempts and joins too late serves its pending list. In a full table it evicts the entry of lowest priority, the oldest
among equals, when it ranks above it, the voices so freed serving on, and is otherwise declined NODE_FULL. A LEAD_IN or HOLD packet of a held id renews its last packet; a packet of a closed id, and an END of an
unknown one, is ignored. Model's choice: log 8, for the moment at which a flush lets the next frame be taken. -/
def Obligations.AnnouncementsEnterTheTable : Prop :=
  (∀ (i : Instr) (s : State) (source : Nat) (d : Descriptor) (tail : AnnTail),
    receivedPacket i = some { source := source, body := .announce d tail } → s.takesFrom source = true → s.running = true →
    bodyOk (.announce d tail) = true →
    ∃ t, exec i s = .next t ∧
      (d.id ∈ s.voice.closed → t = s.heard source) ∧
      (d.id ∉ s.voice.closed → s.entry? d.id = none → (∃ r, tail = .fin r) → t = s.heard source) ∧
      (d.id ∉ s.voice.closed → s.entry? d.id = none → (¬ ∃ r, tail = .fin r) →
        (s.voice.table.length < 4 →
          (∃ e, t.entry? d.id = some e ∧ e.desc = d ∧ e.lastPacket = s.now ∧
            e.state = (match tail with
              | .speech _ _ => .speech
              | _ => .leadIn) ∧
            e.recs.map BerthRec.port = s.targets d) ∧
          t.voice.table.length = s.voice.table.length + 1 ∧
          (∀ p ∈ s.targets d, berthMeets s t d tail p) ∧
          (∀ p : Port, p ∉ s.targets d → t.berth p = s.berth p ∧ t.links[p] = s.links[p] ∧ t.berthVoice p = s.berthVoice p) ∧
          t = { s with trunk := t.trunk, berths := t.berths, voice := t.voice, links := t.links }) ∧
        (∀ low, 4 ≤ s.voice.table.length → lowestEntry s.voice.table = some low → low.priority < annClassCode d.cls →
          t.entry? low.desc.id = none ∧ low.desc.id ∈ t.voice.closed ∧
          (∀ p : Port, t.currentId p ≠ some low.desc.id ∧ ∀ x ∈ (t.berthVoice p).pending, x.1 ≠ low.desc.id) ∧
          (∃ e, t.entry? d.id = some e ∧ e.desc = d ∧ e.recs.map BerthRec.port = s.targets d) ∧
          (∀ p : Port, p ∉ s.targets d → (∀ x ∈ (s.berthVoice p).pending, x.1 ≠ d.id) →
            let rest := (s.berthVoice p).pending.filter fun x => x.1 ≠ low.desc.id
            (s.currentId p = some low.desc.id → servesOn s t p (s.berth p) rest) ∧
            (s.currentId p ≠ some low.desc.id →
              t.berth p = s.berth p ∧ t.berthVoice p = { s.berthVoice p with pending := rest })) ∧
          t.voice.eviction = bump s.voice.eviction ∧
          t = { s with trunk := t.trunk, berths := t.berths, voice := t.voice, links := t.links } ∧
          queuedA s t (.ack low.desc.id
            (totalsOf (ackItems (low.close (.cut .evicted) (.cut .evicted)).recs))
            (ackItems (low.close (.cut .evicted) (.cut .evicted)).recs))) ∧
        (∀ low, 4 ≤ s.voice.table.length → lowestEntry s.voice.table = some low → annClassCode d.cls ≤ low.priority →
          let items : List AckItem := (s.targets d).map fun p => { berth := s.berthNumber p, outcome := .declined .nodeFull }
          queuedA s t (.ack d.id (totalsOf items) items) ∧ d.id ∈ t.voice.closed ∧
          t = { s with trunk := t.trunk, voice := { s.voice with nodeFull := bump s.voice.nodeFull, closed := t.voice.closed } })) ∧
      (∀ e, d.id ∉ s.voice.closed → s.entry? d.id = some e → (tail = .leadIn ∨ tail = .hold) →
        t = { s with trunk := t.trunk, voice := { s.voice with table := t.voice.table } } ∧
        t.entry? d.id = some { e with lastPacket := s.now } ∧ ∀ o, o ≠ d.id → t.entry? o = s.entry? o)) ∧
  (∀ (l : List Entry) (low : Entry), lowestEntry l = some low →
    (∀ e ∈ l, low.priority ≤ e.priority) ∧ ∃ a b, l = a ++ low :: b ∧ ∀ e ∈ a, low.priority < e.priority)

/-- A SPEECH packet of a held entry takes it to SPEECH, every voice that chimes for it speaks, and its block joins the queue at its
place in index order, a queue in that order staying so; a block behind playout or queued already is counted late, and with nine
blocks the first, the one of lowest index, which may be the new one, is removed and counted. -/
def Obligations.SpeechIsTaken : Prop :=
  ∀ (s : State) (source : Nat) (d : Descriptor) (e : Entry) (i : Seq) (l : List Sample),
    s.takesFrom source = true → s.running = true → bodyOk (.announce d (.speech i l)) = true → d.id ∉ s.voice.closed →
    s.entry? d.id = some e →
    let late : Prop := (∃ n, e.playout = .started n ∧ i.toNat < n) ∨ (∃ b ∈ e.queue, b.index = i)
    ∃ t y, exec (.announceSpeech source d i l) s = .next t ∧ t = { s with trunk := t.trunk, voice := t.voice } ∧
      t.entry? d.id = some y ∧ y.desc = e.desc ∧ y.recs = e.recs ∧ y.playout = e.playout ∧ y.lastPacket = s.now ∧ y.state = .speech ∧
      (∀ p : Port, e.state = .leadIn → (s.berthVoice p).serving = .chime d.id → (t.berthVoice p).serving = .speaking d.id) ∧
      (∀ p : Port, (s.berthVoice p).serving ≠ .chime d.id → t.berthVoice p = s.berthVoice p) ∧
      (late → y.queue = e.queue ∧ t.voice.late = bump s.voice.late) ∧
      let below : SpeechBlock → Bool := fun b => decide (b.index.toNat < i.toNat)
      let joined := e.queue.takeWhile below ++ { index := i, samples := l } :: e.queue.dropWhile below
      let inOrder (q : List SpeechBlock) : Prop := q.Pairwise fun a b => a.index.toNat < b.index.toNat
      (¬late → inOrder e.queue → inOrder joined) ∧
      (¬late → t.voice.late = s.voice.late) ∧
      (¬late → e.queue.length < 8 → y.queue = joined ∧ t.voice.overflow = s.voice.overflow) ∧
      (¬late → e.queue.length = 8 → y.queue = joined.tail ∧ t.voice.overflow = bump s.voice.overflow)

/-- What an entry's end leaves: the id is in the table no more and in the closed-id list, no voice serves it and no pending
list holds it; the other entries stay. -/
def entryEnded (s t : State) (id : AnnId) : Prop :=
  t.entry? id = none ∧ id ∈ t.voice.closed ∧
  (∀ p : Port, t.currentId p ≠ some id ∧ ∀ x ∈ (t.berthVoice p).pending, x.1 ≠ id) ∧
  (∀ o, o ≠ id → ((t.entry? o).map Entry.desc) = (s.entry? o).map Entry.desc) ∧
  t = { s with now := t.now, trunk := t.trunk, berths := t.berths, voice := t.voice, links := t.links }

/-- What an entry's end leaves at each berth: a voice that served it is free and serves the list that remains, any other goes on,
and the hold with it; a card that is shown for it is cleared on an UP link, alone where no announcement waits and no hold ends. -/
def berthsFreed (s t : State) (id : AnnId) (e : Entry) : Prop :=
  ∀ p : Port,
    let rest := (s.berthVoice p).pending.filter fun x => x.1 ≠ id
    (s.currentId p = some id → servesOn s t p (s.berth p) rest) ∧
    (s.currentId p = some id → rest = [] → t.berthVoice p = { serving := .idle, pending := [] } ∧ (t.berth p).hold = false) ∧
    (s.currentId p ≠ some id → t.berth p = s.berth p ∧ t.berthVoice p = { s.berthVoice p with pending := rest }) ∧
    ((s.currentId p ≠ some id ∨ (rest = [] ∧ (s.berth p).hold = false)) →
      t.links[p] = if (e.recs.any fun r => r.port == p && r.card) && s.linkUp p then
        s.links[p].handCard t.now { caption := e.desc.caption, language := e.desc.language, cls := e.desc.cls, action := .clear }
        else s.links[p])

/-- An END packet, or 300 ms without a packet, ends an entry: its outcomes are fixed and, in RUNNING, sent in an ACK, and its id
is closed; the gap timeout is counted as lost, its berths in service AUDIO and its pending ones MISSED. Each voice it frees serves
its pending list, the head first and each with a fresh decision, and is IDLE when the list is empty; the emergency hold ends
unless the voice then serves another EMERGENCY. Model's choice: log 2. -/
def Obligations.EndingClosesTheId : Prop :=
  ∀ (s : State),
    (∀ source d r e, s.takesFrom source = true → s.running = true → descriptorOk d = true → d.id ∉ s.voice.closed →
      s.entry? d.id = some e →
      ∃ t, exec (.announceEnd source d r) s = .next t ∧ t.now = s.now ∧ entryEnded s t d.id ∧ berthsFreed s t d.id e ∧
        t.voice.lost = s.voice.lost ∧
        queuedA s t (.ack d.id
          (totalsOf (ackItems (e.close (if r = .aborted then .cut .aborted else .audio) .missed).recs))
          (ackItems (e.close (if r = .aborted then .cut .aborted else .audio) .missed).recs))) ∧
    (∀ id e, s.entry? id = some e →
      ∃ t, exec (.entryLost id) s = .next t ∧ t.now = max s.now (e.lastPacket + ms 300) ∧ entryEnded s t id ∧
        berthsFreed s t id e ∧
        t.voice.lost = bump s.voice.lost ∧
        (s.running = true → queuedA s t (.ack id (totalsOf (ackItems (e.close .audio .missed).recs))
          (ackItems (e.close .audio .missed).recs))))

/-- An announcement that waited 20 s leaves the pending list MISSED, its SHOW card handed to an UP link; SKIP dismisses a SERVICE or
STOP announcement, whose voice then serves its pending list, is refused NOTHING at an idle voice and NOT_ALLOWED under SAFETY and EMERGENCY. Model's choices: log 2 and
9. -/
def Obligations.PendingEndsAndSkips : Prop :=
  ∀ (s : State) (p : Port),
    (∀ id x r, (s.berthVoice p).pending.find? (fun y => y.1 == id) = some x → s.record? id p = some r → r.role = .pending →
      ∃ t, exec (.pendingWaitLimit p id) s = .next t ∧ t.now = max s.now (x.2 + ms 20000) ∧
        (∀ y ∈ (t.berthVoice p).pending, y.1 ≠ id) ∧ (t.berthVoice p).serving = (s.berthVoice p).serving ∧
        t.record? id p = some { r with role := .fixed .missed, card := s.linkUp p || r.card } ∧
        (∀ e, s.entry? id = some e → t.links[p] = if s.linkUp p then
          s.links[p].handCard t.now { caption := e.desc.caption, language := e.desc.language, cls := e.desc.cls, action := .show }
          else s.links[p]) ∧
        (∀ q, q ≠ p → t.berthVoice q = s.berthVoice q ∧ t.links[q] = s.links[q]) ∧
        t = { s with now := t.now, voice := t.voice, links := t.links }) ∧
    ((s.linkRuns p && s.linkUp p) = true →
      (s.currentId p = none → ∃ t, exec (.skip p) s = .next t ∧ requestTaken s t p .skip (.refused .nothing) (fun b => b)) ∧
      (∀ id k, s.currentId p = some id → s.classOfId id = some k → (k = .safety ∨ k = .emergency) →
        ∃ t, exec (.skip p) s = .next t ∧ requestTaken s t p .skip (.refused .notAllowed) (fun b => b)) ∧
      (∀ id k, s.currentId p = some id → s.classOfId id = some k → (k = .service ∨ k = .stop) →
        (∀ x ∈ (s.berthVoice p).pending, x.1 ≠ id) →
        ∃ t, exec (.skip p) s = .next t ∧ t.currentId p ≠ some id ∧ dismissed s t p id .skip ((s.berth p).activity s.now)))

/-- The delivery decision by class, attention, headset, stop wake and profile; UNREACHABLE for a link not UP; the outcomes
of DECLINE and UNREACHABLE; the default profiles; in DND audio for EMERGENCY alone, its wake only turning the screen ON. -/
def Obligations.DeliveryDecisions : Prop :=
  (∀ (s : State) (k : AnnClass) (p : Port), s.linkUp p = false → s.decision k p = .unreachable) ∧
  (∀ (s : State) (k : AnnClass) (p : Port), s.linkUp p = true →
    let b := s.berth p
    (k = .emergency → s.decision k p = .audio true) ∧
    (k = .safety → s.decision k p =
      (if b.attention = .awake then .audio false
       else if b.attention = .resting ∧ s.profile.safetyCaption = false then .audio false else .caption)) ∧
    (k = .stop → s.decision k p =
      (if b.attention = .awake then .audio false
       else if b.attention = .resting ∧ b.stopWake = true then .audio true else .caption)) ∧
    (k = .service → s.decision k p =
      (if b.attention = .awake then (if b.headset then .audio false else .caption)
       else if b.attention = .resting ∧ s.profile.serviceDecline = false then .caption else .decline))) ∧
  (∀ (s : State) (p : Port) (e : Entry),
    s.turn p e .decline = s.fix e.desc.id p (.declined .policy) ∧ s.turn p e .unreachable = s.fix e.desc.id p (.declined .unreachable)) ∧
  (∀ (ph : Phase) (b : Berth), b.attention = .resting →
    decideFor .safety b (defaultProfile ph) = (if ph = 2 then .caption else .audio false) ∧
    decideFor .service b (defaultProfile ph) = (if ph = 2 then .decline else .caption)) ∧
  (∀ (s : State) (k : AnnClass) (p : Port) (w : Bool), (s.berth p).attention = .dnd → s.decision k p = .audio w → k = .emergency) ∧
  (∀ (b : Berth) (now : Time), b.attention = .dnd → b.wake now = { b with screen := .on })

/-! ## Seat links (chapter 8) -/

/-- Good STATUS frames count towards bring-up, a not-ready one and 100 ms of silence return the count to 0, and the third
good one brings the link UP with its STATE and SCREEN_LEVEL frames; in UP a good one renews the watch and the headset,
and plugging in wakes a RESTING berth. Model's choice: log 2. -/
def Obligations.StatusBringsTheLinkUp : Prop :=
  ∀ (s : State) (p : Port), s.linkRuns p = true →
    (s.links[p].state = .down → s.links[p].holdOff = none →
      (∀ h, s.links[p].goodCount < 2 → exec (.status p h true) s =
        .next (s.modLink p fun x => { x with goodCount := x.goodCount + 1, lastGood := some s.now })) ∧
      (∀ h, exec (.status p h false) s = .next (s.modLink p fun x => { x with goodCount := 0 })) ∧
      (∀ t0, 0 < s.links[p].goodCount → s.links[p].lastGood = some t0 → exec (.goodCountTimeout p) s =
        .next ((s.reach (t0 + ms 100)).modLink p fun x => { x with goodCount := 0 })) ∧
      (∀ h, 2 ≤ s.links[p].goodCount → ∃ t, exec (.status p h true) s = .next t ∧
        t.links[p].state = .up ∧ t.links[p].goodCount = 0 ∧ t.links[p].hold = none ∧ t.links[p].lastGood = some s.now ∧
        t.links[p].upSince = some s.now ∧
        (s.links[p].control = [] → t.links[p].holds (.state (s.snapshot p)) ∧ t.links[p].holds (.screenLevel (s.screenLevel p))) ∧
        t.berth p = { s.berth p with headset := h, reported := some (s.screenLevel p) } ∧
        (∀ q, q ≠ p → t.berth q = s.berth q ∧ t.links[q] = s.links[q]) ∧ t = { s with berths := t.berths, links := t.links })) ∧
    (s.links[p].state = .up → ∀ h, ∃ t, exec (.status p h true) s = .next t ∧
      t.links[p].lastGood = some s.now ∧ (t.berth p).headset = h ∧
      (h = true → (s.berth p).headset = false → (s.berth p).attention = .resting → (t.berth p).attention = .awake) ∧
      ((h = false ∨ (s.berth p).headset = true) → t.berth p = { s.berth p with headset := h } ∧
        t.links[p] = { s.links[p] with lastGood := some s.now }) ∧
      (h = true → (s.berth p).headset = false → (t.berth p).reported = some (t.screenLevel p) ∧
        framesHanded { s.links[p] with lastGood := some s.now } t.links[p]
          (if (s.berth p).reported = some (t.screenLevel p) then [] else [.screenLevel (t.screenLevel p)])) ∧
      (∀ q, q ≠ p → t.berth q = s.berth q ∧ t.links[q] = s.links[q]) ∧ t = { s with berths := t.berths, links := t.links })

/-- 100 ms in UP without a good STATUS takes the link DOWN, counted: queues discarded, the frame in progress left to its end
with no UNIT_RESET, the berth's headset absent and hold clear, its current announcement CUT LINK_LOST, its pending ones
DECLINED UNREACHABLE, its cards forgotten. Model's choices: log 2 and 8. -/
def Obligations.LinkLossSettlesTheBerth : Prop :=
  ∀ (s : State) (p : Port) (t0 : Time), s.links[p].state = .up → s.links[p].lastGood = some t0 →
    ∃ t, exec (.statusWatchExpiry p) s = .next t ∧ t.now = max s.now (t0 + ms 100) ∧
      t.links[p].state = .down ∧ t.links[p].goodCount = 0 ∧ t.links[p].holdOff = none ∧ t.links[p].sending = s.links[p].sending ∧
      t.links[p].resets = s.links[p].resets ∧ t.links[p].counters.linkLoss = bump s.links[p].counters.linkLoss ∧
      leftUp s t p ∧
      (∀ q, q ≠ p → t.berth q = s.berth q ∧ t.links[q] = s.links[q] ∧ t.berthVoice q = s.berthVoice q) ∧
      t = { s with now := t.now, berths := t.berths, voice := t.voice, links := t.links }

/-- HOLD sets a clear hold with its time and RESUME clears it; a hold of 50 ms faults the link, with CUT for a VIDEO frame in
progress, a UNIT_RESET next, a hold-off of 500 ms and, after two faults within 60 s, locking; its berth is settled as at a link
loss, its announcements CUT LINK_LOST and DECLINED UNREACHABLE; at the end of the hold-off the link goes to LOCKED or DOWN.
Model's choices: log 2 and 8. -/
def Obligations.HoldFaultsTheLink : Prop :=
  ∀ (s : State) (p : Port),
    ((s.linkRuns p && s.linkUp p) = true →
      (∃ t, exec (.holdFrame p) s = .next t ∧ t = { s with links := t.links } ∧
        t.links[p] = { s.links[p] with hold := some (s.links[p].hold.getD s.now) } ∧ ∀ q, q ≠ p → t.links[q] = s.links[q]) ∧
      (∃ t, exec (.resume p) s = .next t ∧ t = { s with links := t.links } ∧ t.links[p].hold = none ∧
        t.links[p].state = .up ∧ (∀ q, q ≠ p → t.links[q] = s.links[q]) ∧
        (s.links[p].sending = none → s.links[p].resets = [] → s.links[p].control = [] → s.links[p].audio = none →
          ∀ c r, s.links[p].video = c :: r → t.links[p].sending = some (.video c) ∧ t.links[p].video = r))) ∧
    (∀ t0, s.links[p].state = .up → s.links[p].hold = some t0 →
      ∃ t, exec (.linkFault p) s = .next t ∧ t.now = max s.now (t0 + ms 50) ∧ t.links[p].state = .fault ∧
        t.links[p].holdOff = some (t.now + ms 500) ∧
        t.links[p].locking = decide (2 ≤ (s.links[p].faults.filter fun f => decide (t.now < f + sec 60)).length) ∧
        t.links[p].faults.length ≤ 2 ∧ t.links[p].faults.getLast? = some t.now ∧
        t.links[p].counters.fault = bump s.links[p].counters.fault ∧
        unitResetFollows s.links[p] t.links[p] ∧
        leftUp s t p ∧
        (∀ q, q ≠ p → t.links[q] = s.links[q] ∧ t.berth q = s.berth q ∧ t.berthVoice q = s.berthVoice q) ∧
        t = { s with now := t.now, berths := t.berths, voice := t.voice, links := t.links }) ∧
    (∀ t0, s.links[p].holdOff = some t0 →
      ∃ t, exec (.holdOffEnd p) s = .next t ∧ t = { s with now := max s.now t0, links := t.links } ∧ t.links[p].holdOff = none ∧
        (s.links[p].state = .fault → t.links[p].state = (if s.links[p].locking then .locked else .down)) ∧
        (s.links[p].state = .down → t.links[p] = { s.links[p] with holdOff := none }) ∧
        (∀ q, q ≠ p → t.links[q] = s.links[q]))

/-- A card handed to a link that is UP becomes the outstanding card when there is none, its CAPTION frame joining the control
queue, or being lost to a full one, which is counted; otherwise it waits, and a fifth waiting card removes the oldest, which is
counted; a link that is not UP discards it. An acknowledgement of the outstanding card releases it, and the oldest waiting
card takes its place; any other is stray; 200 ms after its frame was sent the card is released and counted. The end of a frame records the sending time of its card
and lets the next control frame be sent. Model's choices: log 2, 8 and 23. -/
def Obligations.CaptionCardsAreAcknowledged : Prop :=
  (∀ (l : Link) (now : Time) (c : Card),
    let l' := l.handCard now c
    (l.state ≠ .up → l' = l) ∧
    (∀ o, l.state = .up → l.outstanding = some o → l' = { l with
      waiting := (l.waiting ++ [c]).drop (l.waiting.length - 3),
      counters := { l.counters with
        captionDrop := if l.waiting.length < 4 then l.counters.captionDrop else bump l.counters.captionDrop } }) ∧
    (l.state = .up → l.outstanding = none → ∃ o, l'.outstanding = some o ∧ o.card = c ∧ o.since = now ∧ l'.waiting = l.waiting ∧
      (l.control.length < 16 → o.sending = .queued ∧ l'.holds (.caption c o.serial)) ∧
      (16 ≤ l.control.length → o.sending = .lost ∧ l'.control = l.control ∧
        l'.counters = { l.counters with controlOverflow := bump l.counters.controlOverflow }))) ∧
  (∀ (s : State) (p : Port),
    let released (l l' : Link) : Prop :=
      (l.waiting = [] → l'.outstanding = none) ∧
      (∀ c r, l.waiting = c :: r → l'.waiting = r ∧ ∃ o, l'.outstanding = some o ∧ o.card = c)
    (∀ n a, (s.linkRuns p && s.linkUp p) = true →
      ∃ t, exec (.captionAck p n a) s = .next t ∧ t = { s with links := t.links } ∧ (∀ q, q ≠ p → t.links[q] = s.links[q]) ∧
        (∀ o, s.links[p].outstanding = some o → o.card.caption = n → o.card.action = a → released s.links[p] t.links[p]) ∧
        ((∀ o, s.links[p].outstanding = some o → o.card.caption ≠ n ∨ o.card.action ≠ a) →
          t.links[p] = { s.links[p] with
            counters := { s.links[p].counters with strayAck := bump s.links[p].counters.strayAck } })) ∧
    (∀ o t0, s.links[p].outstanding = some o → o.sending = .sent t0 →
      ∃ t, exec (.captionAckTimeout p) s = .next t ∧ t = { s with now := max s.now (t0 + ms 200), links := t.links } ∧
        t.links[p].counters.captionTimeout = bump s.links[p].counters.captionTimeout ∧ released s.links[p] t.links[p] ∧
        (∀ q, q ≠ p → t.links[q] = s.links[q])) ∧
    (∀ f, s.links[p].sending = some f →
      ∃ t, exec (.linkFrameSent p) s = .next t ∧ t = { s with links := t.links } ∧ (∀ q, q ≠ p → t.links[q] = s.links[q]) ∧
        (∀ g r, s.links[p].state = .up → s.links[p].resets = [] → s.links[p].control = g :: r →
          t.links[p].sending = some g ∧ t.links[p].control = r) ∧
        (∀ g r, s.links[p].resets = g :: r → t.links[p].sending = some g ∧ t.links[p].resets = r) ∧
        (∀ c o, f = .caption c o.serial → s.links[p].outstanding = some o →
          t.links[p].outstanding = some { o with sending := .sent s.now })))

/-- A frame that fails the check or is of unknown kind is counted in UP and during bring-up, where a bad check also ends the
good count; in FAULT, in LOCKED and in a hold-off it is not counted; and a LOCKED link discards every frame. -/
def Obligations.SeatFrameErrors : Prop :=
  ∀ (s : State) (p : Port) (cause : FrameError), s.linkRuns p = true →
    let counted : LinkCounters := { s.links[p].counters with receiveError := bump s.links[p].counters.receiveError }
    (s.links[p].state = .up → exec (.seatFrameError p cause) s = .next (s.modLink p fun x => { x with counters := counted })) ∧
    (s.links[p].state = .down → s.links[p].holdOff = none → exec (.seatFrameError p cause) s =
      .next (s.modLink p fun x => { x with counters := counted,
                                           goodCount := if cause = .badCheck then 0 else x.goodCount })) ∧
    ((s.links[p].state = .fault ∨ s.links[p].state = .locked ∨ (s.links[p].state = .down ∧ s.links[p].holdOff.isSome = true)) →
      exec (.seatFrameError p cause) s = .next s) ∧
    (s.links[p].state = .locked → ∀ h r n a f,
      exec (.status p h r) s = .next s ∧ exec (.request p f) s = .next s ∧ exec (.holdFrame p) s = .next s ∧
      exec (.resume p) s = .next s ∧ exec (.captionAck p n a) s = .next s)

/-! ## The panel and the Originator (chapter 5) -/

/-- A BEGIN in RUNNING with the panel enabled: a bad window is refused BAD_TARGET; a good one is accepted from IDLE, with the
next sequence, a fresh ack table, ACCEPTED and the first LEAD_IN; another class than EMERGENCY is refused BUSY while an
announcement or a collection is in progress; an EMERGENCY supersedes what is in progress, with END ABORTED for an
announcement that has not ended and the OUTCOME SUPERSEDED with its missing list, and is then accepted as from IDLE.
Model's choices: log 18 and 22. -/
def Obligations.BeginIsChecked : Prop :=
  ∀ (s : State) (cls first last stop language caption : Nat), s.running = true → s.image.panel = true →
    ((first = 0 ∨ last < first ∨ 240 < last) → exec (.beginAnn cls first last stop language caption) s =
      .next { s with orig := { s.orig with notices := s.orig.notices ++ [.refused .begin .badTarget] } }) ∧
    (∀ k, 1 ≤ first → first ≤ last → last ≤ 240 → classOf cls = some k → stop ≤ 99 → language ≤ 3 →
      let d : Descriptor := { id := { origin := s.startup.station, sequence := s.orig.sequence + 1 }, cls := k, first := first,
                              last := last, stop := stop, language := language, caption := caption }
      let accepted (t : State) (before : List Notice) : Prop :=
        t = { s with orig := t.orig, trunk := t.trunk } ∧ t.orig.state = .leadIn ∧ t.orig.sequence = s.orig.sequence + 1 ∧
        t.orig.desc = some d ∧ t.orig.accepted = s.now ∧ t.orig.leadIns = 1 ∧ t.orig.nextHold = none ∧
        t.orig.notices = s.orig.notices ++ before ++ [.accepted .begin] ∧
        t.orig.ackTable = some { id := d.id, cls := k, first := first, last := last, closed := false,
                                 expected := s.expectedSet first last, acked := [], failed := [], totals := totalsZero,
                                 windowEnd := none, result := none, missing := [] }
      (s.orig.state = .idle → ∃ t, exec (.beginAnn cls first last stop language caption) s = .next t ∧
        accepted t [] ∧ queuedA s t (.announce d .leadIn)) ∧
      (s.orig.state ≠ .idle → k ≠ .emergency → exec (.beginAnn cls first last stop language caption) s =
        .next { s with orig := { s.orig with notices := s.orig.notices ++ [.refused .begin .busy] } }) ∧
      (s.orig.state ≠ .idle → k = .emergency → ∀ a d0, s.orig.ackTable = some a → s.orig.desc = some d0 →
        ∃ t, exec (.beginAnn cls first last stop language caption) s = .next t ∧
          accepted t [.outcome a.id .superseded a.totals (a.expected.filter fun x => !a.acked.contains x)] ∧
          (s.orig.state = .collecting → queuedA s t (.announce d .leadIn)) ∧
          (s.orig.state ≠ .collecting → s.trunk.queueA.length < 7 →
            let handed := [handedBy s t (.announce d0 (.fin .aborted)), handedBy s t (.announce d .leadIn)]
            t.trunk.held.Perm (s.trunk.held ++ handed) ∧
            (s.trunk.current.isSome = true → t.trunk.queueA = s.trunk.queueA ++ handed))))

/-- The Originator ends its announcement with a reason: an END packet, COLLECTING with a window of 500 ms, or IDLE at once
when every expected station has acknowledged. -/
def announcementEnds (s t : State) (r : EndReason) (n : List Notice) : Prop :=
  ∀ d a, s.orig.desc = some d → s.orig.ackTable = some a →
    queuedA s t (.announce d (.fin r)) ∧ t = { s with now := t.now, orig := t.orig, trunk := t.trunk } ∧
    (ackCovered a = false → t.orig.state = .collecting ∧ t.orig.nextHold = none ∧ t.orig.notices = s.orig.notices ++ n ∧
      t.orig.ackTable = some { a with windowEnd := some (t.now + ms 500) }) ∧
    (ackCovered a = true → t.orig.state = .idle ∧
      t.orig.notices = s.orig.notices ++ n ++ [.outcome a.id .delivered a.totals []])

/-- Panel AUDIO in SPEECH is sent as the next block, and once the last block is sent ends the announcement NORMAL and is itself
discarded and counted; END and ABORT end the announcement in LEAD_IN and SPEECH; each is
discarded and counted in any other state; a panel frame error is counted while the panel is enabled. Model's choice: log 22. -/
def Obligations.PanelRequestsByState : Prop :=
  ∀ (s : State), s.running = true → s.image.panel = true →
    (∀ l i, s.orig.state = .speech → s.orig.nextBlock = .index i →
      ∃ t, exec (.panelAudio l) s = .next t ∧ t = { s with orig := t.orig, trunk := t.trunk } ∧
        t.orig = { s.orig with nextBlock := if i.toNat = 65535 then .spent else .index (i + 1), lastAudio := s.now,
                               nextHold := some (s.now + ms 200) } ∧
        ∀ d, s.orig.desc = some d → queuedA s t (.announce d (.speech i l))) ∧
    (∀ l, s.orig.state = .speech → s.orig.nextBlock = .spent → ∃ t, exec (.panelAudio l) s = .next t ∧ t.now = s.now ∧
      announcementEnds s t .normal [] ∧ t.orig.discard = bump s.orig.discard) ∧
    (s.orig.state = .leadIn →
      (∀ l, exec (.panelAudio l) s = .next { s with orig := { s.orig with discard := bump s.orig.discard } }) ∧
      (∃ t, exec .panelEnd s = .next t ∧ t.now = s.now ∧ announcementEnds s t .aborted [.accepted .fin]) ∧
      (∃ t, exec .abort s = .next t ∧ t.now = s.now ∧ announcementEnds s t .aborted [.accepted .abort])) ∧
    (s.orig.state = .speech →
      (∃ t, exec .panelEnd s = .next t ∧ t.now = s.now ∧ announcementEnds s t .normal [.accepted .fin]) ∧
      (∃ t, exec .abort s = .next t ∧ t.now = s.now ∧ announcementEnds s t .aborted [.accepted .abort])) ∧
    ((s.orig.state = .idle ∨ s.orig.state = .collecting) →
      let counted : State := { s with orig := { s.orig with discard := bump s.orig.discard } }
      (∀ l, exec (.panelAudio l) s = .next counted) ∧ exec .panelEnd s = .next counted ∧ exec .abort s = .next counted) ∧
    exec .panelFrameError s = .next { s with orig := { s.orig with error := bump s.orig.error } }

/-- The Originator's timers: a LEAD_IN each 10 ms up to 20; ON_AIR and SPEECH at 200 ms; a HOLD each 100 ms of silence;
PANEL_LOST after 5,000 ms; and the collection closes MISSING at its window end, naming the stations missing. Model's
choices: log 2 and 22. -/
def Obligations.OriginatorTimers : Prop :=
  ∀ (s : State) (d : Descriptor), s.orig.desc = some d →
    (s.orig.state = .leadIn → s.orig.leadIns < 20 → ∃ t, exec .leadInEvent s = .next t ∧
      t = { s with now := max s.now (s.orig.accepted + ms (10 * s.orig.leadIns)), trunk := t.trunk,
                   orig := { s.orig with leadIns := s.orig.leadIns + 1 } } ∧
      (s.running = true → queuedA s t (.announce d .leadIn))) ∧
    (s.orig.state = .leadIn → ∃ t, exec .leadInComplete s = .next t ∧
      t = { s with now := max s.now (s.orig.accepted + ms 200),
                   orig := { s.orig with state := .speech, nextBlock := .index 0, lastAudio := t.now,
                                         nextHold := some (t.now + ms 200), notices := s.orig.notices ++ [.onAir d.id] } }) ∧
    (∀ t0, s.orig.state = .speech → s.orig.nextHold = some t0 → t0 < s.orig.lastAudio + ms 5000 →
      ∃ t, exec .holdTimer s = .next t ∧
        t = { s with now := max s.now t0, trunk := t.trunk, orig := { s.orig with nextHold := some (t0 + ms 100) } } ∧
        (s.running = true → queuedA s t (.announce d .hold))) ∧
    (s.orig.state = .speech → s.running = true → ∃ t, exec .panelLost s = .next t ∧
      t.now = max s.now (s.orig.lastAudio + ms 5000) ∧ announcementEnds s t .panelLost []) ∧
    (∀ a w, s.orig.state = .collecting → s.orig.ackTable = some a → a.windowEnd = some w →
      ∃ t, exec .windowEnd s = .next t ∧ t = { s with now := max s.now w, orig := t.orig } ∧ t.orig.state = .idle ∧
        t.orig.notices = s.orig.notices ++ [.outcome a.id .missing a.totals (a.expected.filter fun x => !a.acked.contains x)])

/-- An ACK of the open table's id from a station not yet heard joins its acked set and adds its counts, and closes a
collection it completes DELIVERED; one of another id, or from a station heard already, is passed over. Model's choice:
log 22. -/
def Obligations.AcksAreCollected : Prop :=
  ∀ (s : State) (source : Nat) (id : AnnId) (items : List AckItem) (a : AckTable),
    s.takesFrom source = true → s.running = true → s.image.panel = true → items.length ≤ 12 → s.orig.ackTable = some a →
    let c := totalsOf items
    ((a.closed = true ∨ a.id ≠ id ∨ a.acked.contains source = true) → exec (.ack source id c items) s = .next (s.heard source)) ∧
    (a.closed = false → a.id = id → a.acked.contains source = false →
      ∃ t b, exec (.ack source id c items) s = .next t ∧ t = { s with trunk := t.trunk, orig := t.orig } ∧
        t.orig.ackTable = some b ∧ (∀ x, x ∈ b.acked ↔ x = source ∨ x ∈ a.acked) ∧ b.totals = totalsAdd a.totals c ∧
        (∀ x, x ∈ b.failed ↔ (x = source ∧ (0 < c.declined ∨ 0 < c.cut ∨ 0 < c.missed)) ∨ x ∈ a.failed) ∧
        (s.orig.state = .collecting → (∀ x ∈ a.expected, x = source ∨ x ∈ a.acked) →
          t.orig.state = .idle ∧ b.closed = true ∧ b.result = some .delivered ∧
          t.orig.notices = s.orig.notices ++ [.outcome id .delivered b.totals []]) ∧
        ((s.orig.state ≠ .collecting ∨ ∃ x ∈ a.expected, x ≠ source ∧ x ∉ a.acked) →
          t.orig.state = s.orig.state ∧ t.orig.notices = s.orig.notices ∧ b.closed = false))

/-- What is turned away. A passenger request at a port out of service, on a link that is not UP or in LOADING changes
nothing. With the panel disabled or in STRAP_FAULT a panel request is refused NOT_ENABLED; with the panel enabled it is
discarded in LOADING, where a panel frame error is not counted; in LISTENING with the panel enabled BEGIN and
SET_PHASE are refused BUSY; an undefined class, a stop above 99 or a language above 3 is refused BAD_ARGUMENT. Model's choices: log 10 and 22. -/
def Obligations.RequestsTurnedAway : Prop :=
  (∀ (s : State) (p : Port), (s.linkRuns p && s.linkUp p) = false → ∀ n on w,
    exec (.select p n) s = .next s ∧ exec (.volume p n) s = .next s ∧ exec (.mute p on) s = .next s ∧
    exec (.language p n) s = .next s ∧ exec (.dnd p on) s = .next s ∧ exec (.stop p n w) s = .next s ∧
    exec (.screen p on) s = .next s ∧ exec (.brightness p n) s = .next s ∧ exec (.skip p) s = .next s) ∧
  (∀ (s : State) (cls first last stop language caption ph : Nat) (l : List Sample),
    let refused (k : PanelKind) (why : PanelReason) : State :=
      { s with orig := { s.orig with notices := s.orig.notices ++ [.refused k why] } }
    (s.loading = true → exec .panelFrameError s = .next s) ∧
    (s.loading = true → s.image.panel = true → exec (.beginAnn cls first last stop language caption) s = .next s ∧
      exec (.panelAudio l) s = .next s ∧ exec .panelEnd s = .next s ∧ exec .abort s = .next s ∧ exec (.setPhase ph) s = .next s) ∧
    ((s.startup.state = .strapFault ∨ s.image.panel = false) →
      exec (.beginAnn cls first last stop language caption) s = .next (refused .begin .notEnabled) ∧
      exec (.panelAudio l) s = .next (refused .audio .notEnabled) ∧ exec .panelEnd s = .next (refused .fin .notEnabled) ∧
      exec .abort s = .next (refused .abort .notEnabled) ∧ exec (.setPhase ph) s = .next (refused .setPhase .notEnabled)) ∧
    (s.startup.state = .listening → s.image.panel = true →
      exec (.beginAnn cls first last stop language caption) s = .next (refused .begin .busy) ∧
      exec (.setPhase ph) s = .next (refused .setPhase .busy)) ∧
    (s.running = true → s.image.panel = true → 1 ≤ first → first ≤ last → last ≤ 240 →
      (classOf cls = none ∨ 99 < stop ∨ 3 < language) →
      exec (.beginAnn cls first last stop language caption) s = .next (refused .begin .badArgument)))

/-! ## Phases (chapter 7) -/

/-- What a phase change leaves at the berths (R18, R20): at an UP in-service berth a level that differs from the one reported is
handed in a SCREEN_LEVEL frame and reported, and nothing else changes; at any other the link is not touched. -/
def levelsFollow (s t : State) : Prop :=
  ∀ p : Port,
    (s.inService p = true → s.linkUp p = true → levelSent s t p []) ∧
    ((s.inService p = false ∨ s.linkUp p = false) → t.links[p] = s.links[p]) ∧
    t.berth p = { s.berth p with reported := (t.berth p).reported }

/-- A PHASE record with a phase above 3 or a setter outside 1..30 is counted and discarded; any other is adopted, and
counted, exactly when its epoch is greater, or equal with a lower setter, or both equal with another phase and heard from
the setter itself; a new level then goes to each UP berth. -/
def Obligations.PhaseRecordsAreAdopted : Prop :=
  ∀ (s : State) (source : Nat) (e : Seq) (p setter : Nat), s.takesFrom source = true →
    let own := s.phase.own
    let valid : Prop := p ≤ 3 ∧ 1 ≤ setter ∧ setter ≤ 30
    let wins : Prop := own.epoch.toNat < e.toNat ∨ (e = own.epoch ∧ setter < own.setter) ∨
      (e = own.epoch ∧ setter = own.setter ∧ p ≠ own.phase.val ∧ source = setter)
    ∃ t, exec (.phase source e p setter) s = .next t ∧
      (¬valid → t = { s with trunk := t.trunk, phase := { s.phase with phaseError := bump s.phase.phaseError } }) ∧
      (valid → wins → t.phase.own.epoch = e ∧ t.phase.own.phase.val = p ∧ t.phase.own.setter = setter ∧
        t.phase.adoption = bump s.phase.adoption ∧
        levelsFollow s t ∧
        t = { s with trunk := t.trunk, phase := t.phase, berths := t.berths, links := t.links }) ∧
      (valid → ¬wins → t = { s with trunk := t.trunk })

/-- Two PHASE records that differ in epoch or setter leave the same phase state in whichever order they are taken. -/
def Obligations.PhaseRecordsCommute : Prop :=
  ∀ (s a b ab ba : State) (r1 r2 : Nat) (e1 e2 : Seq) (p1 p2 x1 x2 : Nat),
    s.takesFrom r1 = true → s.takesFrom r2 = true → (e1 ≠ e2 ∨ x1 ≠ x2) →
    exec (.phase r1 e1 p1 x1) s = .next a → exec (.phase r2 e2 p2 x2) a = .next ab →
    exec (.phase r2 e2 p2 x2) s = .next b → exec (.phase r1 e1 p1 x1) b = .next ba →
    ab.phase.own = ba.phase.own

/-- SET_PHASE 0..3 in RUNNING with the panel enabled makes the next epoch with the own station as setter and sends its PHASE
record, the profile in force is that phase's, and a new level goes to each UP berth; a phase above 3 is refused BAD_ARGUMENT and changes
nothing; with the panel disabled it is refused NOT_ENABLED. Model's choice: log 22, for the notices as a list. -/
def Obligations.SetPhaseOriginates : Prop :=
  ∀ (s : State) (p : Nat), s.running = true →
    (s.image.panel = true → p ≤ 3 → ∃ t, exec (.setPhase p) s = .next t ∧
      t.phase.own.epoch.toNat = min 65535 (s.phase.own.epoch.toNat + 1) ∧ t.phase.own.phase.val = p ∧
      t.phase.own.setter = s.startup.station ∧ t.phase.phaseDue = some (s.now + ms 5000) ∧ t.phase.adoption = s.phase.adoption ∧
      t.orig = { s.orig with notices := s.orig.notices ++ [.accepted .setPhase] } ∧
      queuedA s t (.phase t.phase.own.epoch p s.startup.station) ∧ levelsFollow s t ∧
      t = { s with trunk := t.trunk, phase := t.phase, berths := t.berths, links := t.links, orig := t.orig } ∧
      ∀ ph : Phase, ph.val = p → t.profile = s.image.profiles[ph]) ∧
    (s.image.panel = true → 3 < p → exec (.setPhase p) s =
      .next { s with orig := { s.orig with notices := s.orig.notices ++ [.refused .setPhase .badArgument] } }) ∧
    (s.image.panel = false → exec (.setPhase p) s =
      .next { s with orig := { s.orig with notices := s.orig.notices ++ [.refused .setPhase .notEnabled] } })

/-! ## The Mixer (chapter 2) -/

/-- At a block event every tap answers one request and every entry in SPEECH plays on; every in-service berth's duck moves by
the ramp towards the profile's depth in CHIME and SPEAKING and towards 0 in IDLE, and not past it; a chime goes on at its
position or begins at 0; every UP link is handed an AUDIO frame of the berth's info word and output block, each clipped
block counted once. The info word holds the phase, the voice state, the class in service, the state of the tap after it has
answered, and mute. No berth record and no packet changes. Model's choices: log 2 and 7. -/
def Obligations.BlockEventServesEveryBerth : Prop :=
  (∀ (s : State) (t0 : Time), s.mixer.nextBlock = some t0 →
    let a : BlockAnswers := { programs := s.taps.taps.map fun x => (x.program, x.request.1.state, x.request.2),
                              blocks := s.voice.table.map fun e => (e.desc.id, e.play.2) }
    let used (p : Port) : Nat := match (s.berthVoice p).serving with
      | .chime id => if s.mixer.berths[p].chimeId = some id then s.mixer.berths[p].chimePos else 0
      | _ => 0
    ∃ t, exec .blockEvent s = .next t ∧ t.now = max s.now t0 ∧ t.mixer.nextBlock = some (t.now + ms 1) ∧
      (∀ p : Port, s.inService p = true →
        let target : Nat := if (s.berthVoice p).serving = .idle then 0 else s.profile.depth
        let old := s.mixer.berths[p].duck
        t.mixer.berths[p].duck = (if old < target then min (old + s.profile.ramp) target
          else if target < old then max (old - s.profile.ramp) target else old) ∧
        (∀ id, (s.berthVoice p).serving = .chime id →
          t.mixer.berths[p].chimeId = some id ∧ t.mixer.berths[p].chimePos = (used p + 1) % 4) ∧
        ((∀ id, (s.berthVoice p).serving ≠ .chime id) → t.mixer.berths[p].chimeId = none ∧ t.mixer.berths[p].chimePos = 0) ∧
        (let info := s.infoOf a p;
          (info.extractLsb' 14 2).toNat = s.phase.own.phase.val ∧
          (info.extractLsb' 12 2).toNat = (match (s.berthVoice p).serving with
            | .idle => 0
            | .chime _ => 1
            | .speaking _ => 2) ∧
          (info.extractLsb' 9 3).toNat = (match (s.currentId p).bind s.classOfId with
            | none => 0
            | some k => annClassCode k) ∧
          (info.extractLsb' 6 3).toNat = (if (s.berth p).program = 0 then 0
            else match (s.tap? (s.berth p).program).map fun x => x.request.1.state with
              | none => 1
              | some .waiting => 1
              | some .priming => 2
              | some .playing => 3
              | some .starved => 4) ∧
          info.getLsbD 5 = (s.berth p).mute ∧ info.extractLsb' 0 5 = 0#5) ∧
        (s.linkUp p = true →
          let f : SeatFrame := .audio (s.infoOf a p) ((s.outputBlock a p (used p) t.mixer.berths[p].duck).map fun x => x.1)
          t.links[p] = s.links[p].handAudio f ∧
          (s.links[p].sending.isSome = true → t.links[p] = { s.links[p] with
            audio := some f,
            counters := { s.links[p].counters with
              audioOverrun := if s.links[p].audio.isSome then bump s.links[p].counters.audioOverrun
                              else s.links[p].counters.audioOverrun } }) ∧
          (s.links[p].sending = none → s.links[p].resets = [] → s.links[p].control = [] → t.links[p].sending = some f))) ∧
      (∀ p : Port, s.inService p = false → t.mixer.berths[p] = s.mixer.berths[p]) ∧
      (∀ p : Port, (s.inService p = false ∨ s.linkUp p = false) → t.links[p] = s.links[p]) ∧
      t.mixer.clip = bumpBy ((allPorts.filter fun p => s.inService p && s.linkUp p &&
        (s.outputBlock a p (used p) t.mixer.berths[p].duck).any fun x => x.2).length) s.mixer.clip ∧
      t.taps = { s.taps with
        taps := s.taps.taps.map fun x => x.request.1,
        gap := bumpBy (s.taps.taps.filter fun x => x.request.2 == .missing).length s.taps.gap,
        starve := bumpBy (s.taps.taps.filter fun x => x.state == .playing && x.queue.isEmpty).length s.taps.starve } ∧
      t.voice = { s.voice with table := s.voice.table.map fun e => e.play.1 } ∧
      t = { s with now := t.now, taps := t.taps, voice := t.voice, mixer := t.mixer, links := t.links }) ∧
  (∀ x : Tap,
    (x.state ≠ .playing → x.request = (x, .none)) ∧
    (x.state = .playing → x.queue = [] → x.request = ({ x with state := .starved }, .none)) ∧
    (∀ k r, x.state = .playing → x.queue = k :: r → x.expected = some k.sequence →
      x.request = ({ x with queue := r, expected := some (k.sequence + 1) }, .block k.trim k.frames)) ∧
    (∀ k r e, x.state = .playing → x.queue = k :: r → x.expected = some e → k.sequence ≠ e →
      x.request = ({ x with expected := some (e + 1) }, .missing))) ∧
  (∀ e : Entry,
    (e.state ≠ .speech → e.play = (e, none)) ∧ (e.queue = [] → e.play = (e, none)) ∧
    (e.playout = .notStarted → e.queue.length < 3 → e.play = (e, none)) ∧
    (∀ b r, e.state = .speech → e.queue = b :: r → (3 ≤ e.queue.length ∨ ∃ n, e.playout = .started n) →
      e.play = ({ e with queue := r, playout := .started (b.index.toNat + 1) }, some b.samples)))

/-- Scaling by an attenuation: the mantissa table, the formula up to 126, silence at 127, the sample itself at 0, and every
result in the range of a sample; a full-scale sample is never silent up to 126. The program, announcement and chime
attenuations by their formulas. A duck's exact step. An output block: the program term of a berth, silent when it is muted,
has no program, has no block or is in emergency service; the announcement or chime term; and their clamped sum in 48
frames, clipped exactly where a sum lies out of range. -/
def Obligations.ScalingStaysInRange : Prop :=
  ((List.range 12).map mantissa = [32768, 30935, 29205, 27571, 26029, 24573, 23198, 21900, 20675, 19519, 18427, 17396]) ∧
  (∀ (x : Int) (a : Nat), -32768 ≤ x → x ≤ 32767 →
    -32768 ≤ scale x a ∧ scale x a ≤ 32767 ∧ scale x 0 = x ∧ scale x 127 = 0 ∧
    (a ≤ 126 → scale x a = (x * mantissa (a % 12) + 2 ^ (14 + a / 12)) / 2 ^ (15 + a / 12) ∧
      23 ≤ scale 32767 a ∧ scale (-32768) a ≤ -23)) ∧
  (∀ (v floor duck : Nat) (trim : Int), v ≤ 31 → (programAttenuation v floor duck trim : Int) =
    max 0 (min 126 (max (2 * (31 - (v : Int))) (floor : Int) - trim + (duck : Int)))) ∧
  (∀ (k : AnnClass) (v floor e : Nat), v ≤ 31 →
    announceAttenuation .emergency v floor e = e ∧
    (k ≠ .emergency → (announceAttenuation k v floor e : Int) = min 40 (max (floor : Int) (2 * (31 - (v : Int)) - 6))) ∧
    chimeAttenuation (announceAttenuation k v floor e) = min 126 (announceAttenuation k v floor e + 12) ∧
    (e ≤ 40 → announceAttenuation k v floor e ≤ 40)) ∧
  (∀ d target ramp : Nat,
    duckStep d target ramp = (if d < target then min (d + ramp) target else if target < d then max (d - ramp) target else d) ∧
    (d ≤ target → d ≤ duckStep d target ramp ∧ duckStep d target ramp ≤ target ∧ duckStep d target ramp ≤ d + ramp) ∧
    (target ≤ d → target ≤ duckStep d target ramp ∧ duckStep d target ramp ≤ d ∧ d ≤ duckStep d target ramp + ramp)) ∧
  (∀ (s : State) (a : BlockAnswers) (p : Port) (used duck : Nat),
    let b := s.berth p
    let silent : Prop := b.mute = true ∨ b.program = 0 ∨ s.inEmergency p = true
    let floor := s.profile.floor
    (silent → s.programTerm a p duck = (127, [])) ∧
    (¬silent → ∀ st trim l, a.program? b.program = some (st, .block trim l) →
      s.programTerm a p duck = (programAttenuation b.volume floor duck trim, l)) ∧
    ((∀ st trim l, a.program? b.program ≠ some (st, .block trim l)) → s.programTerm a p duck = (127, [])) ∧
    (∀ i : Nat,
      ((s.berthVoice p).serving = .idle → s.announceTerm a p used i = 0) ∧
      (∀ id k, (s.berthVoice p).serving = .chime id → s.classOfId id = some k →
        s.announceTerm a p used i = scale (s.image.chimeSample (annClassCode k - 1) ((used * 48 + i) % 64)).toInt
          (chimeAttenuation (announceAttenuation k b.volume floor s.image.emergency))) ∧
      (∀ id k l, (s.berthVoice p).serving = .speaking id → s.classOfId id = some k → a.block? id = some l →
        s.announceTerm a p used i = scale ((l[i]?).getD 0#16).toInt (announceAttenuation k b.volume floor s.image.emergency)) ∧
      (∀ id, (s.berthVoice p).serving = .speaking id → a.block? id = none → s.announceTerm a p used i = 0)) ∧
    (s.outputBlock a p used duck).length = 48 ∧
    (∀ i : Nat, i < 48 → ∃ f clipped, (s.outputBlock a p used duck)[i]? = some (f, clipped) ∧
      let ap := (s.programTerm a p duck).1
      let x := (((s.programTerm a p duck).2[i]?).getD silentFrame)
      let left := scale x.left.toInt ap + s.announceTerm a p used i
      let right := scale x.right.toInt ap + s.announceTerm a p used i
      f.left.toInt = max (-32768) (min 32767 left) ∧ f.right.toInt = max (-32768) (min 32767 right) ∧
      (clipped = true ↔ left < -32768 ∨ 32767 < left ∨ right < -32768 ∨ 32767 < right)))
end

