-- ==== Sys2Proof/Decode.lean ====
section
/-! DEFINITION. The command that a word spells: none, since spec/opcode_table.json gives no row any bits. -/

namespace Sys2Proof

/-- The command of a word. The rows of the table are events with no encoding, so every word is refused. -/
def decodeTableWord (_nbits _w : Nat) : Option Instr := none

end Sys2Proof
end

