-- ==== Sys2Proof/Laws/State.lean ====
section
/-! SUPPORT. The small lemmas of the state's updates: one for each field of State, true by definition; the reads of one
link, berth, voice, berth mix and channel after a change of one. -/

namespace Sys2Proof.Machine

variable (s : State)

/-! ## modBerth -/

@[simp] theorem State.modBerth_now (p : Port) (f : Berth → Berth) : (s.modBerth p f).now = s.now := rfl
@[simp] theorem State.modBerth_free (p : Port) (f : Berth → Berth) : (s.modBerth p f).free = s.free := rfl
@[simp] theorem State.modBerth_pending (p : Port) (f : Berth → Berth) : (s.modBerth p f).pending = s.pending := rfl
@[simp] theorem State.modBerth_startup (p : Port) (f : Berth → Berth) : (s.modBerth p f).startup = s.startup := rfl
@[simp] theorem State.modBerth_trunk (p : Port) (f : Berth → Berth) : (s.modBerth p f).trunk = s.trunk := rfl
@[simp] theorem State.modBerth_taps (p : Port) (f : Berth → Berth) : (s.modBerth p f).taps = s.taps := rfl
@[simp] theorem State.modBerth_carry (p : Port) (f : Berth → Berth) : (s.modBerth p f).carry = s.carry := rfl
@[simp] theorem State.modBerth_berths (p : Port) (f : Berth → Berth) :
    (s.modBerth p f).berths = { s.berths with records := s.berths.records.set p (f s.berths.records[p]) } := rfl
@[simp] theorem State.modBerth_phase (p : Port) (f : Berth → Berth) : (s.modBerth p f).phase = s.phase := rfl
@[simp] theorem State.modBerth_orig (p : Port) (f : Berth → Berth) : (s.modBerth p f).orig = s.orig := rfl
@[simp] theorem State.modBerth_voice (p : Port) (f : Berth → Berth) : (s.modBerth p f).voice = s.voice := rfl
@[simp] theorem State.modBerth_mixer (p : Port) (f : Berth → Berth) : (s.modBerth p f).mixer = s.mixer := rfl
@[simp] theorem State.modBerth_links (p : Port) (f : Berth → Berth) : (s.modBerth p f).links = s.links := rfl
@[simp] theorem State.modBerth_image (p : Port) (f : Berth → Berth) : (s.modBerth p f).image = s.image := rfl
@[simp] theorem State.modBerth_running (p : Port) (f : Berth → Berth) : (s.modBerth p f).running = s.running := rfl
@[simp] theorem State.modBerth_loading (p : Port) (f : Berth → Berth) : (s.modBerth p f).loading = s.loading := rfl
@[simp] theorem State.modBerth_inService (p : Port) (f : Berth → Berth) (q : Port) : (s.modBerth p f).inService q = s.inService q := rfl
@[simp] theorem State.modBerth_berthNumber (p : Port) (f : Berth → Berth) (q : Port) : (s.modBerth p f).berthNumber q = s.berthNumber q := rfl
@[simp] theorem State.modBerth_servicePorts (p : Port) (f : Berth → Berth) : (s.modBerth p f).servicePorts = s.servicePorts := rfl

/-! ## modLink -/

@[simp] theorem State.modLink_now (p : Port) (f : Link → Link) : (s.modLink p f).now = s.now := rfl
@[simp] theorem State.modLink_free (p : Port) (f : Link → Link) : (s.modLink p f).free = s.free := rfl
@[simp] theorem State.modLink_pending (p : Port) (f : Link → Link) : (s.modLink p f).pending = s.pending := rfl
@[simp] theorem State.modLink_startup (p : Port) (f : Link → Link) : (s.modLink p f).startup = s.startup := rfl
@[simp] theorem State.modLink_trunk (p : Port) (f : Link → Link) : (s.modLink p f).trunk = s.trunk := rfl
@[simp] theorem State.modLink_taps (p : Port) (f : Link → Link) : (s.modLink p f).taps = s.taps := rfl
@[simp] theorem State.modLink_carry (p : Port) (f : Link → Link) : (s.modLink p f).carry = s.carry := rfl
@[simp] theorem State.modLink_berths (p : Port) (f : Link → Link) : (s.modLink p f).berths = s.berths := rfl
@[simp] theorem State.modLink_phase (p : Port) (f : Link → Link) : (s.modLink p f).phase = s.phase := rfl
@[simp] theorem State.modLink_orig (p : Port) (f : Link → Link) : (s.modLink p f).orig = s.orig := rfl
@[simp] theorem State.modLink_voice (p : Port) (f : Link → Link) : (s.modLink p f).voice = s.voice := rfl
@[simp] theorem State.modLink_mixer (p : Port) (f : Link → Link) : (s.modLink p f).mixer = s.mixer := rfl
@[simp] theorem State.modLink_links (p : Port) (f : Link → Link) :
    (s.modLink p f).links = s.links.set p (f s.links[p]) := rfl
@[simp] theorem State.modLink_image (p : Port) (f : Link → Link) : (s.modLink p f).image = s.image := rfl
@[simp] theorem State.modLink_running (p : Port) (f : Link → Link) : (s.modLink p f).running = s.running := rfl
@[simp] theorem State.modLink_loading (p : Port) (f : Link → Link) : (s.modLink p f).loading = s.loading := rfl
@[simp] theorem State.modLink_inService (p : Port) (f : Link → Link) (q : Port) : (s.modLink p f).inService q = s.inService q := rfl
@[simp] theorem State.modLink_berthNumber (p : Port) (f : Link → Link) (q : Port) : (s.modLink p f).berthNumber q = s.berthNumber q := rfl
@[simp] theorem State.modLink_servicePorts (p : Port) (f : Link → Link) : (s.modLink p f).servicePorts = s.servicePorts := rfl

/-! ## modVoice -/

@[simp] theorem State.modVoice_now (p : Port) (f : Voice → Voice) : (s.modVoice p f).now = s.now := rfl
@[simp] theorem State.modVoice_free (p : Port) (f : Voice → Voice) : (s.modVoice p f).free = s.free := rfl
@[simp] theorem State.modVoice_pending (p : Port) (f : Voice → Voice) : (s.modVoice p f).pending = s.pending := rfl
@[simp] theorem State.modVoice_startup (p : Port) (f : Voice → Voice) : (s.modVoice p f).startup = s.startup := rfl
@[simp] theorem State.modVoice_trunk (p : Port) (f : Voice → Voice) : (s.modVoice p f).trunk = s.trunk := rfl
@[simp] theorem State.modVoice_taps (p : Port) (f : Voice → Voice) : (s.modVoice p f).taps = s.taps := rfl
@[simp] theorem State.modVoice_carry (p : Port) (f : Voice → Voice) : (s.modVoice p f).carry = s.carry := rfl
@[simp] theorem State.modVoice_berths (p : Port) (f : Voice → Voice) : (s.modVoice p f).berths = s.berths := rfl
@[simp] theorem State.modVoice_phase (p : Port) (f : Voice → Voice) : (s.modVoice p f).phase = s.phase := rfl
@[simp] theorem State.modVoice_orig (p : Port) (f : Voice → Voice) : (s.modVoice p f).orig = s.orig := rfl
@[simp] theorem State.modVoice_voice (p : Port) (f : Voice → Voice) :
    (s.modVoice p f).voice = { s.voice with voices := s.voice.voices.set p (f s.voice.voices[p]) } := rfl
@[simp] theorem State.modVoice_mixer (p : Port) (f : Voice → Voice) : (s.modVoice p f).mixer = s.mixer := rfl
@[simp] theorem State.modVoice_links (p : Port) (f : Voice → Voice) : (s.modVoice p f).links = s.links := rfl
@[simp] theorem State.modVoice_image (p : Port) (f : Voice → Voice) : (s.modVoice p f).image = s.image := rfl
@[simp] theorem State.modVoice_running (p : Port) (f : Voice → Voice) : (s.modVoice p f).running = s.running := rfl
@[simp] theorem State.modVoice_loading (p : Port) (f : Voice → Voice) : (s.modVoice p f).loading = s.loading := rfl
@[simp] theorem State.modVoice_inService (p : Port) (f : Voice → Voice) (q : Port) : (s.modVoice p f).inService q = s.inService q := rfl
@[simp] theorem State.modVoice_berthNumber (p : Port) (f : Voice → Voice) (q : Port) : (s.modVoice p f).berthNumber q = s.berthNumber q := rfl
@[simp] theorem State.modVoice_servicePorts (p : Port) (f : Voice → Voice) : (s.modVoice p f).servicePorts = s.servicePorts := rfl

/-! ## modMix -/

@[simp] theorem State.modMix_now (p : Port) (f : Mix → Mix) : (s.modMix p f).now = s.now := rfl
@[simp] theorem State.modMix_free (p : Port) (f : Mix → Mix) : (s.modMix p f).free = s.free := rfl
@[simp] theorem State.modMix_pending (p : Port) (f : Mix → Mix) : (s.modMix p f).pending = s.pending := rfl
@[simp] theorem State.modMix_startup (p : Port) (f : Mix → Mix) : (s.modMix p f).startup = s.startup := rfl
@[simp] theorem State.modMix_trunk (p : Port) (f : Mix → Mix) : (s.modMix p f).trunk = s.trunk := rfl
@[simp] theorem State.modMix_taps (p : Port) (f : Mix → Mix) : (s.modMix p f).taps = s.taps := rfl
@[simp] theorem State.modMix_carry (p : Port) (f : Mix → Mix) : (s.modMix p f).carry = s.carry := rfl
@[simp] theorem State.modMix_berths (p : Port) (f : Mix → Mix) : (s.modMix p f).berths = s.berths := rfl
@[simp] theorem State.modMix_phase (p : Port) (f : Mix → Mix) : (s.modMix p f).phase = s.phase := rfl
@[simp] theorem State.modMix_orig (p : Port) (f : Mix → Mix) : (s.modMix p f).orig = s.orig := rfl
@[simp] theorem State.modMix_voice (p : Port) (f : Mix → Mix) : (s.modMix p f).voice = s.voice := rfl
@[simp] theorem State.modMix_mixer (p : Port) (f : Mix → Mix) :
    (s.modMix p f).mixer = { s.mixer with berths := s.mixer.berths.set p (f s.mixer.berths[p]) } := rfl
@[simp] theorem State.modMix_links (p : Port) (f : Mix → Mix) : (s.modMix p f).links = s.links := rfl
@[simp] theorem State.modMix_image (p : Port) (f : Mix → Mix) : (s.modMix p f).image = s.image := rfl
@[simp] theorem State.modMix_running (p : Port) (f : Mix → Mix) : (s.modMix p f).running = s.running := rfl
@[simp] theorem State.modMix_loading (p : Port) (f : Mix → Mix) : (s.modMix p f).loading = s.loading := rfl
@[simp] theorem State.modMix_inService (p : Port) (f : Mix → Mix) (q : Port) : (s.modMix p f).inService q = s.inService q := rfl
@[simp] theorem State.modMix_berthNumber (p : Port) (f : Mix → Mix) (q : Port) : (s.modMix p f).berthNumber q = s.berthNumber q := rfl
@[simp] theorem State.modMix_servicePorts (p : Port) (f : Mix → Mix) : (s.modMix p f).servicePorts = s.servicePorts := rfl

/-! ## modChan -/

@[simp] theorem State.modChan_now (c : Chan) (f : Channel → Channel) : (s.modChan c f).now = s.now := rfl
@[simp] theorem State.modChan_free (c : Chan) (f : Channel → Channel) : (s.modChan c f).free = s.free := rfl
@[simp] theorem State.modChan_pending (c : Chan) (f : Channel → Channel) : (s.modChan c f).pending = s.pending := rfl
@[simp] theorem State.modChan_startup (c : Chan) (f : Channel → Channel) : (s.modChan c f).startup = s.startup := rfl
@[simp] theorem State.modChan_trunk (c : Chan) (f : Channel → Channel) : (s.modChan c f).trunk = s.trunk := rfl
@[simp] theorem State.modChan_taps (c : Chan) (f : Channel → Channel) : (s.modChan c f).taps = s.taps := rfl
@[simp] theorem State.modChan_carry (c : Chan) (f : Channel → Channel) :
    (s.modChan c f).carry = { s.carry with channels := s.carry.channels.set c (f s.carry.channels[c]) } := rfl
@[simp] theorem State.modChan_berths (c : Chan) (f : Channel → Channel) : (s.modChan c f).berths = s.berths := rfl
@[simp] theorem State.modChan_phase (c : Chan) (f : Channel → Channel) : (s.modChan c f).phase = s.phase := rfl
@[simp] theorem State.modChan_orig (c : Chan) (f : Channel → Channel) : (s.modChan c f).orig = s.orig := rfl
@[simp] theorem State.modChan_voice (c : Chan) (f : Channel → Channel) : (s.modChan c f).voice = s.voice := rfl
@[simp] theorem State.modChan_mixer (c : Chan) (f : Channel → Channel) : (s.modChan c f).mixer = s.mixer := rfl
@[simp] theorem State.modChan_links (c : Chan) (f : Channel → Channel) : (s.modChan c f).links = s.links := rfl
@[simp] theorem State.modChan_image (c : Chan) (f : Channel → Channel) : (s.modChan c f).image = s.image := rfl
@[simp] theorem State.modChan_running (c : Chan) (f : Channel → Channel) : (s.modChan c f).running = s.running := rfl
@[simp] theorem State.modChan_loading (c : Chan) (f : Channel → Channel) : (s.modChan c f).loading = s.loading := rfl
@[simp] theorem State.modChan_inService (c : Chan) (f : Channel → Channel) (q : Port) : (s.modChan c f).inService q = s.inService q := rfl
@[simp] theorem State.modChan_berthNumber (c : Chan) (f : Channel → Channel) (q : Port) : (s.modChan c f).berthNumber q = s.berthNumber q := rfl
@[simp] theorem State.modChan_servicePorts (c : Chan) (f : Channel → Channel) : (s.modChan c f).servicePorts = s.servicePorts := rfl

/-! ## modTrunk -/

@[simp] theorem State.modTrunk_now (f : Trunk → Trunk) : (s.modTrunk f).now = s.now := rfl
@[simp] theorem State.modTrunk_free (f : Trunk → Trunk) : (s.modTrunk f).free = s.free := rfl
@[simp] theorem State.modTrunk_pending (f : Trunk → Trunk) : (s.modTrunk f).pending = s.pending := rfl
@[simp] theorem State.modTrunk_startup (f : Trunk → Trunk) : (s.modTrunk f).startup = s.startup := rfl
@[simp] theorem State.modTrunk_trunk (f : Trunk → Trunk) : (s.modTrunk f).trunk = f s.trunk := rfl
@[simp] theorem State.modTrunk_taps (f : Trunk → Trunk) : (s.modTrunk f).taps = s.taps := rfl
@[simp] theorem State.modTrunk_carry (f : Trunk → Trunk) : (s.modTrunk f).carry = s.carry := rfl
@[simp] theorem State.modTrunk_berths (f : Trunk → Trunk) : (s.modTrunk f).berths = s.berths := rfl
@[simp] theorem State.modTrunk_phase (f : Trunk → Trunk) : (s.modTrunk f).phase = s.phase := rfl
@[simp] theorem State.modTrunk_orig (f : Trunk → Trunk) : (s.modTrunk f).orig = s.orig := rfl
@[simp] theorem State.modTrunk_voice (f : Trunk → Trunk) : (s.modTrunk f).voice = s.voice := rfl
@[simp] theorem State.modTrunk_mixer (f : Trunk → Trunk) : (s.modTrunk f).mixer = s.mixer := rfl
@[simp] theorem State.modTrunk_links (f : Trunk → Trunk) : (s.modTrunk f).links = s.links := rfl
@[simp] theorem State.modTrunk_image (f : Trunk → Trunk) : (s.modTrunk f).image = s.image := rfl
@[simp] theorem State.modTrunk_running (f : Trunk → Trunk) : (s.modTrunk f).running = s.running := rfl
@[simp] theorem State.modTrunk_loading (f : Trunk → Trunk) : (s.modTrunk f).loading = s.loading := rfl
@[simp] theorem State.modTrunk_inService (f : Trunk → Trunk) (q : Port) : (s.modTrunk f).inService q = s.inService q := rfl
@[simp] theorem State.modTrunk_berthNumber (f : Trunk → Trunk) (q : Port) : (s.modTrunk f).berthNumber q = s.berthNumber q := rfl
@[simp] theorem State.modTrunk_servicePorts (f : Trunk → Trunk) : (s.modTrunk f).servicePorts = s.servicePorts := rfl

/-! ## modTaps -/

@[simp] theorem State.modTaps_now (f : TapCtl → TapCtl) : (s.modTaps f).now = s.now := rfl
@[simp] theorem State.modTaps_free (f : TapCtl → TapCtl) : (s.modTaps f).free = s.free := rfl
@[simp] theorem State.modTaps_pending (f : TapCtl → TapCtl) : (s.modTaps f).pending = s.pending := rfl
@[simp] theorem State.modTaps_startup (f : TapCtl → TapCtl) : (s.modTaps f).startup = s.startup := rfl
@[simp] theorem State.modTaps_trunk (f : TapCtl → TapCtl) : (s.modTaps f).trunk = s.trunk := rfl
@[simp] theorem State.modTaps_taps (f : TapCtl → TapCtl) : (s.modTaps f).taps = f s.taps := rfl
@[simp] theorem State.modTaps_carry (f : TapCtl → TapCtl) : (s.modTaps f).carry = s.carry := rfl
@[simp] theorem State.modTaps_berths (f : TapCtl → TapCtl) : (s.modTaps f).berths = s.berths := rfl
@[simp] theorem State.modTaps_phase (f : TapCtl → TapCtl) : (s.modTaps f).phase = s.phase := rfl
@[simp] theorem State.modTaps_orig (f : TapCtl → TapCtl) : (s.modTaps f).orig = s.orig := rfl
@[simp] theorem State.modTaps_voice (f : TapCtl → TapCtl) : (s.modTaps f).voice = s.voice := rfl
@[simp] theorem State.modTaps_mixer (f : TapCtl → TapCtl) : (s.modTaps f).mixer = s.mixer := rfl
@[simp] theorem State.modTaps_links (f : TapCtl → TapCtl) : (s.modTaps f).links = s.links := rfl
@[simp] theorem State.modTaps_image (f : TapCtl → TapCtl) : (s.modTaps f).image = s.image := rfl
@[simp] theorem State.modTaps_running (f : TapCtl → TapCtl) : (s.modTaps f).running = s.running := rfl
@[simp] theorem State.modTaps_loading (f : TapCtl → TapCtl) : (s.modTaps f).loading = s.loading := rfl
@[simp] theorem State.modTaps_inService (f : TapCtl → TapCtl) (q : Port) : (s.modTaps f).inService q = s.inService q := rfl
@[simp] theorem State.modTaps_berthNumber (f : TapCtl → TapCtl) (q : Port) : (s.modTaps f).berthNumber q = s.berthNumber q := rfl
@[simp] theorem State.modTaps_servicePorts (f : TapCtl → TapCtl) : (s.modTaps f).servicePorts = s.servicePorts := rfl

/-! ## modOrig -/

@[simp] theorem State.modOrig_now (f : Originator → Originator) : (s.modOrig f).now = s.now := rfl
@[simp] theorem State.modOrig_free (f : Originator → Originator) : (s.modOrig f).free = s.free := rfl
@[simp] theorem State.modOrig_pending (f : Originator → Originator) : (s.modOrig f).pending = s.pending := rfl
@[simp] theorem State.modOrig_startup (f : Originator → Originator) : (s.modOrig f).startup = s.startup := rfl
@[simp] theorem State.modOrig_trunk (f : Originator → Originator) : (s.modOrig f).trunk = s.trunk := rfl
@[simp] theorem State.modOrig_taps (f : Originator → Originator) : (s.modOrig f).taps = s.taps := rfl
@[simp] theorem State.modOrig_carry (f : Originator → Originator) : (s.modOrig f).carry = s.carry := rfl
@[simp] theorem State.modOrig_berths (f : Originator → Originator) : (s.modOrig f).berths = s.berths := rfl
@[simp] theorem State.modOrig_phase (f : Originator → Originator) : (s.modOrig f).phase = s.phase := rfl
@[simp] theorem State.modOrig_orig (f : Originator → Originator) : (s.modOrig f).orig = f s.orig := rfl
@[simp] theorem State.modOrig_voice (f : Originator → Originator) : (s.modOrig f).voice = s.voice := rfl
@[simp] theorem State.modOrig_mixer (f : Originator → Originator) : (s.modOrig f).mixer = s.mixer := rfl
@[simp] theorem State.modOrig_links (f : Originator → Originator) : (s.modOrig f).links = s.links := rfl
@[simp] theorem State.modOrig_image (f : Originator → Originator) : (s.modOrig f).image = s.image := rfl
@[simp] theorem State.modOrig_running (f : Originator → Originator) : (s.modOrig f).running = s.running := rfl
@[simp] theorem State.modOrig_loading (f : Originator → Originator) : (s.modOrig f).loading = s.loading := rfl
@[simp] theorem State.modOrig_inService (f : Originator → Originator) (q : Port) : (s.modOrig f).inService q = s.inService q := rfl
@[simp] theorem State.modOrig_berthNumber (f : Originator → Originator) (q : Port) : (s.modOrig f).berthNumber q = s.berthNumber q := rfl
@[simp] theorem State.modOrig_servicePorts (f : Originator → Originator) : (s.modOrig f).servicePorts = s.servicePorts := rfl

/-! ## modEntry -/

@[simp] theorem State.modEntry_now (id : AnnId) (f : Entry → Entry) : (s.modEntry id f).now = s.now := rfl
@[simp] theorem State.modEntry_free (id : AnnId) (f : Entry → Entry) : (s.modEntry id f).free = s.free := rfl
@[simp] theorem State.modEntry_pending (id : AnnId) (f : Entry → Entry) : (s.modEntry id f).pending = s.pending := rfl
@[simp] theorem State.modEntry_startup (id : AnnId) (f : Entry → Entry) : (s.modEntry id f).startup = s.startup := rfl
@[simp] theorem State.modEntry_trunk (id : AnnId) (f : Entry → Entry) : (s.modEntry id f).trunk = s.trunk := rfl
@[simp] theorem State.modEntry_taps (id : AnnId) (f : Entry → Entry) : (s.modEntry id f).taps = s.taps := rfl
@[simp] theorem State.modEntry_carry (id : AnnId) (f : Entry → Entry) : (s.modEntry id f).carry = s.carry := rfl
@[simp] theorem State.modEntry_berths (id : AnnId) (f : Entry → Entry) : (s.modEntry id f).berths = s.berths := rfl
@[simp] theorem State.modEntry_phase (id : AnnId) (f : Entry → Entry) : (s.modEntry id f).phase = s.phase := rfl
@[simp] theorem State.modEntry_orig (id : AnnId) (f : Entry → Entry) : (s.modEntry id f).orig = s.orig := rfl
@[simp] theorem State.modEntry_voice (id : AnnId) (f : Entry → Entry) :
    (s.modEntry id f).voice = { s.voice with table := s.voice.table.map fun e => if e.desc.id = id then f e else e } := rfl
@[simp] theorem State.modEntry_mixer (id : AnnId) (f : Entry → Entry) : (s.modEntry id f).mixer = s.mixer := rfl
@[simp] theorem State.modEntry_links (id : AnnId) (f : Entry → Entry) : (s.modEntry id f).links = s.links := rfl
@[simp] theorem State.modEntry_image (id : AnnId) (f : Entry → Entry) : (s.modEntry id f).image = s.image := rfl
@[simp] theorem State.modEntry_running (id : AnnId) (f : Entry → Entry) : (s.modEntry id f).running = s.running := rfl
@[simp] theorem State.modEntry_loading (id : AnnId) (f : Entry → Entry) : (s.modEntry id f).loading = s.loading := rfl
@[simp] theorem State.modEntry_inService (id : AnnId) (f : Entry → Entry) (q : Port) : (s.modEntry id f).inService q = s.inService q := rfl
@[simp] theorem State.modEntry_berthNumber (id : AnnId) (f : Entry → Entry) (q : Port) : (s.modEntry id f).berthNumber q = s.berthNumber q := rfl
@[simp] theorem State.modEntry_servicePorts (id : AnnId) (f : Entry → Entry) : (s.modEntry id f).servicePorts = s.servicePorts := rfl

/-! ## notify -/

@[simp] theorem State.notify_now (n : Notice) : (s.notify n).now = s.now := rfl
@[simp] theorem State.notify_free (n : Notice) : (s.notify n).free = s.free := rfl
@[simp] theorem State.notify_pending (n : Notice) : (s.notify n).pending = s.pending := rfl
@[simp] theorem State.notify_startup (n : Notice) : (s.notify n).startup = s.startup := rfl
@[simp] theorem State.notify_trunk (n : Notice) : (s.notify n).trunk = s.trunk := rfl
@[simp] theorem State.notify_taps (n : Notice) : (s.notify n).taps = s.taps := rfl
@[simp] theorem State.notify_carry (n : Notice) : (s.notify n).carry = s.carry := rfl
@[simp] theorem State.notify_berths (n : Notice) : (s.notify n).berths = s.berths := rfl
@[simp] theorem State.notify_phase (n : Notice) : (s.notify n).phase = s.phase := rfl
@[simp] theorem State.notify_orig (n : Notice) :
    (s.notify n).orig = { s.orig with notices := s.orig.notices ++ [n] } := rfl
@[simp] theorem State.notify_voice (n : Notice) : (s.notify n).voice = s.voice := rfl
@[simp] theorem State.notify_mixer (n : Notice) : (s.notify n).mixer = s.mixer := rfl
@[simp] theorem State.notify_links (n : Notice) : (s.notify n).links = s.links := rfl
@[simp] theorem State.notify_image (n : Notice) : (s.notify n).image = s.image := rfl
@[simp] theorem State.notify_running (n : Notice) : (s.notify n).running = s.running := rfl
@[simp] theorem State.notify_loading (n : Notice) : (s.notify n).loading = s.loading := rfl
@[simp] theorem State.notify_inService (n : Notice) (q : Port) : (s.notify n).inService q = s.inService q := rfl
@[simp] theorem State.notify_berthNumber (n : Notice) (q : Port) : (s.notify n).berthNumber q = s.berthNumber q := rfl
@[simp] theorem State.notify_servicePorts (n : Notice) : (s.notify n).servicePorts = s.servicePorts := rfl

/-! ## reach -/

@[simp] theorem State.reach_now (t : Time) : (s.reach t).now = max s.now t := rfl
@[simp] theorem State.reach_free (t : Time) : (s.reach t).free = s.free := rfl
@[simp] theorem State.reach_pending (t : Time) : (s.reach t).pending = s.pending := rfl
@[simp] theorem State.reach_startup (t : Time) : (s.reach t).startup = s.startup := rfl
@[simp] theorem State.reach_trunk (t : Time) : (s.reach t).trunk = s.trunk := rfl
@[simp] theorem State.reach_taps (t : Time) : (s.reach t).taps = s.taps := rfl
@[simp] theorem State.reach_carry (t : Time) : (s.reach t).carry = s.carry := rfl
@[simp] theorem State.reach_berths (t : Time) : (s.reach t).berths = s.berths := rfl
@[simp] theorem State.reach_phase (t : Time) : (s.reach t).phase = s.phase := rfl
@[simp] theorem State.reach_orig (t : Time) : (s.reach t).orig = s.orig := rfl
@[simp] theorem State.reach_voice (t : Time) : (s.reach t).voice = s.voice := rfl
@[simp] theorem State.reach_mixer (t : Time) : (s.reach t).mixer = s.mixer := rfl
@[simp] theorem State.reach_links (t : Time) : (s.reach t).links = s.links := rfl
@[simp] theorem State.reach_image (t : Time) : (s.reach t).image = s.image := rfl
@[simp] theorem State.reach_running (t : Time) : (s.reach t).running = s.running := rfl
@[simp] theorem State.reach_loading (t : Time) : (s.reach t).loading = s.loading := rfl
@[simp] theorem State.reach_inService (t : Time) (q : Port) : (s.reach t).inService q = s.inService q := rfl
@[simp] theorem State.reach_berthNumber (t : Time) (q : Port) : (s.reach t).berthNumber q = s.berthNumber q := rfl
@[simp] theorem State.reach_servicePorts (t : Time) : (s.reach t).servicePorts = s.servicePorts := rfl

/-! ## useFree -/

@[simp] theorem State.useFree_now (n : Nat) : (s.useFree n).now = s.now := rfl
@[simp] theorem State.useFree_free (n : Nat) : (s.useFree n).free = s.free + n := rfl
@[simp] theorem State.useFree_pending (n : Nat) : (s.useFree n).pending = s.pending := rfl
@[simp] theorem State.useFree_startup (n : Nat) : (s.useFree n).startup = s.startup := rfl
@[simp] theorem State.useFree_trunk (n : Nat) : (s.useFree n).trunk = s.trunk := rfl
@[simp] theorem State.useFree_taps (n : Nat) : (s.useFree n).taps = s.taps := rfl
@[simp] theorem State.useFree_carry (n : Nat) : (s.useFree n).carry = s.carry := rfl
@[simp] theorem State.useFree_berths (n : Nat) : (s.useFree n).berths = s.berths := rfl
@[simp] theorem State.useFree_phase (n : Nat) : (s.useFree n).phase = s.phase := rfl
@[simp] theorem State.useFree_orig (n : Nat) : (s.useFree n).orig = s.orig := rfl
@[simp] theorem State.useFree_voice (n : Nat) : (s.useFree n).voice = s.voice := rfl
@[simp] theorem State.useFree_mixer (n : Nat) : (s.useFree n).mixer = s.mixer := rfl
@[simp] theorem State.useFree_links (n : Nat) : (s.useFree n).links = s.links := rfl
@[simp] theorem State.useFree_image (n : Nat) : (s.useFree n).image = s.image := rfl
@[simp] theorem State.useFree_running (n : Nat) : (s.useFree n).running = s.running := rfl
@[simp] theorem State.useFree_loading (n : Nat) : (s.useFree n).loading = s.loading := rfl
@[simp] theorem State.useFree_inService (n : Nat) (q : Port) : (s.useFree n).inService q = s.inService q := rfl
@[simp] theorem State.useFree_berthNumber (n : Nat) (q : Port) : (s.useFree n).berthNumber q = s.berthNumber q := rfl
@[simp] theorem State.useFree_servicePorts (n : Nat) : (s.useFree n).servicePorts = s.servicePorts := rfl

/-! ## One member after a change of one -/

/-- The link of a port after a change of one link. -/
theorem State.modLink_get (p q : Port) (f : Link → Link) :
    (s.modLink p f).links[q] = if q = p then f s.links[p] else s.links[q] := by
  simp only [State.modLink_links, Fin.getElem_fin, Vector.getElem_set, Fin.ext_iff, eq_comm (a := p.val)]

/-- The changed link. -/
@[simp] theorem State.modLink_self (p : Port) (f : Link → Link) : (s.modLink p f).links[p] = f s.links[p] := by
  simp

/-- Another port's link. -/
theorem State.modLink_other {p q : Port} (h : q ≠ p) (f : Link → Link) : (s.modLink p f).links[q] = s.links[q] := by
  rw [State.modLink_get, if_neg h]

/-- The berth record of a port after a change of one. -/
theorem State.modBerth_get (p q : Port) (f : Berth → Berth) :
    (s.modBerth p f).berth q = if q = p then f (s.berth p) else s.berth q := by
  simp only [State.berth, State.modBerth_berths, Fin.getElem_fin, Vector.getElem_set, Fin.ext_iff, eq_comm (a := p.val)]

/-- The changed berth record. -/
@[simp] theorem State.modBerth_self (p : Port) (f : Berth → Berth) : (s.modBerth p f).berth p = f (s.berth p) := by
  simp [State.modBerth_get]

/-- Another port's berth record. -/
theorem State.modBerth_other {p q : Port} (h : q ≠ p) (f : Berth → Berth) : (s.modBerth p f).berth q = s.berth q := by
  rw [State.modBerth_get, if_neg h]

/-- A berth record does not depend on a link. -/
@[simp] theorem State.modLink_berth (p q : Port) (f : Link → Link) : (s.modLink p f).berth q = s.berth q := rfl

/-- The voice of a port after a change of one. -/
theorem State.modVoice_get (p q : Port) (f : Voice → Voice) :
    (s.modVoice p f).berthVoice q = if q = p then f (s.berthVoice p) else s.berthVoice q := by
  simp only [State.berthVoice, State.modVoice_voice, Fin.getElem_fin, Vector.getElem_set, Fin.ext_iff, eq_comm (a := p.val)]

/-- The changed voice. -/
@[simp] theorem State.modVoice_self (p : Port) (f : Voice → Voice) : (s.modVoice p f).berthVoice p = f (s.berthVoice p) := by
  simp [State.modVoice_get]

/-- The channel after a change of one. -/
theorem State.modChan_get (c d : Chan) (f : Channel → Channel) :
    (s.modChan c f).chan d = if d = c then f (s.chan c) else s.chan d := by
  simp only [State.chan, State.modChan_carry, Fin.getElem_fin, Vector.getElem_set, Fin.ext_iff, eq_comm (a := c.val)]

/-- The changed channel. -/
@[simp] theorem State.modChan_self (c : Chan) (f : Channel → Channel) : (s.modChan c f).chan c = f (s.chan c) := by
  simp [State.modChan_get]

/-- The Mixer's state of a port after a change of one. -/
theorem State.modMix_get (p q : Port) (f : Mix → Mix) :
    (s.modMix p f).mixer.berths[q] = if q = p then f s.mixer.berths[p] else s.mixer.berths[q] := by
  simp only [State.modMix_mixer, Fin.getElem_fin, Vector.getElem_set, Fin.ext_iff, eq_comm (a := p.val)]

end Sys2Proof.Machine
end

