-- ==== Sys2Proof/Laws/Ops.lean ====
section
/-! SUPPORT. What the named operations can do, each said once: counters, queues, lists, free choices, the hand-over to the
trunk, a seat link's transmitter. -/

namespace Sys2Proof.Machine

/-! ## Lists -/

/-- A bounded queue never exceeds its capacity. -/
theorem pushDropOldest_length_le {α : Type} {cap : Nat} (hc : 0 < cap) (q : List α) (x : α) :
    (pushDropOldest cap q x).1.length ≤ cap := by
  unfold pushDropOldest
  split
  · simp; omega
  · simp; omega

/-- The new member is in the queue. -/
theorem mem_pushDropOldest {α : Type} (cap : Nat) (q : List α) (x : α) : x ∈ (pushDropOldest cap q x).1 := by
  unfold pushDropOldest
  split <;> simp

/-- Insertion adds one member. -/
theorem insertBefore_perm {α : Type} (b : α → α → Bool) (x : α) (l : List α) : (insertBefore b x l).Perm (x :: l) := by
  induction l with
  | nil => exact .refl _
  | cons y ys ih =>
    simp only [insertBefore]
    split
    · exact .refl _
    · exact (ih.cons y).trans (.swap x y ys)

/-- The members of a list after an insertion. -/
@[simp] theorem mem_insertBefore {α : Type} (b : α → α → Bool) (x y : α) (l : List α) :
    y ∈ insertBefore b x l ↔ y = x ∨ y ∈ l := by
  rw [(insertBefore_perm b x l).mem_iff, List.mem_cons]

/-- The length after an insertion. -/
@[simp] theorem insertBefore_length {α : Type} (b : α → α → Bool) (x : α) (l : List α) :
    (insertBefore b x l).length = l.length + 1 := (insertBefore_perm b x l).length_eq

/-- A search in a list after an insertion, where the inserted member is the only one found. -/
theorem find_insertBefore_self {α : Type} (b : α → α → Bool) (f : α → Bool) (x : α) (l : List α) (hx : f x = true)
    (hl : ∀ y ∈ l, f y = false) : (insertBefore b x l).find? f = some x := by
  induction l with
  | nil => simp [insertBefore, hx]
  | cons y ys ih =>
    simp only [insertBefore]
    split
    · simp [hx]
    · rw [List.find?_cons, hl y (by simp)]
      exact ih fun z hz => hl z (by simp [hz])

/-- A search in a list after an insertion of a member that is not sought. -/
theorem find_insertBefore_other {α : Type} (b : α → α → Bool) (f : α → Bool) (x : α) (l : List α) (hx : f x = false) :
    (insertBefore b x l).find? f = l.find? f := by
  induction l with
  | nil => simp [insertBefore, hx]
  | cons y ys ih =>
    simp only [insertBefore]
    split
    · simp [hx]
    · simp only [List.find?_cons, ih]

/-- Sorting keeps the members. -/
theorem sortBy_perm {α : Type} (b : α → α → Bool) (l : List α) : (sortBy b l).Perm l := by
  induction l with
  | nil => exact .refl _
  | cons x xs ih => exact (insertBefore_perm b x (sortBy b xs)).trans (ih.cons x)

/-- An insertion keeps a sorted list sorted. -/
theorem insertBefore_pairwise {α : Type} (b : α → α → Bool) (trans : ∀ x y z, b x y = true → b y z = true → b x z = true)
    (x : α) (l : List α) (h : l.Pairwise fun y z => b y z = true) (total : ∀ y ∈ l, b x y = true ∨ b y x = true) :
    (insertBefore b x l).Pairwise fun y z => b y z = true := by
  induction l with
  | nil => simp [insertBefore]
  | cons y ys ih =>
    rw [List.pairwise_cons] at h
    unfold insertBefore
    split
    · rename_i hxy
      refine List.pairwise_cons.mpr ⟨fun z hz => ?_, List.pairwise_cons.mpr h⟩
      rcases List.mem_cons.mp hz with rfl | hz
      · exact hxy
      · exact trans x y z hxy (h.1 z hz)
    · rename_i hxy
      refine List.pairwise_cons.mpr ⟨fun z hz => ?_, ih h.2 fun z hz => total z (List.mem_cons_of_mem _ hz)⟩
      rcases (mem_insertBefore b x z ys).mp hz with rfl | hz
      · exact (total y List.mem_cons_self).resolve_left hxy
      · exact h.1 z hz

/-- What sorting answers is sorted, where any two members are ordered. -/
theorem sortBy_pairwise {α : Type} (b : α → α → Bool) (trans : ∀ x y z, b x y = true → b y z = true → b x z = true)
    (l : List α) (total : l.Pairwise fun x y => b x y = true ∨ b y x = true) :
    (sortBy b l).Pairwise fun y z => b y z = true := by
  induction l with
  | nil => simp [sortBy]
  | cons x xs ih =>
    rw [List.pairwise_cons] at total
    exact insertBefore_pairwise b trans x _ (ih total.2) fun y hy => total.1 y ((sortBy_perm b xs).mem_iff.mp hy)

/-- Whether a member of a list stands among the first n in order: whether fewer than n go before it. -/
theorem mem_take_sortBy {α : Type} (b : α → α → Bool) (trans : ∀ x y z, b x y = true → b y z = true → b x z = true)
    (irrefl : ∀ x, b x x = false) (l : List α) (total : l.Pairwise fun x y => b x y = true ∨ b y x = true) (n : Nat) (x : α)
    (hx : x ∈ l) : x ∈ (sortBy b l).take n ↔ (l.filter fun y => b y x).length < n := by
  have hp := sortBy_pairwise b trans l total
  have hperm := sortBy_perm b l
  rw [← (hperm.filter _).length_eq]
  obtain ⟨p, q, hpq⟩ := List.append_of_mem (hperm.mem_iff.mpr hx)
  rw [hpq] at hp ⊢
  obtain ⟨_, hq, hpx⟩ := List.pairwise_append.mp hp
  have asymm : ∀ y, b x y = true → b y x = false := fun y h => by
    by_contra hc
    have := trans x y x h (by simpa using hc)
    simp [irrefl] at this
  have e1 : p.filter (fun y => b y x) = p := List.filter_eq_self.mpr fun y hy => hpx y hy x List.mem_cons_self
  have e2 : (x :: q).filter (fun y => b y x) = [] := List.filter_eq_nil_iff.mpr fun y hy => by
    rcases List.mem_cons.mp hy with rfl | hy
    · simp [irrefl]
    · simp [asymm y ((List.pairwise_cons.mp hq).1 y hy)]
  have hxp : x ∉ p := fun h => by
    have := hpx x h x List.mem_cons_self
    simp [irrefl] at this
  rw [List.filter_append, e1, e2, List.append_nil, List.take_append, List.mem_append]
  constructor
  · rintro (h | h)
    · exact absurd (List.mem_of_mem_take h) hxp
    · by_contra hc
      rw [Nat.sub_eq_zero_of_le (by omega)] at h
      simp at h
  · intro h
    right
    obtain ⟨m, hm⟩ : ∃ m, n - p.length = m + 1 := ⟨n - p.length - 1, by omega⟩
    simp [hm]

/-- Whatever the free values are, arranging a list keeps its members. -/
theorem arrangeFrom_perm {α : Type} : ∀ (n k : Nat) (l : List α), l.length ≤ n → (arrangeFrom n k l).Perm l
  | 0, _, l, _ => by rw [arrangeFrom]
  | _ + 1, _, [], _ => by rw [arrangeFrom]
  | _ + 1, _, [_], _ => by rw [arrangeFrom]
  | n + 1, k, x :: y :: l, h => by
    rw [arrangeFrom]
    · split
      · rename_i z hz
        obtain ⟨hi, rfl⟩ := List.getElem?_eq_some_iff.mp hz
        refine ((arrangeFrom_perm n (k + 1) _ ?_).cons _).trans (List.getElem_cons_eraseIdx_perm hi)
        rw [List.length_eraseIdx_of_lt hi]
        exact Nat.sub_le_of_le_add h
      · exact .refl _
    · simp
    · simp

/-- Whatever the free values are, the order in which things are taken keeps them all. -/
theorem State.arrange_perm {α : Type} (s : State) (l : List α) : (s.arrange l).Perm l :=
  arrangeFrom_perm l.length s.free l (Nat.le_refl _)

/-! ## The trunk's queues -/

/-- The transmitter's taking of a packet keeps everything of the trunk but its queues and the current packet. -/
theorem Trunk.take_frame (t : Trunk) :
    t.take = { t with queueA := t.take.queueA, queueB := t.take.queueB, queueC := t.take.queueC, current := t.take.current } := by
  unfold Trunk.take
  split
  · split <;> rfl
  · rfl

/-- A busy transmitter takes nothing. -/
theorem Trunk.take_busy (t : Trunk) (h : t.current.isSome = true) : t.take = t := by
  unfold Trunk.take
  split
  · simp_all
  · rfl

/-- A transmitter that is BACKED_OFF takes nothing. -/
theorem Trunk.take_backedOff (t : Trunk) (e : Time) (h : t.mode = .backedOff e) : t.take = t := by
  unfold Trunk.take
  split
  · simp_all
  · rfl

/-- Taking a packet keeps the queues' capacities. -/
theorem Trunk.take_bounded (t : Trunk) (h : t.bounded = true) : t.take.bounded = true := by
  unfold Trunk.take
  split
  · split <;> simp_all [Trunk.bounded] <;> try omega
  · exact h

/-- A hand-over keeps the queues' capacities. -/
theorem Trunk.enqueue_bounded (t : Trunk) (x : TxPacket) (h : t.bounded = true) : (t.enqueue x).1.bounded = true := by
  unfold Trunk.enqueue
  split
  · have := pushDropOldest_length_le (cap := AccessClass.capacity .a) (by decide) t.queueA x
    simp_all [Trunk.bounded, AccessClass.capacity]
  · have := pushDropOldest_length_le (cap := AccessClass.capacity .b) (by decide) t.queueB x
    simp_all [Trunk.bounded, AccessClass.capacity]
  · split
    · simp_all [Trunk.bounded, AccessClass.capacity]
    · simp_all [Trunk.bounded]

/-- A hand-over changes the trunk alone. -/
theorem State.handOverMarked_frame (s : State) (b : Body) (m : Bool) :
    (s.handOverMarked b m).1 = { s with trunk := (s.handOverMarked b m).1.trunk } := by
  unfold State.handOverMarked
  split <;> rfl

/-- A hand-over changes the trunk alone. -/
theorem State.handOver_frame (s : State) (b : Body) : s.handOver b = { s with trunk := (s.handOver b).trunk } :=
  s.handOverMarked_frame b false

/-- Outside RUNNING a hand-over is discarded. -/
theorem State.handOver_stopped (s : State) (b : Body) (h : s.running = false) : s.handOver b = s := by
  simp [State.handOver, State.handOverTold, State.handOverMarked, h]

/-- A hand-over keeps the queues' capacities. -/
theorem State.handOverMarked_bounded (s : State) (b : Body) (m : Bool) (h : s.trunk.bounded = true) :
    (s.handOverMarked b m).1.trunk.bounded = true := by
  unfold State.handOverMarked
  split
  · exact Trunk.take_bounded _ (Trunk.enqueue_bounded _ _ h)
  · exact h

/-! ## Packets as bytes -/

/-- The body of a kind that chapter 12 does not lay out holds its fields. -/
theorem fieldBytes_le_freeLength (b : Body) : fieldBytes b ≤ freeLength b := by
  unfold freeLength
  split
  · simp [fieldBytes, fieldBits]
    omega
  · exact le_max_of_le_right (Nat.le_max_left _ _)

/-- The node's own packets pass the length check of R198. -/
theorem leastLength_le_freeLength (b : Body) (h : bodyOk b = true) : leastLength (kindCode b) ≤ freeLength b := by
  cases b with
  | programVideo p q l =>
    simp only [bodyOk, decide_eq_true_eq] at h
    simp only [kindCode, leastLength, leastBytes, freeLength]
    omega
  | _ => exact Nat.le_max_left _ _

/-- The length check lets no body pass that is too short for the fields of its kind. -/
theorem leastBytes_le_leastLength (k : Nat) : leastBytes k ≤ leastLength k := by
  unfold leastLength
  split
  · exact Nat.le_refl _
  · exact Nat.le_max_left _ _

/-- What is read of a kind that chapter 12 does not lay out is a body of that kind. -/
theorem readFree_kind (k : Nat) (l : List Byte) (b : Body) (h : readFree k l = some b) : kindCode b = k := by
  unfold readFree at h
  split at h <;> first | (cases h; rfl) | cases h

/-- Every frame opens with its kind and closes with the check of its kind and body (R199). -/
theorem seatFrameBytes_eq (f : SeatFrame) :
    seatFrameBytes f = Config.frameKind f.kind :: seatBody f ++ wordBytes (crc16 (Config.frameKind f.kind :: seatBody f)) := rfl

/-- The body of a frame takes no fewer bytes than its fields need. -/
theorem SeatFrame.freeBytes_length (f : SeatFrame) :
    ((f.fields.map fun x => x.2).sum + 7) / 8 ≤ f.freeBytes.length := by
  simp [SeatFrame.freeBytes]

/-- A packet's bytes: four of header, the body, four of CRC. -/
theorem packetBytes_length (p : Packet) : (packetBytes p).length = (bodyBytes p.body).length + 8 := by
  simp [packetBytes, packetBytesOf, wordBytes, crcBytes]

/-- What a packet occupies of the trunk (R196). -/
theorem occupancy_eq (p : Packet) : occupancy p = 4 + max ((bodyBytes p.body).length + 8) 36 := by
  change (wireBytes p).length = _
  simp only [wireBytes, filled, List.length_append, List.length_cons, List.length_nil, List.length_replicate,
    packetBytes_length]
  omega

/-! ## A level window -/

/-- The end of a level window changes a channel's trim, mode and window alone. -/
theorem Channel.endWindow_frame (x : Channel) (cfg : ChannelConfig) :
    x.endWindow cfg = { x with trim := (x.endWindow cfg).trim, mode := (x.endWindow cfg).mode,
                               window := (x.endWindow cfg).window } := by
  unfold Channel.endWindow
  split
  · rfl
  · split <;> rfl

/-- The abandonment of a level window leaves none, and changes nothing but trim and mode beside it. -/
theorem Channel.abandon_frame (x : Channel) (cfg : ChannelConfig) :
    x.abandon cfg = { x with trim := (x.endWindow cfg).trim, mode := (x.endWindow cfg).mode, window := none } := by
  rw [Channel.abandon, Channel.endWindow_frame]

/-! ## The idle step -/

/-- With no command waiting, one of the commands that are due is raised, or 40 ns pass. -/
theorem State.idle_cases (s : State) :
    (s.dueCommands = [] ∧ s.idle = { s with now := s.now + 1 }) ∨
      ∃ c ∈ s.dueCommands, s.idle = { s with pending := [c], free := s.free + 1 } := by
  unfold State.idle
  split
  · rename_i h
    left
    refine ⟨?_, rfl⟩
    by_contra hne
    have := Nat.mod_lt (Config.pick s.free) (List.length_pos_iff.mpr hne)
    rw [List.getElem?_eq_none_iff] at h
    omega
  · rename_i c h
    exact .inr ⟨c, List.mem_of_getElem? h, rfl⟩

/-! ## A seat link -/

/-- The transmitter's taking of a frame keeps a link's capacities. -/
theorem Link.kick_bounded (l : Link) (h : l.bounded = true) : l.kick.bounded = true := by
  unfold Link.kick
  split
  · exact h
  · split
    · simpa [Link.bounded] using h
    · split
      · split <;> try split
        all_goals simp_all [Link.bounded] <;> try omega
      · exact h

/-- A control frame handed to a link keeps its capacities. -/
theorem Link.handControlTold_bounded (l : Link) (f : SeatFrame) (h : l.bounded = true) :
    (l.handControlTold f).1.bounded = true := by
  unfold Link.handControlTold
  split
  · split
    · refine Link.kick_bounded _ ?_
      simp_all [Link.bounded]
    · simpa [Link.bounded] using h
  · exact h

/-- A video chunk handed to a link keeps its capacities. -/
theorem Link.handVideo_bounded (l : Link) (c : Chunk) (h : l.bounded = true) : (l.handVideo c).bounded = true := by
  unfold Link.handVideo
  split
  · have := pushDropOldest_length_le (cap := 8) (by decide) l.video c
    generalize pushDropOldest 8 l.video c = r at this
    refine Link.kick_bounded _ ?_
    simp_all [Link.bounded]
  · exact h

/-- An AUDIO frame handed to a link keeps its capacities. -/
theorem Link.handAudio_bounded (l : Link) (f : SeatFrame) (h : l.bounded = true) : (l.handAudio f).bounded = true := by
  unfold Link.handAudio
  split
  · exact Link.kick_bounded _ (by simpa [Link.bounded] using h)
  · exact h

/-- A card that becomes outstanding keeps a link's capacities. -/
theorem Link.putOutstanding_bounded (l : Link) (now : Time) (c : Card) (h : l.bounded = true) :
    (l.putOutstanding now c).bounded = true := by
  have := Link.handControlTold_bounded { l with cardSerial := l.cardSerial + 1 } (.caption c l.cardSerial) (by simpa [Link.bounded] using h)
  exact this

/-- A card handed to a link keeps its capacities. -/
theorem Link.handCard_bounded (l : Link) (now : Time) (c : Card) (h : l.bounded = true) : (l.handCard now c).bounded = true := by
  unfold Link.handCard
  split
  · split
    · exact Link.putOutstanding_bounded l now c h
    · have := pushDropOldest_length_le (cap := 4) (by decide) l.waiting c
      generalize pushDropOldest 4 l.waiting c = r at this
      simp_all [Link.bounded]
  · exact h

/-- The release of a card keeps a link's capacities. -/
theorem Link.releaseCard_bounded (l : Link) (now : Time) (h : l.bounded = true) : (l.releaseCard now).bounded = true := by
  unfold Link.releaseCard
  split
  · simpa [Link.bounded] using h
  · refine Link.putOutstanding_bounded _ _ _ ?_
    simp_all [Link.bounded]
    omega

/-- The transmitter's taking of a frame keeps everything of a link but the frame in progress and the queues it takes from. -/
theorem Link.kick_frame (l : Link) :
    l.kick = { l with sending := l.kick.sending, resets := l.kick.resets, control := l.kick.control, audio := l.kick.audio,
                      video := l.kick.video } := by
  unfold Link.kick
  split
  · rfl
  · split
    · rfl
    · split
      · split <;> try split
        all_goals rfl
      · rfl

/-- A transmitter that sends takes nothing. -/
theorem Link.kick_busy (l : Link) (h : l.sending.isSome = true) : l.kick = l := by
  unfold Link.kick
  split
  · rfl
  · simp_all

/-- A free transmitter begins a waiting UNIT_RESET before anything else. -/
theorem Link.kick_reset (l : Link) (f : SeatFrame) (r : List SeatFrame) (h : l.sending = none) (k : l.resets = f :: r) :
    l.kick = { l with sending := some f, resets := r } := by
  simp [Link.kick, h, k]

/-- The end of a VIDEO frame by CUT changes the frame in progress and the count of CUT frames alone. -/
theorem Link.cutVideo_frame (l : Link) : l.cutVideo = { l with sending := l.cutVideo.sending, cuts := l.cutVideo.cuts } := by
  unfold Link.cutVideo
  split <;> rfl

/-- A VIDEO frame in progress is ended, and the transmitter is free. -/
theorem Link.cutVideo_video (l : Link) (c : Chunk) (h : l.sending = some (.video c)) :
    l.cutVideo = { l with sending := none, cuts := l.cuts + 1 } := by
  simp [Link.cutVideo, h]

/-- With no VIDEO frame in progress no CUT is sent. -/
theorem Link.cutVideo_other (l : Link) (h : ∀ c, l.sending ≠ some (.video c)) : l.cutVideo = l := by
  unfold Link.cutVideo
  split
  · rename_i c hc
    exact absurd hc (h c)
  · rfl

/-- The end of a VIDEO frame keeps a link's capacities. -/
theorem Link.cutVideo_bounded (l : Link) (h : l.bounded = true) : l.cutVideo.bounded = true := by
  rw [Link.cutVideo_frame]
  exact h

/-- A UNIT_RESET keeps a link's capacities. -/
theorem Link.sendReset_bounded (l : Link) (h : l.bounded = true) : l.sendReset.bounded = true :=
  Link.kick_bounded _ (Link.cutVideo_bounded _ h)

/-- The flush of a link keeps its capacities. -/
theorem Link.flushVideo_bounded (l : Link) (h : l.bounded = true) : l.flushVideo.bounded = true := by
  unfold Link.flushVideo
  split
  · exact Link.kick_bounded _ (Link.cutVideo_bounded _ (by simp_all [Link.bounded]))
  · exact h

/-- A link that is not UP is not changed by any frame or card handed to it. -/
theorem Link.handed_down (l : Link) (h : l.state ≠ .up) :
    (∀ f, l.handControl f = l) ∧ (∀ f, l.handAudio f = l) ∧ (∀ c, l.handVideo c = l) ∧ (∀ n c, l.handCard n c = l) ∧
      l.flushVideo = l := by
  simp [Link.handControl, Link.handControlTold, Link.handAudio, Link.handVideo, Link.handCard, Link.flushVideo, h]

/-- An image of zeros before its checksum word sums to 0. -/
theorem imageSum_zeros (n : Nat) (hn : 656 ≤ n) (l : List Byte) : imageSum (List.replicate n 0#8 ++ l) = 0 := by
  have hb : ∀ i < 656, byteAt (List.replicate n 0#8 ++ l) i = 0 := fun i hi => by
    rw [byteAt, List.getElem?_append_left (by rw [List.length_replicate]; omega), List.getElem?_replicate_of_lt (by omega)]
    rfl
  have hs : ∀ is : List Nat, (∀ i ∈ is, i < 328) →
      is.foldl (fun a i => a + wordAt (List.replicate n 0#8 ++ l) (2 * i)) 0 = 0 := fun is h => by
    induction is with
    | nil => rfl
    | cons x xs ih =>
      have hx := h x List.mem_cons_self
      rw [List.foldl_cons, wordAt, hb _ (by omega), hb _ (by omega)]
      exact ih fun i hi => h i (List.mem_cons_of_mem _ hi)
  rw [imageSum, hs _ fun i hi => List.mem_range.mp hi]

/-- The checksum test of an image of zeros, as its last two bytes decide it. -/
theorem checksumGood_zeros (n : Nat) (hn : n = 656) (a b : Byte) :
    checksumGood (List.replicate n 0#8 ++ [a, b]) = (0 == a.toNat * 256 + b.toNat) := by
  have hb : ∀ j, byteAt (List.replicate n 0#8 ++ [a, b]) (656 + j) = (([a, b][j]?).getD 0#8).toNat := fun j => by
    rw [byteAt, List.getElem?_append_right (by rw [List.length_replicate]; omega), List.length_replicate,
      show 656 + j - n = j by omega]
  rw [checksumGood, imageSum_zeros n (by omega), wordAt, hb 1, hb 0]
  rfl

/-! ## Control frames handed to a link, and a berth's turn -/

/-- Counting none. -/
@[simp] theorem bumpBy_zero (c : Counter) : bumpBy 0 c = c := by
  have := c.isLt
  simp [bumpBy]; omega

/-- Counting one. -/
theorem bump_eq_bumpBy (c : Counter) : bump c = bumpBy 1 c := by
  unfold bump bumpBy
  have := c.isLt
  by_cases h : c = 65535#16
  · subst h; decide
  · have : c.toNat ≠ 65535 := fun e => h (BitVec.eq_of_toNat_eq (by simpa using e))
    simp [h]; omega

/-- Counting one, then several. -/
theorem bumpBy_bump (n : Nat) (c : Counter) : bumpBy n (bump c) = bumpBy (n + 1) c := by
  unfold bump bumpBy
  have := c.isLt
  by_cases h : c = 65535#16
  · subst h; by_cases hn : n = 0 <;> simp [hn]
  · have hc : c.toNat ≠ 65535 := fun e => h (BitVec.eq_of_toNat_eq (by simpa using e))
    rw [if_neg h]
    have e : (c + 1).toNat = c.toNat + 1 := by simp [BitVec.toNat_add]; omega
    rw [e]
    by_cases hn : c.toNat + (n + 1) ≤ 65535
    · rw [if_pos (by omega), if_pos hn]
      apply BitVec.eq_of_toNat_eq; simp [BitVec.toNat_add]; omega
    · rw [if_neg (by omega), if_neg hn]

/-- A busy link takes control frames at the tail of its queue, as far as there is room, and counts the rest. -/
theorem foldl_handControl_busy (fs : List SeatFrame) (l : Link) (hu : l.state = .up) (hs : l.sending.isSome = true) :
    fs.foldl Link.handControl l = { l with
      control := l.control ++ fs.take (16 - l.control.length),
      counters := { l.counters with
        controlOverflow := bumpBy (fs.length - (16 - l.control.length)) l.counters.controlOverflow } } := by
  induction fs generalizing l with
  | nil => simp [bumpBy_zero]
  | cons f fs ih =>
    obtain ⟨g, hg⟩ := Option.isSome_iff_exists.mp hs
    rw [List.foldl_cons]
    by_cases h : l.control.length < 16
    · have e : l.handControl f = { l with control := l.control ++ [f] } := by
        simp [Link.handControl, Link.handControlTold, hu, h, Link.kick, hg]
      obtain ⟨m, hm⟩ : ∃ m, 16 - l.control.length = m + 1 := ⟨15 - l.control.length, by omega⟩
      rw [e, ih { l with control := l.control ++ [f] } hu hs]
      simp only [List.length_append, List.length_cons, List.length_nil, hm, List.take_succ_cons]
      rw [show 16 - (l.control.length + (0 + 1)) = m by omega, show fs.length + 1 - (m + 1) = fs.length - m by omega]
      simp
    · have e : l.handControl f = { l with counters := { l.counters with controlOverflow := bump l.counters.controlOverflow } } := by
        simp [Link.handControl, Link.handControlTold, hu, h]
      rw [e, ih { l with counters := { l.counters with controlOverflow := bump l.counters.controlOverflow } } hu hs]
      simp [show 16 - l.control.length = 0 by omega, bumpBy_bump]

/-- Control frames handed one after the other to an UP link. -/
theorem framesHanded_foldl (fs : List SeatFrame) (l : Link) (hu : l.state = .up) :
    framesHanded l (fs.foldl Link.handControl l) fs := by
  have free : fs ≠ [] → fs.length ≤ 16 - l.control.length → l.sending = none → l.resets = [] →
      fs.foldl Link.handControl l = { l with sending := (l.control ++ fs).head?, control := (l.control ++ fs).tail } := by
    intro hf hl hs hr
    match fs, hf with
    | f :: r, _ =>
      have hc : l.control.length < 16 := by simp at hl; omega
      obtain ⟨g, q, hq⟩ : ∃ g q, l.control ++ [f] = g :: q := by cases l.control <;> simp
      have e : l.handControl f = { l with sending := some g, control := q } := by
        simp [Link.handControl, Link.handControlTold, hu, hc, Link.kick, hs, hr, hq]
      have hlen : l.control.length = q.length := by simpa using congrArg List.length hq
      have hall : l.control ++ f :: r = g :: (q ++ r) := by
        rw [show l.control ++ f :: r = (l.control ++ [f]) ++ r by simp, hq]; rfl
      simp only [List.length_cons] at hl
      rw [List.foldl_cons, e, foldl_handControl_busy r { l with sending := some g, control := q } hu rfl, hall]
      dsimp only
      rw [List.take_of_length_le (by omega), show r.length - (16 - q.length) = 0 by omega, bumpBy_zero]
      rfl
  refine ⟨fun h => by subst h; rfl, fun h => foldl_handControl_busy fs l hu h, free, fun hl f hf => ?_⟩
  have hne : fs ≠ [] := List.ne_nil_of_mem hf
  cases hs : l.sending with
  | some g =>
    rw [foldl_handControl_busy fs l hu (by simp [hs])]
    exact .inr (by simp [List.take_of_length_le hl, hf])
  | none =>
    cases hr : l.resets with
    | nil =>
      rw [free hne hl hs hr]
      have : f ∈ l.control ++ fs := by simp [hf]
      cases ha : l.control ++ fs with
      | nil => simp [ha] at this
      | cons a as =>
        rw [ha] at this
        rcases List.mem_cons.mp this with rfl | h
        · exact .inl rfl
        · exact .inr h
    | cons u us =>
      match fs, hne with
      | f0 :: r, _ =>
        have hc : l.control.length < 16 := by simp at hl; omega
        have e : l.handControl f0 = { l with sending := some u, resets := us, control := l.control ++ [f0] } := by
          simp [Link.handControl, Link.handControlTold, hu, hc, Link.kick, hs, hr]
        simp only [List.length_cons] at hl
        rw [List.foldl_cons, e,
          foldl_handControl_busy r { l with sending := some u, resets := us, control := l.control ++ [f0] } hu rfl]
        refine .inr ?_
        simp only [List.length_append, List.length_cons, List.length_nil]
        rw [List.take_of_length_le (by omega)]
        simpa using Or.inr hf

/-- A wake, as the statements write it. -/
theorem Berth.wake_eq_woken (b : Berth) (now : Time) : b.wake now = b.woken now := by
  cases h : b.attention <;> simp [Berth.wake, Berth.woken, h]

/-- The late-join test of a turn, as the statements write it. -/
theorem Entry.tooLate_iff (e : Entry) : e.tooLate = true ↔ e.state = .speech ∧ 2000 < e.position := by
  unfold Entry.tooLate Entry.position
  cases e.playout <;> cases e.queue <;> simp

end Sys2Proof.Machine
end

