-- ==== Sys2Proof/Laws/Frames.lean ====
section
/-! SUPPORT. What each shared operation can change: `Only f s t` says that t is s but for the parts named by the footprint
f. One lemma per operation, which a proof cites in place of unfolding it. -/

namespace Sys2Proof.Machine

/-- The parts of the state that an operation may change. -/
structure Foot where
  now     : Bool := false
  free    : Bool := false
  startup : Bool := false
  trunk   : Bool := false
  taps    : Bool := false
  carry   : Bool := false
  berths  : Bool := false
  phase   : Bool := false
  orig    : Bool := false
  voice   : Bool := false
  mixer   : Bool := false
  links   : Bool := false

/-- One footprint within another. -/
def Foot.within (f g : Foot) : Bool :=
  (!f.now || g.now) && (!f.free || g.free) && (!f.startup || g.startup) && (!f.trunk || g.trunk) && (!f.taps || g.taps) &&
    (!f.carry || g.carry) && (!f.berths || g.berths) && (!f.phase || g.phase) && (!f.orig || g.orig) &&
    (!f.voice || g.voice) && (!f.mixer || g.mixer) && (!f.links || g.links)

/-- The second state is the first but for the parts of a footprint; the queue is never among them. -/
structure Only (f : Foot) (s t : State) : Prop where
  pending : t.pending = s.pending
  now     : f.now = false → t.now = s.now
  free    : f.free = false → t.free = s.free
  startup : f.startup = false → t.startup = s.startup
  trunk   : f.trunk = false → t.trunk = s.trunk
  taps    : f.taps = false → t.taps = s.taps
  carry   : f.carry = false → t.carry = s.carry
  berths  : f.berths = false → t.berths = s.berths
  phase   : f.phase = false → t.phase = s.phase
  orig    : f.orig = false → t.orig = s.orig
  voice   : f.voice = false → t.voice = s.voice
  mixer   : f.mixer = false → t.mixer = s.mixer
  links   : f.links = false → t.links = s.links

namespace Only

variable {f g : Foot} {s t u : State}

/-- Nothing changed. -/
theorem refl (f : Foot) (s : State) : Only f s s := by constructor <;> simp

/-- One operation after another. -/
theorem trans (h : Only f s t) (k : Only f t u) : Only f s u where
  pending := k.pending.trans h.pending
  now := fun e => (k.now e).trans (h.now e)
  free := fun e => (k.free e).trans (h.free e)
  startup := fun e => (k.startup e).trans (h.startup e)
  trunk := fun e => (k.trunk e).trans (h.trunk e)
  taps := fun e => (k.taps e).trans (h.taps e)
  carry := fun e => (k.carry e).trans (h.carry e)
  berths := fun e => (k.berths e).trans (h.berths e)
  phase := fun e => (k.phase e).trans (h.phase e)
  orig := fun e => (k.orig e).trans (h.orig e)
  voice := fun e => (k.voice e).trans (h.voice e)
  mixer := fun e => (k.mixer e).trans (h.mixer e)
  links := fun e => (k.links e).trans (h.links e)

/-- A wider footprint. -/
theorem widen (h : Only f s t) (w : f.within g = true) : Only g s t := by
  simp only [Foot.within, Bool.and_eq_true, Bool.or_eq_true, Bool.not_eq_true'] at w
  obtain ⟨⟨⟨⟨⟨⟨⟨⟨⟨⟨⟨w1, w2⟩, w3⟩, w4⟩, w5⟩, w6⟩, w7⟩, w8⟩, w9⟩, w10⟩, w11⟩, w12⟩ := w
  constructor
  · exact h.pending
  · exact fun e => h.now (w1.resolve_right (by simp [e]))
  · exact fun e => h.free (w2.resolve_right (by simp [e]))
  · exact fun e => h.startup (w3.resolve_right (by simp [e]))
  · exact fun e => h.trunk (w4.resolve_right (by simp [e]))
  · exact fun e => h.taps (w5.resolve_right (by simp [e]))
  · exact fun e => h.carry (w6.resolve_right (by simp [e]))
  · exact fun e => h.berths (w7.resolve_right (by simp [e]))
  · exact fun e => h.phase (w8.resolve_right (by simp [e]))
  · exact fun e => h.orig (w9.resolve_right (by simp [e]))
  · exact fun e => h.voice (w10.resolve_right (by simp [e]))
  · exact fun e => h.mixer (w11.resolve_right (by simp [e]))
  · exact fun e => h.links (w12.resolve_right (by simp [e]))

/-- An operation repeated over a list. -/
theorem foldl {α : Type} {op : State → α → State} (h : ∀ s x, Only f s (op s x)) (l : List α) (s : State) :
    Only f s (l.foldl op s) := by
  induction l generalizing s with
  | nil => exact refl f s
  | cons x l ih => exact (h s x).trans (ih (op s x))

/-- One of two operations. -/
theorem ite {c : Prop} [Decidable c] (h : Only f s t) (k : Only f s u) : Only f s (if c then t else u) := by
  split
  · exact h
  · exact k

/-- The form in which statements say it, for the widest footprint that leaves the image alone. -/
theorem eq (h : Only f s t) : t = { s with
    now := if f.now then t.now else s.now, free := if f.free then t.free else s.free,
    startup := if f.startup then t.startup else s.startup, trunk := if f.trunk then t.trunk else s.trunk,
    taps := if f.taps then t.taps else s.taps, carry := if f.carry then t.carry else s.carry,
    berths := if f.berths then t.berths else s.berths, phase := if f.phase then t.phase else s.phase,
    orig := if f.orig then t.orig else s.orig, voice := if f.voice then t.voice else s.voice,
    mixer := if f.mixer then t.mixer else s.mixer, links := if f.links then t.links else s.links } := by
  obtain ⟨h0, h1, h2, h3, h4, h5, h6, h7, h8, h9, h10, h11, h12⟩ := h
  rcases t with ⟨a, b, c, d, e, i, j, k, l, m, n, o, p⟩
  simp only [State.mk.injEq]
  refine ⟨?_, ?_, h0, ?_, ?_, ?_, ?_, ?_, ?_, ?_, ?_, ?_, ?_⟩ <;> split <;> simp_all

end Only

/-! ## The updates of one part -/

/-- The footprint of the trunk alone. -/
abbrev trunkFoot : Foot := { trunk := true }

/-- The footprint of the Tap Controller and its WANT records. -/
abbrev tapFoot : Foot := { trunk := true, taps := true }

/-- The footprint of the Carry Controller and its CARRY records. -/
abbrev carryFoot : Foot := { trunk := true, carry := true }

/-- The footprint of a berth record and its link. -/
abbrev berthFoot : Foot := { berths := true, links := true }

/-- The footprint of the Voice Arbiter at the berths. -/
abbrev voiceFoot : Foot := { berths := true, voice := true, links := true }

/-- The footprint of an announcement: the same, and its ACK records. -/
abbrev annFoot : Foot := { trunk := true, berths := true, voice := true, links := true }

/-- The footprint of the Originator and its packets. -/
abbrev origFoot : Foot := { trunk := true, orig := true }

/-- The footprint of a phase change and its record. -/
abbrev phaseFoot : Foot := { trunk := true, berths := true, phase := true, links := true }

variable (s : State)

theorem State.modBerth_only (p : Port) (f : Berth → Berth) : Only berthFoot s (s.modBerth p f) := by constructor <;> simp
theorem State.modLink_only (p : Port) (f : Link → Link) : Only { links := true } s (s.modLink p f) := by constructor <;> simp
theorem State.modVoice_only (p : Port) (f : Voice → Voice) : Only { voice := true } s (s.modVoice p f) := by
  constructor <;> simp
theorem State.modEntry_only (id : AnnId) (f : Entry → Entry) : Only { voice := true } s (s.modEntry id f) := by
  constructor <;> simp
theorem State.modRec_only (id : AnnId) (p : Port) (f : BerthRec → BerthRec) : Only { voice := true } s (s.modRec id p f) :=
  s.modEntry_only id _
theorem State.modChan_only (c : Chan) (f : Channel → Channel) : Only { carry := true } s (s.modChan c f) := by
  constructor <;> simp
theorem State.setCarry_only (c : CarryCtl) : Only { carry := true } s { s with carry := c } := by constructor <;> simp
theorem State.setPhase_only (c : PhaseCtl) : Only { phase := true } s { s with phase := c } := by constructor <;> simp
theorem State.setVoice_only (v : VoiceArb) : Only { voice := true } s { s with voice := v } := by constructor <;> simp
theorem State.modTrunk_only (f : Trunk → Trunk) : Only trunkFoot s (s.modTrunk f) := by constructor <;> simp
theorem State.modTaps_only (f : TapCtl → TapCtl) : Only { taps := true } s (s.modTaps f) := by constructor <;> simp
theorem State.modOrig_only (f : Originator → Originator) : Only { orig := true } s (s.modOrig f) := by constructor <;> simp
theorem State.reach_only (t : Time) : Only { now := true } s (s.reach t) := by constructor <;> simp

/-- A hand-over changes the trunk alone. -/
theorem State.handOverMarked_only (b : Body) (m : Bool) : Only trunkFoot s (s.handOverMarked b m).1 := by
  unfold State.handOverMarked
  split
  · constructor <;> simp
  · exact .refl _ _

/-- A hand-over changes the trunk alone. -/
theorem State.handOver_only (b : Body) : Only trunkFoot s (s.handOver b) := s.handOverMarked_only b false

/-! ## Berths and voices (chapters 1 and 6) -/

/-- The recomputation of a level changes its berth record and link. -/
theorem State.recompute_only (p : Port) : Only berthFoot s (s.recompute p) := by
  unfold State.recompute
  split
  · split
    · split
      · exact .refl _ _
      · exact ((s.modLink_only p _).widen rfl).trans (State.modBerth_only _ p _)
    · exact s.modBerth_only p _
  · exact .refl _ _

theorem State.wake_only (p : Port) : Only berthFoot s (s.wake p) := (s.modBerth_only p _).trans (State.recompute_only _ p)

theorem State.setHold_only (p : Port) (on : Bool) : Only berthFoot s (s.setHold p on) :=
  (s.modBerth_only p _).trans (State.recompute_only _ p)

theorem State.clearHold_only (p : Port) : Only berthFoot s (if (s.berth p).hold then s.setHold p false else s) := by
  split
  · exact s.setHold_only p false
  · exact .refl _ _

theorem State.takeHeadset_only (p : Port) (on : Bool) : Only berthFoot s (s.takeHeadset p on) := by
  unfold State.takeHeadset
  split
  · exact (s.modBerth_only p _).trans (State.recompute_only _ p)
  · exact s.modBerth_only p _

theorem State.recomputeAll_only : Only berthFoot s s.recomputeAll := .foldl State.recompute_only _ s

theorem State.fix_only (id : AnnId) (p : Port) (o : BerthOutcome) : Only { voice := true } s (s.fix id p o) :=
  s.modRec_only id p _

/-- SHOW changes its link, and the record that holds the card. -/
theorem State.showCard_only (id : AnnId) (p : Port) : Only voiceFoot s (s.showCard id p) := by
  unfold State.showCard
  split
  · exact .refl _ _
  · split
    · exact ((s.modLink_only p _).widen rfl).trans ((State.modRec_only _ id p _).widen rfl)
    · exact .refl _ _

/-- CLEAR changes its link, and the record that holds the card. -/
theorem State.clearCard_only (id : AnnId) (p : Port) : Only voiceFoot s (s.clearCard id p) := by
  unfold State.clearCard
  split
  · exact .refl _ _
  · split
    · refine Only.trans ?_ ((State.modRec_only _ id p _).widen rfl)
      split
      · exact (s.modLink_only p _).widen rfl
      · exact .refl _ _
    · exact .refl _ _

theorem State.freeVoice_only (p : Port) : Only voiceFoot s (s.freeVoice p) := (s.modVoice_only p _).widen rfl

theorem State.leavePending_only (p : Port) (id : AnnId) : Only voiceFoot s (s.leavePending p id) :=
  (s.modVoice_only p _).widen rfl

theorem State.enterEmergency_only (p : Port) : Only berthFoot s (s.enterEmergency p) := by
  unfold State.enterEmergency
  split
  · exact .refl _ _
  · exact (s.setHold_only p true).trans ((State.modLink_only _ p _).widen rfl)

theorem State.settleHold_only (p : Port) : Only berthFoot s (s.settleHold p) := by
  unfold State.settleHold
  split
  · exact s.setHold_only p false
  · exact .refl _ _

/-- A voice that takes an announcement in. -/
theorem State.serve_only (p : Port) (e : Entry) (v : Serving) : Only voiceFoot s (s.serve p e v) := by
  have h := (((s.modVoice_only p fun x => { x with serving := v }).widen (g := voiceFoot) rfl).trans
    ((State.modRec_only _ e.desc.id p fun r => { r with role := .inService }).widen rfl)).trans (State.showCard_only _ e.desc.id p)
  unfold State.serve
  dsimp only
  split
  · exact h.trans ((State.enterEmergency_only _ p).widen rfl)
  · exact h

/-- A berth's turn. -/
theorem State.turn_only (p : Port) (e : Entry) (d : Decision) : Only voiceFoot s (s.turn p e d) := by
  unfold State.turn
  split
  · exact (s.fix_only _ p _).widen rfl
  · exact (s.fix_only _ p _).widen rfl
  · exact ((s.fix_only _ p _).widen rfl).trans (State.showCard_only _ _ p)
  · rename_i w
    have h : Only voiceFoot s (if w = true then s.wake p else s) := by
      split
      · exact (s.wake_only p).widen rfl
      · exact .refl _ _
    dsimp only
    split
    · exact h.trans (State.serve_only _ p e _)
    · split
      · exact h.trans (State.serve_only _ p e _)
      · exact h.trans (((State.fix_only _ _ p _).widen rfl).trans (State.showCard_only _ _ p))

/-- A voice that serves its pending list. -/
theorem State.serveList_only (p : Port) : ∀ (l : List (AnnId × Time)) (s : State), Only voiceFoot s (State.serveList p l s)
  | [], s => .refl _ s
  | x :: r, s => by
    unfold State.serveList
    dsimp only
    have h0 : Only voiceFoot s (s.modVoice p fun v => { v with pending := r }) := (s.modVoice_only p _).widen rfl
    generalize (s.modVoice p fun v => { v with pending := r }) = u at h0
    cases u.entry? x.1 with
    | none =>
      dsimp only
      split
      · exact h0.trans (State.serveList_only p r u)
      · exact h0
    | some e =>
      dsimp only
      split
      · exact (h0.trans (u.turn_only p _ _)).trans (State.serveList_only p r _)
      · exact h0.trans (u.turn_only p _ _)

theorem State.servePending_only (p : Port) : Only voiceFoot s (s.servePending p) := by
  unfold State.servePending
  dsimp only
  split
  · exact (State.serveList_only p _ s).trans ((State.settleHold_only _ p).widen rfl)
  · exact (s.settleHold_only p).widen rfl

theorem State.joinPending_only (p : Port) (id : AnnId) : Only voiceFoot s (s.joinPending p id) :=
  ((s.modVoice_only p _).widen rfl).trans (((State.modRec_only _ id p _).widen rfl).trans
    (.foldl (fun t (x : AnnId × Time) => (t.fix_only x.1 p _).widen rfl) _ _))

theorem State.preempt_only (p : Port) (cur : AnnId) : Only voiceFoot s (s.preempt p cur) :=
  (((s.fix_only cur p _).widen rfl).trans (State.clearCard_only _ cur p)).trans (State.freeVoice_only _ p)

/-- A targeted berth that meets an announcement. -/
theorem State.meet_only (id : AnnId) (p : Port) : Only voiceFoot s (s.meet id p) := by
  unfold State.meet
  split
  · exact .refl _ _
  · dsimp only
    split
    · split
      · exact s.turn_only p _ _
      · split
        · exact ((s.preempt_only p _).trans (State.turn_only _ p _ _)).trans (State.servePending_only _ p)
        · exact s.joinPending_only p id
    · exact s.turn_only p _ _

theorem State.dismiss_only (p : Port) (cur : AnnId) : Only voiceFoot s (s.dismiss p cur) :=
  ((((s.fix_only cur p _).widen rfl).trans (State.clearCard_only _ cur p)).trans (State.freeVoice_only _ p)).trans
    (State.servePending_only _ p)

/-- What a link's leaving UP does at its berth. -/
theorem State.linkLoss_only (p : Port) : Only voiceFoot s (s.linkLoss p) := by
  unfold State.linkLoss
  dsimp only
  have h1 : Only voiceFoot s (match (s.berthVoice p).serving.current with
      | some id => s.fix id p (.cut .linkLost)
      | none => s) := by
    split
    · exact (s.fix_only _ p _).widen rfl
    · exact .refl _ _
  have h2 := h1.trans (.foldl (fun t x => (t.fix_only x.1 p (.declined .unreachable)).widen rfl) (s.berthVoice p).pending _)
  have h3 := h2.trans ((State.modVoice_only _ p fun x => { x with serving := .idle, pending := [] }).widen rfl)
  have h4 := fun v => h3.trans ((State.setVoice_only _ v).widen rfl)
  exact (h4 _).trans ((State.clearHold_only _ p).widen rfl)

theorem State.sendAck_only (id : AnnId) (l : List AckItem) : Only annFoot s (s.sendAck id l) := (s.handOver_only _).widen rfl

theorem State.closeId_only (id : AnnId) : Only annFoot s (s.closeId id) := by constructor <;> simp [State.closeId]

/-- An entry that leaves the table. -/
theorem State.removeEntry_only (e : Entry) (a b : BerthOutcome) : Only annFoot s (s.removeEntry e a b) := by
  unfold State.removeEntry
  dsimp only
  refine Only.trans ?_ (State.closeId_only _ _)
  refine Only.trans ?_ ((State.setVoice_only _ _).widen rfl)
  refine Only.trans ?_ (State.sendAck_only _ _ _)
  refine Only.trans ?_ (.foldl (fun t r => (t.clearCard_only e.desc.id r.port).widen rfl) e.recs _)
  refine Only.trans ((s.modEntry_only e.desc.id _).widen rfl) (.foldl (fun t p => ?_) allPorts _)
  refine Only.trans ?_ ((State.leavePending_only _ p e.desc.id).widen rfl)
  split
  · exact (t.freeVoice_only p).widen rfl
  · exact .refl _ _

/-- An entry that ends. -/
theorem State.endEntry_only (e : Entry) (r : Option EndReason) : Only annFoot s (s.endEntry e r) :=
  (s.removeEntry_only e _ _).trans (.foldl (fun t p => (t.servePending_only p).widen rfl) _ _)

/-- An entry that is created. -/
theorem State.createEntry_only (d : Descriptor) (st : EntryState) (q : List SpeechBlock) :
    Only annFoot s (s.createEntry d st q) := by
  unfold State.createEntry
  refine Only.trans ?_ (.foldl (fun t p => (t.meet_only d.id p).widen rfl) _ _)
  constructor <;> simp

/-- The first packet of an unknown id. -/
theorem State.newAnnouncement_only (d : Descriptor) (st : EntryState) (q : List SpeechBlock) :
    Only annFoot s (s.newAnnouncement d st q) := by
  unfold State.newAnnouncement
  split
  · exact s.createEntry_only d st q
  · split
    · exact .refl _ _
    · split
      · refine Only.trans ?_ (.foldl (fun t p => (t.servePending_only p).widen rfl) _ _)
        refine Only.trans ?_ (State.createEntry_only _ d st q)
        exact (s.removeEntry_only _ _ _).trans ((State.setVoice_only _ _).widen rfl)
      · exact ((s.sendAck_only _ _).trans (State.closeId_only _ _)).trans ((State.setVoice_only _ _).widen rfl)

theorem State.enterSpeech_only (id : AnnId) : Only annFoot s (s.enterSpeech id) :=
  ((s.modEntry_only id _).widen rfl).trans (.foldl (fun t p => (t.modVoice_only p _).widen rfl) _ _)

theorem State.takeSpeech_only (e : Entry) (b : SpeechBlock) : Only annFoot s (s.takeSpeech e b) := by
  have h : Only annFoot s ((if e.state = .leadIn then s.enterSpeech e.desc.id else s).modEntry e.desc.id fun x =>
      { (x.place b).1 with lastPacket := s.now }) := by
    refine Only.trans ?_ ((State.modEntry_only _ _ _).widen rfl)
    split
    · exact s.enterSpeech_only _
    · exact .refl _ _
  unfold State.takeSpeech
  dsimp only
  split
  · exact h.trans ((State.setVoice_only _ _).widen rfl)
  · exact h.trans ((State.setVoice_only _ _).widen rfl)
  · exact h

/-- Any ANNOUNCE packet. -/
theorem State.takeAnnounce_only (d : Descriptor) (t : AnnTail) : Only annFoot s (s.takeAnnounce d t) := by
  unfold State.takeAnnounce
  split
  · split
    · exact .refl _ _
    · split
      · exact s.takeSpeech_only _ _
      · exact s.endEntry_only _ _
      · exact (s.modEntry_only _ _).widen rfl
      · exact (s.modEntry_only _ _).widen rfl
      · exact s.newAnnouncement_only _ _ _
      · exact s.newAnnouncement_only _ _ _
      · exact s.newAnnouncement_only _ _ _
      · exact .refl _ _
  · exact .refl _ _

/-! ## Links (chapter 8) -/

/-- A link that leaves UP. -/
theorem State.leaveUp_only (p : Port) (st : LinkState) : Only voiceFoot s (s.leaveUp p st) :=
  (((s.modLink_only p _).widen rfl).trans ((State.modBerth_only _ p _).widen rfl)).trans (State.linkLoss_only _ p)

/-- A link that comes UP. -/
theorem State.bringUp_only (p : Port) (on : Bool) : Only berthFoot s (s.bringUp p on) := by
  unfold State.bringUp
  dsimp only
  have h := ((s.modLink_only p fun l =>
    (Link.handControl { l with state := .up, goodCount := 0, lastGood := some s.now, hold := none, upSince := some s.now }
      (.state (s.snapshot p))).handControl (.screenLevel (s.screenLevel p))).widen (g := berthFoot) rfl).trans
    (State.modBerth_only _ p fun b => { b with reported := some (s.screenLevel p), headset := on })
  split
  · exact h.trans ((State.modLink_only _ p _).widen rfl)
  · exact h

theorem State.frameError_only (p : Port) (c : FrameError) : Only { links := true } s (s.frameError p c) := by
  unfold State.frameError
  split
  · dsimp only
    split
    · exact s.modLink_only p _
    · split
      · exact .refl _ _
      · exact (s.modLink_only p _).trans (State.modLink_only _ p _)
    · exact .refl _ _
    · exact .refl _ _
  · exact .refl _ _

theorem State.fault_only (p : Port) : Only voiceFoot s (s.fault p) := by
  unfold State.fault
  exact (s.leaveUp_only p .fault).trans ((State.modLink_only _ p _).widen rfl)

theorem State.resetLink_only (p : Port) : Only voiceFoot s (s.resetLink p) := by
  unfold State.resetLink
  refine Only.trans (t := if s.linkUp p then s.leaveUp p .down else s) ?_ ((State.modLink_only _ p _).widen rfl)
  split
  · exact s.leaveUp_only p .down
  · exact .refl _ _

/-! ## Taps, channels, the Originator, phases (chapters 3, 4, 5, 7) -/

theorem State.createTap_only (q : Nat) : Only tapFoot s (s.createTap q) := by
  unfold State.createTap
  exact (s.modTaps_only _).widen rfl

theorem State.sendWant_only : Only tapFoot s s.sendWant := by
  unfold State.sendWant
  exact ((s.handOver_only _).widen rfl).trans ((State.modTaps_only _ _).widen rfl)

/-- A changed selection. -/
theorem State.selectionChanged_only (p q : Nat) : Only tapFoot s (s.selectionChanged p q) := by
  unfold State.selectionChanged
  have h1 : ∀ b : Bool, Only tapFoot s
      (if b then s.modTaps fun t => { t with taps := t.taps.filter fun x => x.program ≠ p } else s) :=
    fun b => .ite ((s.modTaps_only _).widen rfl) (.refl _ _)
  have h2 := fun (b c : Bool) => Only.ite (c := c = true) ((h1 b).trans (State.createTap_only _ q)) (h1 b)
  exact .ite ((h2 _ _).trans (State.sendWant_only _)) (h2 _ _)

theorem State.buildTaps_only : Only tapFoot s s.buildTaps := by
  refine .foldl (fun t p => ?_) _ s
  dsimp only
  split
  · exact t.createTap_only _
  · exact .refl _ _

/-- One entry of a CARRY record at the catalogue. -/
theorem State.catalogueEntry_only (source : Nat) (e : CarryEntry) : Only { taps := true } s (s.catalogueEntry source e) := by
  unfold State.catalogueEntry
  split
  · exact .refl _ _
  · dsimp only
    split
    · exact (s.modTaps_only _).trans (State.modTaps_only _ _)
    · split
      · exact s.modTaps_only _
      · split
        · exact (s.modTaps_only _).trans (State.modTaps_only _ _)
        · exact .refl _ _

theorem State.takeCatalogue_only (source : Nat) (l : List CarryEntry) : Only { taps := true } s (s.takeCatalogue source l) :=
  .foldl (fun t e => t.catalogueEntry_only source e) l s

theorem State.takeProgramAudio_only (source program : Nat) (k : AudioPacket) :
    Only { taps := true } s (s.takeProgramAudio source program k) := by
  unfold State.takeProgramAudio
  split
  · split
    · exact .refl _ _
    · split
      · exact s.modTaps_only _
      · exact (s.modTaps_only _).trans (State.modTaps_only _ _)
  · exact .refl _ _

theorem State.takeProgramVideo_only (source program : Nat) (c : Chunk) :
    Only { taps := true, links := true } s (s.takeProgramVideo source program c) := by
  unfold State.takeProgramVideo
  split
  · split
    · exact .refl _ _
    · split
      · exact (s.modTaps_only _).widen rfl
      · split
        · exact .refl _ _
        · exact .foldl (fun t p => (t.modLink_only p _).widen rfl) _ s
  · exact .refl _ _

theorem State.sendCarry_only : Only carryFoot s s.sendCarry := by
  unfold State.sendCarry
  split
  · exact ((s.handOver_only _).widen rfl).trans ((State.setCarry_only _ _).widen rfl)
  · exact .refl _ _

theorem State.applyDecision_only (d : Decided) : Only carryFoot s (s.applyDecision d) := by
  unfold State.applyDecision
  dsimp only
  have h : ∀ (f : Standing → Channel → Channel) (l : List Standing) (u : State),
      Only carryFoot u (l.foldl (fun u x => u.modChan x.chan (f x)) u) :=
    fun f l u => .foldl (fun t x => (t.modChan_only x.chan (f x)).widen rfl) l u
  exact (((h _ _ s).trans (h _ _ _)).trans (h _ _ _)).trans (h _ _ _)

/-- The carry decision. -/
theorem State.carryDecision_only : Only carryFoot s s.carryDecision := by
  unfold State.carryDecision
  split
  · dsimp only
    split
    · exact s.applyDecision_only _
    · exact (s.applyDecision_only _).trans (State.sendCarry_only _)
  · exact .refl _ _

theorem State.wantAt_only (st : Nat) (l : List Nat) (c : Chan) : Only carryFoot s (s.wantAt st l c) := by
  unfold State.wantAt
  split
  · split
    · exact (s.modChan_only c _).widen rfl
    · exact (s.modChan_only c _).widen rfl
  · exact .refl _ _

theorem State.takeWant_only (st : Nat) (l : List Nat) : Only carryFoot s (s.takeWant st l) := by
  unfold State.takeWant
  split
  · have h : Only carryFoot s (allChans.foldl (fun t c => t.wantAt st l c) s) := .foldl (fun t c => t.wantAt_only st l c) _ s
    dsimp only
    split
    · exact h.trans (State.carryDecision_only _)
    · exact h
  · exact .refl _ _

theorem State.shadow_only (c : Chan) : Only carryFoot s (s.shadow c) := by
  unfold State.shadow
  dsimp only
  split
  · exact (s.modChan_only c _).widen rfl
  · exact (((s.modChan_only c _).widen rfl).trans (State.sendCarry_only _)).trans (State.carryDecision_only _)

theorem State.takeShadowing_only (source : Nat) (l : List CarryEntry) : Only carryFoot s (s.takeShadowing source l) := by
  unfold State.takeShadowing
  split
  · refine .foldl (fun t e => ?_) l s
    split
    · exact t.shadow_only _
    · exact .refl _ _
  · exact .refl _ _

theorem State.sendAnnounce_only (t : AnnTail) : Only origFoot s (s.sendAnnounce t) := by
  unfold State.sendAnnounce
  split
  · exact .refl _ _
  · exact (s.handOver_only _).widen rfl

theorem State.closeCollection_only (r : Result) : Only origFoot s (s.closeCollection r) := by
  unfold State.closeCollection
  split
  · exact .refl _ _
  · exact ((s.modOrig_only _).trans (State.modOrig_only _ _)).widen rfl

theorem State.acceptBegin_only (k : AnnClass) (a b c d e : Nat) : Only origFoot s (s.acceptBegin k a b c d e) := by
  unfold State.acceptBegin
  exact ((((s.modOrig_only _).widen rfl).trans ((State.modOrig_only _ _).widen rfl)).trans ((State.modOrig_only _ _).widen rfl)).trans
    (State.sendAnnounce_only _ _)

theorem State.sendEnd_only (r : EndReason) : Only origFoot s (s.sendEnd r) := by
  unfold State.sendEnd
  dsimp only
  have h := (s.sendAnnounce_only (.fin r)).trans ((State.modOrig_only _ fun o =>
    { o with state := .collecting, nextHold := none,
             ackTable := o.ackTable.map fun t => { t with windowEnd := some (s.now + ms 500) } }).widen rfl)
  split
  · split
    · exact h.trans (State.closeCollection_only _ _)
    · exact h
  · exact h

theorem State.takeAck_only (st : Nat) (id : AnnId) (c : Totals) : Only origFoot s (s.takeAck st id c) := by
  unfold State.takeAck
  split
  · split
    · exact .refl _ _
    · split
      · dsimp only
        split
        · exact ((s.modOrig_only _).widen rfl).trans (State.closeCollection_only _ _)
        · exact (s.modOrig_only _).widen rfl
      · exact .refl _ _
  · exact .refl _ _

theorem State.sendPhase_only : Only phaseFoot s s.sendPhase := by
  unfold State.sendPhase
  split
  · exact ((s.handOver_only _).widen rfl).trans ((State.setPhase_only _ _).widen rfl)
  · exact .refl _ _

theorem State.setPhaseState_only (x : PhaseState) : Only phaseFoot s (s.setPhaseState x) := by
  unfold State.setPhaseState
  exact ((s.setPhase_only _).widen rfl).trans
    ((State.recomputeAll_only _).widen rfl)

theorem State.takePhase_only (source : Nat) (e : Seq) (p setter : Nat) : Only phaseFoot s (s.takePhase source e p setter) := by
  unfold State.takePhase
  split
  · split
    · split
      · exact ((s.setPhase_only _).widen rfl).trans (State.setPhaseState_only _ _)
      · exact .refl _ _
    · exact (s.setPhase_only _).widen rfl
  · exact (s.setPhase_only _).widen rfl

/-! ## The peer list (chapter 9) -/

theorem State.refreshPeer_only (st : Nat) : Only trunkFoot s (s.refreshPeer st) := s.modTrunk_only _

theorem State.takePresence_only (source : Nat) (r : Presence) : Only trunkFoot s (s.takePresence source r) := by
  unfold State.takePresence
  split
  · exact .refl _ _
  · dsimp only
    split
    · exact (s.modTrunk_only _).trans (State.modTrunk_only _ _)
    · exact s.modTrunk_only _

end Sys2Proof.Machine
end

