-- ==== Sys2Proof/Laws/PerInstr.lean ====
section
/-! SUPPORT. The family `Senders`: a well-formed command that is a packet from the trunk names a station as its sender.
One lemma per constructor of Instr. -/

namespace Sys2Proof.Laws.Senders

/-- A well-formed command that brings a packet from the trunk brings it from a station number, 1..30 (chapter 12). -/
def Statement (i : Instr) : Prop :=
  i.wellFormed = true → ∀ p, Machine.receivedPacket i = some p → isStation p.source = true

/-- A command that brings no packet. -/
theorem of_none {i : Instr} (h : Machine.receivedPacket i = none) : Statement i := fun _ p hp => by
  rw [h] at hp
  cases hp

/-- A command that brings a packet. -/
theorem of_some {i : Instr} {q : Packet} (h : Machine.receivedPacket i = some q)
    (hw : i.wellFormed = true → isStation q.source = true) : Statement i := fun hi p hp => by
  rw [h] at hp
  cases hp
  exact hw hi

theorem powerOn : ∀ a, Statement (.powerOn a) := fun _ => of_none rfl

theorem resetNLow : Statement (.resetNLow) := of_none rfl

theorem resetNHigh : ∀ a, Statement (.resetNHigh a) := fun _ => of_none rfl

theorem configurationLoadEnd : ∀ a, Statement (.configurationLoadEnd a) := fun _ => of_none rfl

theorem loadTimeout : Statement (.loadTimeout) := of_none rfl

theorem listeningEnd : Statement (.listeningEnd) := of_none rfl

theorem softRestart : Statement (.softRestart) := of_none rfl

theorem restartPendingTimeout : Statement (.restartPendingTimeout) := of_none rfl

theorem serviceStatus : ∀ a b, Statement (.serviceStatus a b) := fun _ _ => of_some rfl (by simp +contextual [Instr.wellFormed])

theorem serviceCounters : ∀ a b, Statement (.serviceCounters a b) := fun _ _ => of_some rfl (by simp +contextual [Instr.wellFormed])

theorem clearCounters : ∀ a b, Statement (.clearCounters a b) := fun _ _ => of_some rfl (by simp +contextual [Instr.wellFormed])

theorem restart : ∀ a b, Statement (.restart a b) := fun _ _ => of_some rfl (by simp +contextual [Instr.wellFormed])

theorem oneShot : ∀ a b c, Statement (.oneShot a b c) := fun _ _ _ => of_some rfl (by simp +contextual [Instr.wellFormed])

theorem berthReset : ∀ a b c, Statement (.berthReset a b c) := fun _ _ _ => of_some rfl (by simp +contextual [Instr.wellFormed])

theorem serviceRequestUnknown : ∀ a b c, Statement (.serviceRequestUnknown a b c) := fun _ _ _ => of_some rfl (by simp +contextual [Instr.wellFormed])

theorem serviceReplyReceived : ∀ a, Statement (.serviceReplyReceived a) := fun _ => of_some rfl (by simp +contextual [Instr.wellFormed])

theorem trunkPacketDiscarded : ∀ a, Statement (.trunkPacketDiscarded a) := fun _ => of_none rfl

theorem programAudio : ∀ a b c d e, Statement (.programAudio a b c d e) := fun _ _ _ _ _ => of_some rfl (by simp +contextual [Instr.wellFormed])

theorem programVideo : ∀ a b c d, Statement (.programVideo a b c d) := fun _ _ _ _ => of_some rfl (by simp +contextual [Instr.wellFormed])

theorem carry : ∀ a b, Statement (.carry a b) := fun _ _ => of_some rfl (by simp +contextual [Instr.wellFormed])

theorem want : ∀ a b, Statement (.want a b) := fun _ _ => of_some rfl (by simp +contextual [Instr.wellFormed])

theorem announceLeadIn : ∀ a b, Statement (.announceLeadIn a b) := fun _ _ => of_some rfl (by simp +contextual [Instr.wellFormed])

theorem announceHold : ∀ a b, Statement (.announceHold a b) := fun _ _ => of_some rfl (by simp +contextual [Instr.wellFormed])

theorem announceSpeech : ∀ a b c d, Statement (.announceSpeech a b c d) := fun _ _ _ _ => of_some rfl (by simp +contextual [Instr.wellFormed])

theorem announceEnd : ∀ a b c, Statement (.announceEnd a b c) := fun _ _ _ => of_some rfl (by simp +contextual [Instr.wellFormed])

theorem ack : ∀ a b c d, Statement (.ack a b c d) := fun _ _ _ _ => of_some rfl (by simp +contextual [Instr.wellFormed])

theorem phase : ∀ a b c d, Statement (.phase a b c d) := fun _ _ _ _ => of_some rfl (by simp +contextual [Instr.wellFormed])

theorem presence : ∀ a b, Statement (.presence a b) := fun _ _ => of_some rfl (by simp +contextual [Instr.wellFormed])

theorem carrierDefer : ∀ a, Statement (.carrierDefer a) := fun _ => of_none rfl

theorem attemptStart : Statement (.attemptStart) := of_none rfl

theorem collision : Statement (.collision) := of_none rfl

theorem packetSent : Statement (.packetSent) := of_none rfl

theorem stale : Statement (.stale) := of_none rfl

theorem backedOffEnd : Statement (.backedOffEnd) := of_none rfl

theorem presencePeriod : Statement (.presencePeriod) := of_none rfl

theorem peerExpiry : ∀ a, Statement (.peerExpiry a) := fun _ => of_none rfl

theorem catalogueExpiry : ∀ a, Statement (.catalogueExpiry a) := fun _ => of_none rfl

theorem wantPeriod : Statement (.wantPeriod) := of_none rfl

theorem starvedTimeout : ∀ a, Statement (.starvedTimeout a) := fun _ => of_none rfl

theorem blockEvent : Statement (.blockEvent) := of_none rfl

theorem feedEvent : Statement (.feedEvent) := of_none rfl

theorem levelWindowEnd : ∀ a, Statement (.levelWindowEnd a) := fun _ => of_none rfl

theorem audioDelivery : ∀ a b c d, Statement (.audioDelivery a b c d) := fun _ _ _ _ => of_none rfl

theorem videoDelivery : ∀ a b, Statement (.videoDelivery a b) := fun _ _ => of_none rfl

theorem demandExpiry : ∀ a b, Statement (.demandExpiry a b) := fun _ _ => of_none rfl

theorem lingerEnd : ∀ a, Statement (.lingerEnd a) := fun _ => of_none rfl

theorem shadowEnd : ∀ a, Statement (.shadowEnd a) := fun _ => of_none rfl

theorem carryPeriod : Statement (.carryPeriod) := of_none rfl

theorem entryLost : ∀ a, Statement (.entryLost a) := fun _ => of_none rfl

theorem pendingWaitLimit : ∀ a b, Statement (.pendingWaitLimit a b) := fun _ _ => of_none rfl

theorem select : ∀ a b, Statement (.select a b) := fun _ _ => of_none rfl

theorem volume : ∀ a b, Statement (.volume a b) := fun _ _ => of_none rfl

theorem mute : ∀ a b, Statement (.mute a b) := fun _ _ => of_none rfl

theorem language : ∀ a b, Statement (.language a b) := fun _ _ => of_none rfl

theorem stop : ∀ a b c, Statement (.stop a b c) := fun _ _ _ => of_none rfl

theorem dnd : ∀ a b, Statement (.dnd a b) := fun _ _ => of_none rfl

theorem screen : ∀ a b, Statement (.screen a b) := fun _ _ => of_none rfl

theorem brightness : ∀ a b, Statement (.brightness a b) := fun _ _ => of_none rfl

theorem skip : ∀ a, Statement (.skip a) := fun _ => of_none rfl

theorem inactivityExpiry : ∀ a, Statement (.inactivityExpiry a) := fun _ => of_none rfl

theorem status : ∀ a b c, Statement (.status a b c) := fun _ _ _ => of_none rfl

theorem goodCountTimeout : ∀ a, Statement (.goodCountTimeout a) := fun _ => of_none rfl

theorem statusWatchExpiry : ∀ a, Statement (.statusWatchExpiry a) := fun _ => of_none rfl

theorem request : ∀ a b, Statement (.request a b) := fun _ _ => of_none rfl

theorem holdFrame : ∀ a, Statement (.holdFrame a) := fun _ => of_none rfl

theorem resume : ∀ a, Statement (.resume a) := fun _ => of_none rfl

theorem captionAck : ∀ a b c, Statement (.captionAck a b c) := fun _ _ _ => of_none rfl

theorem seatFrameError : ∀ a b, Statement (.seatFrameError a b) := fun _ _ => of_none rfl

theorem linkFault : ∀ a, Statement (.linkFault a) := fun _ => of_none rfl

theorem holdOffEnd : ∀ a, Statement (.holdOffEnd a) := fun _ => of_none rfl

theorem captionAckTimeout : ∀ a, Statement (.captionAckTimeout a) := fun _ => of_none rfl

theorem linkFrameSent : ∀ a, Statement (.linkFrameSent a) := fun _ => of_none rfl

theorem beginAnn : ∀ a b c d e f, Statement (.beginAnn a b c d e f) := fun _ _ _ _ _ _ => of_none rfl

theorem panelAudio : ∀ a, Statement (.panelAudio a) := fun _ => of_none rfl

theorem panelEnd : Statement (.panelEnd) := of_none rfl

theorem abort : Statement (.abort) := of_none rfl

theorem setPhase : ∀ a, Statement (.setPhase a) := fun _ => of_none rfl

theorem panelFrameError : Statement (.panelFrameError) := of_none rfl

theorem leadInEvent : Statement (.leadInEvent) := of_none rfl

theorem leadInComplete : Statement (.leadInComplete) := of_none rfl

theorem holdTimer : Statement (.holdTimer) := of_none rfl

theorem panelLost : Statement (.panelLost) := of_none rfl

theorem windowEnd : Statement (.windowEnd) := of_none rfl

theorem phasePeriod : Statement (.phasePeriod) := of_none rfl

end Sys2Proof.Laws.Senders
end

