-- ==== Sys2Proof/Tests/Slice0.lean ====
section
/-! SUPPORT. Tests. For each well-formedness check a term that it refuses; for each statement with hypotheses a state and
operands that meet them, at the boundaries of its clauses; and worked values of the spec. -/

namespace Sys2Proof.Tests

open Sys2Proof.Machine

/-! ## Small states -/

/-- The state that an outcome goes on with; the reset state where it stops. -/
def after (o : Host.Outcome State Fault Refusal) : State :=
  match o with
  | .next t => t
  | .fault _ => State.reset
  | .refused _ => State.reset

/-- An image with the panel enabled and two channels: program 24 with video, program 9 without. -/
def image : Image :=
  { defaultImage with
    panel := true,
    channels := (defaultImage.channels.set 0
      { program := 24, kind := .audioVideo, mode := .auto, trimMin := -3, trimMax := 3, initialTrim := 0 }).set 1
      { program := 9, kind := .audio, mode := .oneShot, trimMin := -3, trimMax := 3, initialTrim := 0 } }

/-- Station 7, RUNNING for a while. -/
def node : State :=
  { State.reset with
    now := sec 100,
    startup := { State.reset.startup with state := .running, straps := 7, station := 7, image := image },
    carry := { CarryCtl.initial image with nextFeed := some (sec 100), carryDue := some (sec 100) },
    mixer := { State.reset.mixer with nextBlock := some (sec 100) },
    phase := { own := { epoch := 5, phase := 0, setter := 7 }, phaseDue := some (sec 100), adoption := 0, phaseError := 0 },
    taps := { State.reset.taps with wantDue := some (sec 100) },
    trunk := { State.reset.trunk with presenceDue := some (sec 100), seed := 7 } }

/-- The node with the link of port 1 UP. -/
def up : State := node.modLink 0 fun l => { l with state := .up, lastGood := some (sec 100), upSince := some (sec 99) }

/-- A packet of one body handed over at a time. -/
def tx (b : Body) : TxPacket := { packet := { source := 7, body := b }, handed := sec 100, restartReply := false }

/-- A packet that the transmitter holds. -/
def held (b : Body) (attempts : Nat) (st : TxStage) : Current := { tx := tx b, attempts := attempts, stage := st, leaving := false }

/-- The node with a packet in its transmitter. -/
def withCurrent (s : State) (c : Current) : State := { s with trunk := { s.trunk with current := some c } }

/-- The node with queues of given lengths, its transmitter busy. -/
def queued (a b c : Nat) : State :=
  { node with trunk := { node.trunk with
      queueA := List.replicate a (tx (.phase 5 0 7)), queueB := List.replicate b (tx (.programAudio 24 0 0 [])),
      queueC := List.replicate c (tx (.want [9])), current := some (held (.want [9]) 1 (.sending (sec 100))) } }

/-- The same, its transmitter waiting, so that it listens. -/
def queuedListening (c : Nat) : State :=
  { node with trunk := { node.trunk with
      queueC := List.replicate c (tx (.want [9])), current := some (held (.want [9]) 1 (.waiting 200)) } }

/-- An announcement of a class by station 2, for every berth of the coach. -/
def ann (k : AnnClass) : Descriptor :=
  { id := { origin := 2, sequence := 50 }, cls := k, first := 1, last := 240, stop := 0, language := 0, caption := 14 }

/-- Another id. -/
def annNumber (n : Nat) : Descriptor := { ann .service with id := { origin := 3, sequence := BitVec.ofNat 8 n } }

/-- A berth record of port 1. -/
def record (r : Role) : BerthRec := { port := 0, berth := 1, role := r, card := false }

/-- An entry of an announcement, with one record at port 1. -/
def entry (d : Descriptor) (r : Role) (q : List SpeechBlock) : Entry :=
  { desc := d, state := .leadIn, queue := q, playout := .notStarted, lastPacket := sec 100, recs := [record r] }

/-- Speech blocks 1 to n. -/
def blocks (n : Nat) : List SpeechBlock := (List.range n).map fun i => { index := BitVec.ofNat 16 (i + 1), samples := [] }

/-- A state with a table of entries and a voice at port 1. -/
def announcing (s : State) (l : List Entry) (v : Voice) : State :=
  { s with voice := { s.voice with table := l, voices := s.voice.voices.set 0 v } }

/-- A tap of program 24 fed by station 5. -/
def tap (st : TapState) (e : Option Seq) (q : List AudioPacket) : Tap :=
  { program := 24, source := some 5, state := st, expected := e, queue := q, lastKept := sec 100 }

/-- The node with one tap. -/
def tapped (t : Tap) : State := { node with taps := { node.taps with taps := [t] } }

/-- A queued audio packet. -/
def audio (n : Nat) : AudioPacket := { sequence := BitVec.ofNat 16 n, trim := 0, frames := [] }

/-- 48 silent stereo frames. -/
def silence : List StereoFrame := List.replicate 48 silentFrame

/-- The Originator in a state with an announcement and an OPEN ack table of two stations. -/
def originating (st : OrigState) : State :=
  { node with orig := { node.orig with
      state := st, sequence := 50, desc := some { ann .service with id := { origin := 7, sequence := 50 } }, accepted := sec 100,
      leadIns := 19, nextBlock := .index 65535, lastAudio := sec 100, nextHold := some (sec 104),
      ackTable := some { id := { origin := 7, sequence := 50 }, cls := .service, first := 1, last := 240, closed := false,
                         expected := [5, 7], acked := [7], failed := [], totals := totalsZero, windowEnd := some (sec 100),
                         result := none, missing := [] } } }

/-- The node with a channel in a state. -/
def channel (st : ChanState) (f : Filling) (w : Option LevelWindow) : State :=
  node.modChan 0 fun c => { c with state := st, filling := f, window := w, lingerEnd := some (sec 100), shadowEnd := some (sec 100) }

/-- A catalogue entry of program 24 from a station. -/
def listedBy (n : Nat) (k : ProgramKind) : CatEntry := { program := 24, source := n, kind := k, status := .carried, listed := sec 100 }

/-- A state whose catalogue holds one entry. -/
def catalogued (s : State) (e : CatEntry) : State := { s with taps := { s.taps with catalogue := [e] } }

/-! ## Well-formedness -/

theorem test_refuses_configurationLoadEnd : Instr.wellFormed (.configurationLoadEnd [0#8]) = false := by decide
theorem test_refuses_serviceStatus_source : Instr.wellFormed (.serviceStatus 0 7) = false := by decide
theorem test_refuses_serviceStatus_target : Instr.wellFormed (.serviceStatus 5 256) = false := by decide
theorem test_refuses_serviceCounters : Instr.wellFormed (.serviceCounters 31 7) = false := by decide
theorem test_refuses_clearCounters : Instr.wellFormed (.clearCounters 31 7) = false := by decide
theorem test_refuses_restart : Instr.wellFormed (.restart 5 256) = false := by decide
theorem test_refuses_oneShot : Instr.wellFormed (.oneShot 5 7 256) = false := by decide
theorem test_refuses_berthReset : Instr.wellFormed (.berthReset 5 7 256) = false := by decide
theorem test_refuses_serviceRequestUnknown : Instr.wellFormed (.serviceRequestUnknown 5 7 256) = false := by decide
theorem test_refuses_serviceReplyReceived : Instr.wellFormed (.serviceReplyReceived 31) = false := by decide
theorem test_refuses_programAudio_trim : Instr.wellFormed (.programAudio 5 24 13 0 silence) = false := by decide
theorem test_refuses_programAudio_block : Instr.wellFormed (.programAudio 5 24 0 0 []) = false := by decide
theorem test_refuses_programAudio_program : Instr.wellFormed (.programAudio 5 256 0 0 silence) = false := by decide
theorem test_refuses_programVideo : Instr.wellFormed (.programVideo 5 24 0 (List.replicate 1401 0#8)) = false := by decide +kernel
theorem test_refuses_carry_length : Instr.wellFormed (.carry 5 (List.replicate 9 { program := 24, kind := .audio, status := .idle })) = false := by decide
theorem test_refuses_carry_program : Instr.wellFormed (.carry 5 [{ program := 256, kind := .audio, status := .idle }]) = false := by decide
theorem test_refuses_want_length : Instr.wellFormed (.want 5 (List.replicate 13 24)) = false := by decide
theorem test_refuses_want_program : Instr.wellFormed (.want 5 [256]) = false := by decide
theorem test_refuses_announceLeadIn : Instr.wellFormed (.announceLeadIn 5 { ann .service with last := 241 }) = false := by decide
theorem test_refuses_announceHold : Instr.wellFormed (.announceHold 5 { ann .service with stop := 100 }) = false := by decide
theorem test_refuses_announceSpeech_block : Instr.wellFormed (.announceSpeech 5 (ann .service) 0 []) = false := by decide
theorem test_refuses_announceSpeech_language : Instr.wellFormed (.announceSpeech 5 { ann .service with language := 4 } 0 (List.replicate 48 0#16)) = false := by decide
theorem test_refuses_announceEnd_origin : Instr.wellFormed (.announceEnd 5 { ann .service with id := { origin := 0, sequence := 0 } } .normal) = false := by decide
theorem test_refuses_announceEnd_window : Instr.wellFormed (.announceEnd 5 { ann .service with first := 9, last := 8 } .normal) = false := by decide
theorem test_refuses_announceEnd_caption : Instr.wellFormed (.announceEnd 5 { ann .service with caption := 256 } .normal) = false := by decide
theorem test_refuses_ack_origin : Instr.wellFormed (.ack 5 { origin := 31, sequence := 0 } totalsZero []) = false := by decide
theorem test_refuses_ack_counts : Instr.wellFormed (.ack 5 { origin := 2, sequence := 0 } { totalsZero with audio := 13 } []) = false := by decide
theorem test_refuses_ack_items : Instr.wellFormed (.ack 5 { origin := 2, sequence := 0 } totalsZero (List.replicate 13 { berth := 1, outcome := .audio })) = false := by decide
theorem test_refuses_ack_berth : Instr.wellFormed (.ack 5 { origin := 2, sequence := 0 } totalsZero [{ berth := 241, outcome := .audio }]) = false := by decide
theorem test_refuses_phase : Instr.wellFormed (.phase 5 0 256 7) = false := by decide
theorem test_refuses_presence : Instr.wellFormed (.presence 5 { first := 256, last := 0, berthsUp := 0, epoch := 0, feeds := .yes, panel := .no }) = false := by decide
theorem test_refuses_carrierDefer : Instr.wellFormed (.carrierDefer 0) = false := by decide
theorem test_refuses_peerExpiry : Instr.wellFormed (.peerExpiry 0) = false := by decide
theorem test_refuses_catalogueExpiry : Instr.wellFormed (.catalogueExpiry 64) = false := by decide
theorem test_refuses_starvedTimeout : Instr.wellFormed (.starvedTimeout 0) = false := by decide
theorem test_refuses_audioDelivery : Instr.wellFormed (.audioDelivery 256 true [] none) = false := by decide
theorem test_refuses_videoDelivery : Instr.wellFormed (.videoDelivery 256 []) = false := by decide
theorem test_refuses_demandExpiry : Instr.wellFormed (.demandExpiry 0 0) = false := by decide
theorem test_refuses_entryLost : Instr.wellFormed (.entryLost { origin := 31, sequence := 0 }) = false := by decide
theorem test_refuses_pendingWaitLimit : Instr.wellFormed (.pendingWaitLimit 0 { origin := 0, sequence := 0 }) = false := by decide
theorem test_refuses_select : Instr.wellFormed (.select 0 256) = false := by decide
theorem test_refuses_volume : Instr.wellFormed (.volume 0 256) = false := by decide
theorem test_refuses_language : Instr.wellFormed (.language 0 256) = false := by decide
theorem test_refuses_stop : Instr.wellFormed (.stop 0 256 true) = false := by decide
theorem test_refuses_brightness : Instr.wellFormed (.brightness 0 256) = false := by decide
theorem test_refuses_request : Instr.wellFormed (.request 0 []) = false := by decide
theorem test_refuses_captionAck : Instr.wellFormed (.captionAck 0 256 .show) = false := by decide
theorem test_refuses_beginAnn : Instr.wellFormed (.beginAnn 256 1 12 0 0 0) = false := by decide
theorem test_refuses_panelAudio : Instr.wellFormed (.panelAudio []) = false := by decide
theorem test_refuses_setPhase : Instr.wellFormed (.setPhase 256) = false := by decide

/-! ## States and operands that meet the statements' hypotheses -/

theorem test_witness_StepRunsTheFrontCommand :
    ({ node with pending := [.stale, .abort] }).pending = .stale :: [.abort] := by decide

theorem test_witness_StepRunsTheFrontCommand_idle :
    node.pending = [] ∧ (∃ x ∈ node.timers, x.1 ≤ node.now) ∧ (∀ x ∈ ({ node with now := sec 99 }).timers, sec 99 < x.1) := by
  decide

theorem test_witness_TransmitQueuesStayBounded :
    (queued 8 16 32).trunk.bounded = true ∧ isNext (step (queued 8 16 32)) = true := by decide

theorem test_witness_LinkQueuesStayBounded :
    let s := up.modLink 0 fun l => { l with control := List.replicate 16 (.screenLevel 0), faults := [sec 99, sec 100] }
    let s := { s with pending := [.resume 0] }
    s.linksBounded = true ∧ isNext (step s) = true := by decide

theorem test_witness_BerthRecordsStayInRange :
    let s := up.modBerth 0 fun b => { b with volume := 31, program := 63, brightness := 15, stop := 99, language := 3,
                                             timer := .held inactivityLimit, reported := some 255 }
    let s := { s with pending := [.volume 0 255] }
    s.berthsInRange = true ∧ isNext (step s) = true := by decide

theorem test_witness_VoiceListsStayBounded :
    let s := announcing up ((List.range 4).map fun i => entry (annNumber i) .pending [])
               { serving := .idle, pending := (List.range 3).map fun i => ((annNumber i).id, 0) }
    let s := { s with pending := [.pendingWaitLimit 0 (annNumber 0).id] }
    s.voice.bounded = true ∧ isNext (step s) = true := by decide

theorem test_witness_PhaseEpochNeverGoesBack :
    isNext (exec (.setPhase 2) node) = true ∧ isNext (exec (.phase 5 6 2 9) node) = true := by decide

theorem test_witness_StartsReachLoading :
    node.startup.resetN = true ∧ (0#5).toNat = 0 ∧ (31#5).toNat = 31 ∧ (1 ≤ (1#5).toNat ∧ (1#5).toNat ≤ 30) ∧
      (1 ≤ (30#5).toNat ∧ (30#5).toNat ≤ 30) := by decide

theorem test_witness_LoadEndsByImageOrTimeout :
    (let s : State := { State.reset with now := ms 50, startup := { State.reset.startup with loadSince := some 0 } }
     s.startup.loadSince = some 0 ∧ s.now ≤ 0 + ms 50 ∧ s.startup.strapFault = false ∧
       ({ s with startup := { s.startup with strapFault := true } }).startup.strapFault = true) ∧
      (List.replicate 658 0#8).length = 658 := by decide +kernel

theorem test_witness_LoadEndsByImageOrTimeout_checksum :
    (List.replicate 656 0#8 ++ [0#8, 0#8]).length = 658 ∧ (List.replicate 656 0#8 ++ [0#8, 1#8]).length = 658 ∧
    checksumGood (List.replicate 656 0#8 ++ [0#8, 0#8]) = true ∧ checksumGood (List.replicate 656 0#8 ++ [0#8, 1#8]) = false := by
  refine ⟨?_, ?_, ?_, ?_⟩ <;> simp only [List.length_append, List.length_replicate, checksumGood_zeros] <;> decide

theorem test_witness_ListeningEndEntersRunning :
    let s : State := { node with startup := { node.startup with state := .listening, listenEnd := some (sec 101) } }
    s.startup.state = .listening ∧ s.startup.listenEnd = some (sec 101) ∧ s.trunk.queueA.length < 8 ∧ s.trunk.queueC.length + 3 ≤ 32 := by decide

theorem test_witness_SoftRestartKeepsAndClears :
    ({ node with startup := { node.startup with restart := some (sec 101) } }).startup.restart = some (sec 101) ∧
      node.startup.restart = none ∧ node.trunk.current = none ∧
      (withCurrent node (held (.want [9]) 0 (.waiting 200))).trunk.current = some (held (.want [9]) 0 (.waiting 200)) ∧
      (withCurrent node (held (.want [9]) 1 (.sending 5))).trunk.current = some (held (.want [9]) 1 (.sending 5)) := by decide

theorem test_witness_ServiceReportsAndIgnoredRequests :
    up.takesFrom 5 = true ∧ up.running = true ∧
      serviceRequest (.restart 5 8) = some (5, 8, .restart, 0) ∧ 8 ≠ up.startup.station ∧
      ({ up with startup := { up.startup with state := .listening } }).takesFrom 5 = true ∧
      ({ up with startup := { up.startup with state := .listening } }).running = false := by decide

theorem test_witness_ClearCountersClearsEveryCounter :
    ((queuedListening 31).takesFrom 5 = true ∧ (queuedListening 31).running = true ∧ (queuedListening 31).trunk.queueC.length < 32) ∧
      ((queuedListening 32).takesFrom 5 = true ∧ 32 ≤ (queuedListening 32).trunk.queueC.length) ∧ bodyOk (.want [9]) = true ∧
      1 ≤ node.startup.station ∧ node.startup.station ≤ 30 := by decide

theorem test_witness_RestartWaitsForItsReply :
    ((queuedListening 31).takesFrom 5 = true ∧ (queuedListening 31).startup.restart = none ∧ (queuedListening 31).trunk.queueC.length < 32) ∧
      ((queuedListening 32).running = true ∧ (queuedListening 32).startup.restart = none ∧ 32 ≤ (queuedListening 32).trunk.queueC.length) ∧
      ({ node with startup := { node.startup with restart := some (sec 101) } }).takesFrom 5 = true := by decide

theorem test_witness_OneShotRequest :
    node.takesFrom 5 = true ∧ node.running = true ∧ node.image.feeder 24 = some 0 ∧ node.image.feeder 25 = none ∧
      ((channel .carried .empty none).chan 0).carried = true ∧ (node.chan 0).carried = false ∧
      (let s := channel .carried .empty (some { count := 1000, peak := 26001 })
       (s.chan 0).carried = true ∧ (s.chan 0).window = some { count := 1000, peak := 26001 } ∧ 1000 ≤ 1000) := by decide

theorem test_witness_BerthResetRequest :
    up.takesFrom 5 = true ∧ up.running = true ∧ up.image.berthCount < 13 ∧ portNumber 11 = 12 ∧ 12 ≤ up.image.berthCount ∧
      up.links[(0 : Port)].state = .up ∧ up.links[(0 : Port)].resets = [] ∧ up.links[(0 : Port)].sending = none ∧
      (up.modLink 0 fun l => { l with sending := some (.video { sequence := 1, payload := [] }) }).links[(0 : Port)].sending =
        some (.video { sequence := 1, payload := [] }) ∧
      (up.modLink 0 fun l => { l with sending := some (.screenLevel 0) }).links[(0 : Port)].sending = some (.screenLevel 0) := by decide

theorem test_witness_ReceiveSideChecks_packets :
    receivedPacket (.want 0 [9]) = some { source := 0, body := .want [9] } ∧ node.listens = true ∧ State.reset.loading = true ∧
      receivedPacket (.want 31 [9]) = some { source := 31, body := .want [9] } ∧
      receivedPacket (.want 7 [9]) = some { source := 7, body := .want [9] } ∧ bodyOk (.want [9]) = true ∧
      bodyOk (.programAudio 24 13 0 silence) = false ∧ bodyOk (.programAudio 24 12 0 silence) = true ∧ node.startup.station = 7 := by decide

theorem test_witness_ReceiveSideChecks_bytes :
    node.listens = true ∧ (List.replicate 7 0#8).length < 8 ∧
      (let l : List Byte := [1#8, 5#8, 0#8, 8#8, 0#8, 0#8, 0#8, 0#8]
       8 ≤ l.length ∧ 4 ≤ wordAt l 2 ∧ wordAt l 2 ≤ l.length ∧
         crcBytes (crc32 (l.take (wordAt l 2 - 4))) ≠ (l.drop (wordAt l 2 - 4)).take 4) ∧
      (let l : List Byte := filled (packetBytesOf 11 5 [])
       8 ≤ l.length ∧ 4 ≤ wordAt l 2 ∧ wordAt l 2 ≤ l.length ∧
         crcBytes (crc32 (l.take (wordAt l 2 - 4))) = (l.drop (wordAt l 2 - 4)).take 4 ∧ 10 < byteAt l 0) := by decide +kernel

theorem test_witness_PeerListTakesRecords :
    node.takesFrom 1 = true ∧ node.takesFrom 30 = true ∧
      ({ node with trunk := { node.trunk with peers := [Peer.fresh 5 (sec 99)] } }).peer? 5 = some (Peer.fresh 5 (sec 99)) := by decide

theorem test_witness_PeerListTakesRecords_order :
    let s : State := { node with trunk := { node.trunk with peers := [Peer.fresh 1 (sec 99), Peer.fresh 30 (sec 99)] } }
    s.takesFrom 5 = true ∧ s.peer? 5 = none ∧ s.trunk.peers.Pairwise (fun x y => x.station < y.station) := by decide

theorem test_witness_HandOverByClass :
    (queued 7 15 31).running = true ∧ (queued 7 15 31).trunk.current.isSome = true ∧ accessClass (.phase 5 0 7) = .a ∧
      accessClass (.programAudio 24 0 0 []) = .b ∧ accessClass (.want [9]) = .c ∧
      (queued 7 15 31).trunk.queueA.length < 8 ∧ (queued 7 15 31).trunk.queueB.length < 16 ∧ (queued 7 15 31).trunk.queueC.length < 32 ∧
      (queued 8 16 32).trunk.queueA.length = 8 ∧ (queued 8 16 32).trunk.queueB.length = 16 ∧ (queued 8 16 32).trunk.queueC.length = 32 ∧
      node.trunk.current = none ∧ node.trunk.mode = .enabled ∧ node.trunk.queueA = [] ∧ node.trunk.queueB = [] ∧ node.trunk.queueC = [] := by decide

theorem test_witness_HandOverByClass_backedOff :
    let s : State := { node with trunk := { (queued 7 15 31).trunk with current := none, mode := .backedOff (sec 101) } }
    let f : State := { node with trunk := { (queued 8 16 32).trunk with current := none, mode := .backedOff (sec 101) } }
    s.running = true ∧ s.trunk.mode ≠ .enabled ∧ s.trunk.current = none ∧ s.trunk.queueA.length < 8 ∧ s.trunk.queueB.length < 16 ∧
      s.trunk.queueC.length < 32 ∧ f.trunk.queueA.length = 8 ∧ f.trunk.queueB.length = 16 ∧ f.trunk.queueC.length = 32 := by decide

theorem test_witness_TransmitterWaitsAndAges :
    node.listens = true ∧
      (let c := held (.programAudio 24 0 0 []) 0 (.waiting (us 4))
       let s : State := { withCurrent node c with now := sec 100 + ms 2, trunk := { (withCurrent node c).trunk with idleFrom := sec 100 } }
       s.trunk.current = some c ∧ max s.now (s.trunk.idleFrom + us 4) ≤ c.tx.handed + ms 2 ∧ c.tx.cls = .b) ∧
      (let s : State := { node with trunk := { node.trunk with queueB := [tx (.programAudio 24 0 0 [])] } }
       s.trunk.current = none ∧ s.trunk.queueB = [tx (.programAudio 24 0 0 [])]) ∧
      (let s := queued 0 1 0
       s.trunk.current = some (held (.want [9]) 1 (.sending (sec 100))) ∧ (held (.want [9]) 1 (.sending (sec 100))).tx.cls ≠ .b ∧
         s.trunk.queueB = [tx (.programAudio 24 0 0 [])]) ∧
      (let s : State := { node with trunk := { node.trunk with mode := .backedOff (sec 101), queueC := [tx (.want [9])] } }
       s.trunk.mode = .backedOff (sec 101) ∧ s.trunk.current = none ∧ s.trunk.queueA = [] ∧ s.trunk.queueB = [] ∧
         s.trunk.queueC = [tx (.want [9])]) := by decide

theorem test_witness_CollisionBacksOff :
    (let s := withCurrent node (held (.want [9]) 15 (.sending (sec 100)))
     s.trunk.current = some (held (.want [9]) 15 (.sending (sec 100))) ∧ 15 < 16) ∧
      (let s := withCurrent { node with trunk := { node.trunk with failures := 63 } } (held (.want [9]) 16 (.sending (sec 100)))
       s.trunk.current = some (held (.want [9]) 16 (.sending (sec 100))) ∧ 64 ≤ s.trunk.failures + 1 ∧
         (held (.want [9]) 16 (.sending (sec 100))).tx.restartReply = false ∧ node.trunk.failures + 1 < 64) ∧
      (let c : Current := { held (.serviceReply .restart .accepted .none) 16 (.sending (sec 100)) with
                            tx := { tx (.serviceReply .restart .accepted .none) with restartReply := true } }
       let s := withCurrent { node with startup := { node.startup with restart := some (sec 101) } } c
       s.trunk.current = some c ∧ c.leaving = false ∧ s.startup.restart.isSome = true) ∧
      ({ held (.want [9]) 1 (.sending (sec 100)) with leaving := true }).leaving = true := by decide

theorem test_witness_PacketSentLoopsBack :
    (let s := withCurrent node (held (.want [9]) 1 (.sending (sec 100)))
     s.trunk.current = some (held (.want [9]) 1 (.sending (sec 100))) ∧ (held (.want [9]) 1 (.sending (sec 100))).tx.restartReply = false ∧
       bodyOk (.want [9]) = true ∧ bodyOk (.programAudio 24 13 0 silence) = false) ∧
      (let c : Current := { held (.serviceReply .restart .accepted .none) 1 (.sending (sec 100)) with
                            tx := { tx (.serviceReply .restart .accepted .none) with restartReply := true } }
       let s := withCurrent { node with startup := { node.startup with restart := some (sec 101) } } c
       s.trunk.current = some c ∧ c.tx.restartReply = true ∧ c.leaving = false ∧ s.startup.restart.isSome = true ∧
         c.tx.packet.body = .serviceReply .restart .accepted .none) := by decide

theorem test_witness_PeriodicRecords :
    node.running = true ∧ node.trunk.presenceDue = some (sec 100) ∧ node.taps.wantDue = some (sec 100) ∧
      node.carry.carryDue = some (sec 100) ∧ node.phase.phaseDue = some (sec 100) := by decide

theorem test_witness_EntriesAgeOut :
    ({ node with trunk := { node.trunk with peers := [Peer.fresh 5 (sec 99)] } }).peer? 5 = some (Peer.fresh 5 (sec 99)) ∧
      (catalogued node (listedBy 5 .audio)).catEntry? 24 = some (listedBy 5 .audio) ∧
      (tapped (tap .starved (some 3) [])).tap? 24 = some (tap .starved (some 3) []) := by decide

theorem test_witness_PacketsSurviveTheTrunk :
    encodable { source := 5, body := .programAudio 24 (-12) 65535 silence } = true ∧
      encodable { source := 30, body := .announce (ann .service) .leadIn } = true ∧
      encodable { source := 1, body := .ack { origin := 2, sequence := 50 } { totalsZero with audio := 1 } [{ berth := 1, outcome := .audio }] } = true ∧
      255 ≤ 255 ∧ (bodyBytes (.programAudio 24 (-12) 65535 silence)).length ≤ 65527 := by decide +kernel

theorem test_witness_PacketsSurviveTheTrunk_lengths :
    (1 ≤ 30 ∧ 30 ≤ 30) ∧ (List.replicate 4 0#8).length = 4 ∧ (List.replicate 3 0#8).length < 4 ∧
      (List.replicate 1403 0#8).length ≤ 1403 ∧ leastLength 7 ≤ (List.replicate 1403 0#8).length ∧
      (List.replicate 2 0#8).length < leastLength 7 := by
  have h : 3 ≤ leastLength 7 := leastBytes_le_leastLength 7
  refine ⟨by decide, by decide, by decide, List.length_replicate.le, ?_, by rw [List.length_replicate]; omega⟩
  rw [List.length_replicate, leastLength, leastBytes, bodyLimit]
  · omega
  · decide

theorem test_witness_RequestFramesAreRead :
    requestOf 6#8 17#8 1#8 = some (.stop 17 true) ∧ (0#8).toNat = 0 ∧ 9 < (10#8).toNat ∧ requestOf 9#8 0#8 0#8 = some .skip := by decide

theorem test_witness_RequestFramesAreRead_badCheck :
    [0x00#8, 0x00#8] ≠ wordBytes (crc16 [0x22#8, 6#8, 17#8, 1#8]) := by decide +kernel

theorem test_witness_CarryRecordsAreTaken :
    node.takesFrom 5 = true ∧ node.takesFrom 9 = true ∧ node.catEntry? 24 = none ∧
      (catalogued node (listedBy 5 .audio)).catEntry? 24 = some (listedBy 5 .audio) ∧ (listedBy 5 .audio).source < 9 ∧
      node.running = true ∧ 5 < node.startup.station ∧ node.startup.station < 9 ∧ node.image.feeder 24 = some 0 ∧
      (node.chan 0).state ≠ .shadowed ∧ ((channel .shadowed .empty none).chan 0).state = .shadowed ∧
      (let e : CarryEntry := { program := 24, kind := .audio, status := .idle }
       let l : List CarryEntry := [{ e with status := .carried }, { e with program := 9 }, e]
       (l.filter fun x => x.program == 24).getLast? = some e ∧ (∃ x ∈ l, node.image.feeder x.program = some 0) ∧
         (tapped (tap .playing (some 3) [])).tap? 24 = some (tap .playing (some 3) []) ∧ (tap .playing (some 3) []).source = some 5 ∧
         ({ tapped (tap .playing (some 3) []) with taps := { (tapped (tap .playing (some 3) [])).taps with catalogue := [listedBy 9 .audio] } }).catEntry? 24 =
           some (listedBy 9 .audio)) := by decide

theorem test_witness_CarryRecordsAreTaken_shadowing :
    let l : List CarryEntry := [{ program := 24, kind := .audio, status := .idle }]
    let listening : State := { node with startup := { node.startup with state := .listening } }
    node.running = true ∧ (node.chan 0).state ≠ .shadowed ∧ (∃ e ∈ l, node.image.feeder e.program = some 0) ∧
      (∀ d : Chan, (∃ e ∈ l, node.image.feeder e.program = some d) → d = 0) ∧ node.image.feedsApart = true ∧
      listening.takesFrom 5 = true ∧ listening.running = false ∧
      ((channel .shadowed .empty none).chan 0).state = .shadowed ∧ ((channel .shadowed .empty none).takesFrom 5 = true) := by decide

theorem test_witness_ProgramAudioAtItsTap :
    node.takesFrom 5 = true ∧ silence.length = 48 ∧ (tapped (tap .waiting none [])).tap? 24 = some (tap .waiting none []) ∧
      (tapped (tap .playing (some 10) [audio 10])).running = true ∧ (tap .playing (some 10) [audio 10]).source ≠ some 6 ∧
      32768 ≤ (32778#16 - 10#16).toNat ∧ 256 ≤ (32777#16 - 10#16).toNat ∧ (32777#16 - 10#16).toNat < 32768 ∧
      256 ≤ (266#16 - 10#16).toNat ∧ (265#16 - 10#16).toNat < 256 ∧ (∃ y ∈ [audio 10], y.sequence = 10#16) ∧
      (∀ y ∈ [audio 10], y.sequence ≠ 265#16) ∧ [audio 10].length < node.image.depth := by decide

theorem test_witness_ProgramAudioAtItsTap_slip :
    let q := (List.range 8).map fun i => audio (11 + i)
    (tapped (tap .playing (some 10) q)).tap? 24 = some (tap .playing (some 10) q) ∧ q.length = node.image.depth ∧ 0 < node.image.depth ∧
      (∀ y ∈ q, y.sequence ≠ 19#16) ∧ (19#16 - 10#16).toNat < 256 ∧ (∀ z ∈ q, (z.sequence - 10#16).toNat < (19#16 - 10#16).toNat) ∧
      (∀ y ∈ q, y.sequence ≠ 10#16) ∧ (∀ z ∈ q, (10#16 - 10#16).toNat < (z.sequence - 10#16).toNat) := by decide

theorem test_witness_ProgramAudioAtItsTap_order :
    ([audio 10, audio 12]).Pairwise (fun a b => (a.sequence - 10#16).toNat < (b.sequence - 10#16).toNat) ∧
      (∀ y ∈ [audio 10, audio 12], y.sequence ≠ 11#16) ∧ (11#16 - 10#16).toNat < 256 ∧
      [audio 10, audio 12].length < node.image.depth := by decide

theorem test_witness_VideoIsForwarded_queue :
    let l := up.links[(0 : Port)]
    l.sending = none ∧ l.hold = none ∧ l.resets = [] ∧ l.control = [] ∧ l.audio = none ∧
      ({ l with hold := some (sec 100) }).hold.isSome = true ∧ ({ l with sending := some (.screenLevel 0) }).sending.isSome = true ∧
      ({ l with video := List.replicate 8 { sequence := 0, payload := [] } }).video.length = 8 := by decide

theorem test_witness_VideoIsForwarded :
    let s := (catalogued { up with taps := (tapped (tap .waiting none [])).taps } (listedBy 5 .audioVideo)).modBerth 0 fun b => { b with program := 24 }
    s.takesFrom 5 = true ∧ s.running = true ∧ List.replicate 1400 0#8 ≠ [] ∧ (List.replicate 1400 0#8).length ≤ 1400 ∧ s.tap? 24 = some (tap .waiting none []) ∧
      (s.catEntry? 24).map CatEntry.kind ≠ some .audio ∧ s.inService 0 = true ∧ (s.berth 0).program = 24 ∧ (s.berth 0).screen = .on ∧
      (s.berth 0).hold = false ∧ s.links[(0 : Port)].state = .up ∧ s.links[(1 : Port)].state ≠ .up := by decide +kernel

theorem test_witness_SelectMovesTheTap :
    (up.linkRuns 0 && up.linkUp 0) = true ∧ (up.catEntry? 63) = none ∧
      (let s := (catalogued up (listedBy 5 .audio)).modBerth 0 fun b => { b with program := 9 }
       (s.catEntry? 24).isSome = true ∧ s.running = true ∧ (s.berth 0).program ≠ 24 ∧ (s.berth 0).program ≠ 0 ∧
         (∀ o : Port, o ≠ 0 → s.inService o = true → (s.berth o).program ≠ (s.berth 0).program) ∧
         (after (exec (.select 0 24) s)).taps.taps.map Tap.program ≠ s.taps.taps.map Tap.program) ∧
      (let s : State := { up with startup := { up.startup with state := .listening } }
       (s.linkRuns 0 && s.linkUp 0) = true ∧ s.running = false) := by decide

theorem test_witness_levels :
    let full := up.modLink 0 fun l => { l with control := List.replicate 15 (.screenLevel 0), sending := some (.screenLevel 0) }
    let free := up.modLink 0 fun l => { l with control := List.replicate 14 (.screenLevel 0) }
    (full.linkRuns 0 && full.linkUp 0) = true ∧ full.links[(0 : Port)].sending.isSome = true ∧
      (free.linkRuns 0 && free.linkUp 0) = true ∧ free.links[(0 : Port)].sending = none ∧ free.links[(0 : Port)].resets = [] ∧
      (free.berth 0).reported ≠ some ((after (exec (.brightness 0 15) free)).screenLevel 0) := by decide

theorem test_witness_SelectMovesTheTap_taps :
    let s := (catalogued up (listedBy 5 .audio)).modBerth 0 fun b => { b with program := 9 }
    let kept := (s.modBerth 1 fun b => { b with program := 9 })
    s.tap? 24 = none ∧ ({ s with taps := { s.taps with taps := [tap .playing (some 3) []] } }).tap? 24 = some (tap .playing (some 3) []) ∧
      (∃ o : Port, o ≠ 0 ∧ kept.inService o = true ∧ (kept.berth o).program = (kept.berth 0).program) := by decide

theorem test_witness_BrightnessIsClampedAndKept :
    (up.linkRuns 0 && up.linkUp 0) = true ∧ ¬ 15 < 15 ∧ 15 < 16 ∧ (up.berth 0).screen = .on ∧
      ((up.modBerth 0 fun b => { b with hold := true, screen := .off }).berth 0).hold = true := by decide

theorem test_witness_SettingsAreTaken :
    (up.linkRuns 0 && up.linkUp 0) = true ∧ 31 < 32 ∧ ¬ 31 < 31 ∧ 3 ≤ 3 ∧ 3 < 4 ∧ 99 ≤ 99 ∧ 99 < 100 := by decide

theorem test_witness_AttentionMoves_dnd :
    (up.linkRuns 0 && up.linkUp 0) = true ∧ up.currentId 0 = none ∧
      (let s := announcing up [entry (ann .service) .inService []] { serving := .chime (ann .service).id, pending := [] }
       s.currentId 0 = some (ann .service).id ∧ s.classOfId (ann .service).id = some .service ∧
         s.record? (ann .service).id 0 = some (record .inService) ∧ (∀ x ∈ (s.berthVoice 0).pending, x.1 ≠ (ann .service).id)) := by decide

/-- An announcement of a class in service at port 1, speaking, and a SAFETY one and a SERVICE one that wait behind it. -/
def waiting (s : State) (k : AnnClass) : State :=
  announcing s
    [entry (ann k) .inService [], entry { annNumber 1 with cls := .safety } .pending [], entry (annNumber 2) .pending []]
    { serving := .speaking (ann k).id, pending := [((annNumber 1).id, sec 99), ((annNumber 2).id, sec 99)] }

theorem test_witness_AttentionMoves_waiting :
    (let s := waiting up .service
     s.currentId 0 = some (ann .service).id ∧ s.classOfId (ann .service).id = some .service ∧ (s.linkRuns 0 && s.linkUp 0) = true ∧
       (∀ x ∈ (s.berthVoice 0).pending, x.1 ≠ (ann .service).id) ∧ s.record? (annNumber 1).id 0 = some (record .pending) ∧
       ((s.berthVoice 0).pending.map Prod.fst).Nodup ∧ s.links[(0 : Port)].control.length ≤ 12) ∧
      (let s := waiting up .emergency
       (s.currentId 0).bind s.classOfId = some .emergency ∧ (s.linkRuns 0 && s.linkUp 0) = true) := by decide

theorem test_witness_AttentionMoves_inactivity :
    (up.berth 0).timer = .counting 0 ∧ (up.berth 0).attention = .awake ∧ up.inService 0 = true ∧
      (up.modBerth 0 fun b => { b with attention := .dnd }).berth 0 = { up.berth 0 with attention := .dnd } := by decide

theorem test_witness_FeedEventSettlesChannels :
    (channel .carried (.complete silence) none).carry.nextFeed = some (sec 100) ∧ (channel .carried (.complete silence) none).inUse 0 = true ∧
      ((channel .carried (.complete silence) none).chan 0).filling = .complete silence ∧ node.inUse 2 = false ∧
      (let s : State := { channel .carried (.complete silence) none with trunk := (queued 0 16 0).trunk }
       s.running = true ∧ s.trunk.queueB.length ≤ 16 ∧ s.trunk.current.isSome = true ∧ s.feedPacket 0 = some (.programAudio 24 0 0 silence)) ∧
      (let s := channel .carried (.complete silence) none
       s.running = true ∧ s.trunk.queueB.length + ((s.sendingChannels.filterMap s.feedPacket).map (handedBy s s)).length ≤ 16) ∧
      (channel .carried .ended none).feedPacket 0 = none := by decide

theorem test_witness_FeedEventSettlesChannels_window :
    let s := channel .carried (.complete silence) (some { count := 999, peak := 5 })
    let e := channel .carried (.complete silence) (some { count := 1000, peak := 5 })
    s.carry.nextFeed = some (sec 100) ∧ s.inUse 0 = true ∧ (s.chan 0).filling = .complete silence ∧ (s.chan 0).carried = true ∧
      (s.chan 0).window = (s.chan 0).window.filter (fun w => decide (w.count < 1000)) ∧
      (e.chan 0).window = some { count := 1000, peak := 5 } ∧ (s.chan 0).mode = .auto := by decide +kernel

theorem test_witness_LevelWindowMovesTheTrim :
    ((channel .carried .empty (some { count := 1000, peak := 26001 })).chan 0).window = some { count := 1000, peak := 26001 } ∧
      ((channel .carried .empty (some { count := 999, peak := 0 })).chan 0).window = some { count := 999, peak := 0 } ∧
      ¬ 26000 < 26000 ∧ 1000 < 1001 ∧ 12999 < 13000 := by decide

theorem test_witness_DeliveriesAreTaken :
    node.inUse 0 = true ∧ node.inUse 1 = true ∧ node.loading = false ∧ ((channel .carried .empty none).chan 0).filling = .empty ∧
      silence.length = 48 ∧ 0#16 = deliverySum silence ∧ 48 < (List.replicate 49 silentFrame).length ∧ 1#16 ≠ deliverySum silence ∧
      node.image.channels[(0 : Chan)].kind = .audioVideo ∧ node.image.channels[(1 : Chan)].kind = .audio ∧
      (List.replicate 1400 0#8).length ≤ 1400 ∧ 1400 < (List.replicate 1401 0#8).length ∧
      ((channel .carried .empty none).chan 0).carried = true ∧ (node.chan 0).carried = false ∧
      (queued 0 0 31).trunk.queueC.length < 32 ∧ 32 ≤ (queued 0 0 32).trunk.queueC.length ∧
      (List.replicate 47 silentFrame).length < 48 ∧ 0#16 = deliverySum (List.replicate 47 silentFrame) ∧
      ((channel .carried .ended none).chan 0).filling = .ended ∧
      ((channel .carried (.complete silence) none).chan 0).filling = .complete silence := by decide +kernel

theorem test_witness_CarryBudgetHolds :
    node.running = true ∧
      ((node.modChan 0 fun c => c.addDemand 5 (sec 100)).chan 0).demand.find? (fun x => x.1 == 5) = some (5, sec 100) ∧
      ((channel .linger .empty none).chan 0).state = .linger ∧ ((channel .linger .empty none).chan 0).lingerEnd = some (sec 100) ∧
      ((channel .linger .empty none).chan 0).demand = [] ∧ ((channel .shadowed .empty none).chan 0).shadowEnd = some (sec 100) ∧
      node.takesFrom 5 = true ∧ node.inUse 0 = true ∧ (node.chan 0).state ≠ .shadowed ∧ node.inUse 2 = false ∧
      ((channel .shadowed .empty none).chan 0).state = .shadowed ∧ node.chanProgram 0 ∈ [24] ∧ node.chanProgram 1 ∉ [24] ∧
      (node.chan 0).wantedBy 5 ≠ decide (node.chanProgram 0 ∈ [24]) := by decide

theorem test_witness_CarryBudgetHolds_decision :
    node.image.feedsApart = true ∧ isNext (step { node with pending := [.blockEvent] }) = true ∧
      (let s := (channel .carried .empty none).modChan 1 fun c => { c with state := .linger, lingerEnd := some (sec 101) }
       let t := after (exec (.want 5 [9]) s)
       s.takesFrom 5 = true ∧ s.inUse 1 = true ∧ (t.chan 1).demand ≠ [] ∧ (t.chan 0).demand = [] ∧ (s.chan 0).state = .carried ∧
         t.carryList = s.carryList) ∧
      (let t := after (exec (.want 5 [24]) node)
       t.carryList ≠ node.carryList ∧ ¬ ∃ c : Chan, t.inUse c = true ∧ (t.chan c).state ≠ .shadowed ∧
         (t.chan c).wantedBy 5 ≠ decide (t.chanProgram c ∈ [24])) := by decide +kernel

theorem test_witness_CarryBudgetHolds_step :
    let s : State := { channel .carried (.complete silence) none with pending := [.want 5 [9]] }
    s.sendingChannels.length ≤ s.image.carryBudget ∧ isNext (step s) = true := by decide

theorem test_witness_CandidateRankingIsTotal :
    let x : Standing := { chan := 0, program := 24, demand := 2, state := .carried, lingerEnd := none }
    let y : Standing := { chan := 1, program := 9, demand := 2, state := .idle, lingerEnd := none }
    x.program ≠ y.program ∧ x.demand = y.demand ∧ x.incumbent = true ∧ y.incumbent = false ∧ ranksBefore x y = true ∧
      ranksBefore y { y with demand := 1 } = true := by decide

theorem test_witness_AnnouncementsEnterTheTable :
    receivedPacket (.announceHold 2 (ann .service)) = some { source := 2, body := .announce (ann .service) .hold } ∧
      up.takesFrom 2 = true ∧ up.running = true ∧ bodyOk (.announce (ann .service) .hold) = true ∧ (ann .service).id ∉ up.voice.closed ∧
      up.entry? (ann .service).id = none ∧
      (announcing up ((List.range 3).map fun i => entry (annNumber i) .pending []) { serving := .idle, pending := [] }).voice.table.length < 4 ∧
      (announcing up [entry (ann .service) .inService []] { serving := .idle, pending := [] }).entry? (ann .service).id =
        some (entry (ann .service) .inService []) ∧
      (ann .service).id ∈ ({ up with voice := { up.voice with closed := [(ann .service).id] } }).voice.closed := by decide

theorem test_witness_AnnouncementsEnterTheTable_late :
    let d : Descriptor := { ann .emergency with id := { origin := 4, sequence := 0 } }
    let s := waiting up .service
    receivedPacket (.announceSpeech 2 d 2001 (List.replicate 48 0#16)) =
        some { source := 2, body := .announce d (.speech 2001 (List.replicate 48 0#16)) } ∧
      s.takesFrom 2 = true ∧ s.entry? d.id = none ∧ s.voice.table.length < 4 ∧ (0 : Port) ∈ s.targets d ∧
      s.decision .emergency 0 = .audio true ∧ s.currentId 0 = some (ann .service).id ∧
      s.priorityOf (ann .service).id < annClassCode .emergency ∧ (∀ x ∈ (s.berthVoice 0).pending, x.1 ≠ (ann .service).id) ∧
      (∀ x ∈ (s.berthVoice 0).pending, x.1 ≠ d.id) ∧ s.inService 0 = true ∧ (s.berth 0).reported ≠ some (s.screenLevel 0) := by decide

/-- A table of four entries of a class, each with a PENDING record at port 1. -/
def fullTable (k : AnnClass) : State :=
  announcing up ((List.range 4).map fun i => entry { annNumber i with cls := k } .pending []) { serving := .idle, pending := [] }

theorem test_witness_AnnouncementsEnterTheTable_full :
    (4 ≤ (fullTable .service).voice.table.length ∧
        lowestEntry (fullTable .service).voice.table = some (entry (annNumber 0) .pending []) ∧
        (entry (annNumber 0) .pending []).priority < annClassCode (ann .stop).cls) ∧
      (4 ≤ (fullTable .safety).voice.table.length ∧
        lowestEntry (fullTable .safety).voice.table = some (entry { annNumber 0 with cls := .safety } .pending []) ∧
        annClassCode (ann .safety).cls ≤ (entry { annNumber 0 with cls := .safety } .pending []).priority) ∧
      (fullTable .service).entry? (ann .stop).id = none ∧ (fullTable .service).takesFrom 2 = true ∧
      receivedPacket (.announceLeadIn 2 (ann .stop)) = some { source := 2, body := .announce (ann .stop) .leadIn } ∧
      bodyOk (.announce (ann .stop) .leadIn) = true := by decide

theorem test_witness_AnnouncementsEnterTheTable_evicted :
    let d : Descriptor := { ann .stop with first := 240 }
    let low := entry (annNumber 0) .inService []
    let s := announcing up (low :: ((List.range 3).map fun i => entry { annNumber (i + 1) with cls := .safety } .pending []))
      { serving := .speaking (annNumber 0).id, pending := [((annNumber 1).id, sec 99)] }
    4 ≤ s.voice.table.length ∧ lowestEntry s.voice.table = some low ∧ low.priority < annClassCode d.cls ∧ s.entry? d.id = none ∧
      s.takesFrom 2 = true ∧ (0 : Port) ∉ s.targets d ∧ s.currentId 0 = some low.desc.id ∧ s.currentId 1 ≠ some low.desc.id ∧
      (∀ x ∈ (s.berthVoice 0).pending, x.1 ≠ d.id) := by decide

theorem test_witness_AnnouncementsEnterTheTable_decisions :
    node.decision .service 0 = .unreachable ∧ (up.modBerth 0 fun b => { b with attention := .dnd }).decision .service 0 = .decline ∧
      up.decision .service 0 = .caption ∧ up.decision .emergency 0 = .audio true ∧ up.decision .safety 0 = .audio false ∧
      (0 : Port) ∈ up.targets (ann .safety) ∧ up.currentId 0 ≠ some (ann .safety).id ∧ 2000 < (2001#16).toNat ∧ ¬ 2000 < (2000#16).toNat := by decide

theorem test_witness_AnnouncementsEnterTheTable_voice :
    (let s := announcing up [entry (annNumber 1) .inService []] { serving := .speaking (annNumber 1).id, pending := [] }
     s.currentId 0 = some (annNumber 1).id ∧ s.priorityOf (annNumber 1).id < annClassCode .safety ∧
       s.record? (annNumber 1).id 0 = some (record .inService) ∧ (∀ x ∈ (s.berthVoice 0).pending, x.1 ≠ (annNumber 1).id)) ∧
      (let d1 : Descriptor := { annNumber 1 with cls := .safety }
       let s := announcing up [entry d1 .inService [], entry (annNumber 2) .pending []]
         { serving := .speaking d1.id, pending := [((annNumber 2).id, 0), ((annNumber 3).id, 0), ((annNumber 4).id, 0)] }
       s.currentId 0 = some d1.id ∧ annClassCode .safety ≤ s.priorityOf d1.id ∧ s.record? (annNumber 2).id 0 = some (record .pending) ∧
         (∀ x ∈ (s.berthVoice 0).pending, x.1 ≠ (ann .safety).id)) ∧
      (let s := up.modLink 0 fun l => { l with video := [{ sequence := 1, payload := [] }],
                                               control := [.screenLevel 1],
                                               sending := some (.video { sequence := 0, payload := [] }) }
       s.decision .emergency 0 = .audio true ∧ s.links[(0 : Port)].control = [.screenLevel 1] ∧ s.currentId 0 = none ∧ (s.berth 0).hold = false ∧ s.links[(0 : Port)].resets = [] ∧
         s.links[(0 : Port)].sending = some (.video { sequence := 0, payload := [] })) := by decide

theorem test_witness_SpeechIsTaken :
    let s := announcing up [entry (ann .service) .inService (blocks 7)] { serving := .chime (ann .service).id, pending := [] }
    s.takesFrom 2 = true ∧ s.running = true ∧ bodyOk (.announce (ann .service) (.speech 0 (List.replicate 48 0#16))) = true ∧
      (ann .service).id ∉ s.voice.closed ∧ s.entry? (ann .service).id = some (entry (ann .service) .inService (blocks 7)) ∧
      (∃ b ∈ blocks 7, b.index = 7#16) ∧ (∀ b ∈ blocks 8, b.index ≠ 9#16) ∧ (blocks 7).length < 8 ∧ (blocks 8).length = 8 ∧
      (s.berthVoice 0).serving = .chime (ann .service).id ∧ (s.berthVoice 1).serving ≠ .chime (ann .service).id := by decide

theorem test_witness_EndingClosesTheId :
    let s := announcing up [entry (ann .service) .inService []] { serving := .chime (ann .service).id, pending := [] }
    s.takesFrom 2 = true ∧ s.running = true ∧ descriptorOk (ann .service) = true ∧ (ann .service).id ∉ s.voice.closed ∧
      s.entry? (ann .service).id = some (entry (ann .service) .inService []) := by decide

theorem test_witness_SpeechIsTaken_order :
    (blocks 8).Pairwise (fun a b => a.index.toNat < b.index.toNat) ∧ (∀ b ∈ blocks 8, b.index ≠ 0#16) ∧ (blocks 8).length = 8 ∧
      (blocks 7).Pairwise (fun a b => a.index.toNat < b.index.toNat) := by decide

theorem test_witness_EndingClosesTheId_freed :
    let s := (waiting up .emergency).modBerth 0 fun b => { b with hold := true }
    let alone := announcing up [{ entry (ann .service) .inService [] with recs := [{ record .inService with card := true }] }]
      { serving := .chime (ann .service).id, pending := [] }
    s.entry? (ann .emergency).id = some (entry (ann .emergency) .inService []) ∧ s.currentId 0 = some (ann .emergency).id ∧
      s.currentId 1 ≠ some (ann .emergency).id ∧ s.record? (annNumber 1).id 0 = some (record .pending) ∧
      ((s.berthVoice 0).pending.map Prod.fst).Nodup ∧ (s.inService 0 && s.linkUp 0) = true ∧
      alone.currentId 0 = some (ann .service).id ∧ (alone.berthVoice 0).pending = [] ∧ (alone.berth 0).hold = false := by decide

theorem test_witness_PendingEndsAndSkips_pending :
    let s := announcing up [entry (ann .service) .pending []] { serving := .idle, pending := [((ann .service).id, sec 80)] }
    (s.berthVoice 0).pending.find? (fun y => y.1 == (ann .service).id) = some ((ann .service).id, sec 80) ∧
      s.record? (ann .service).id 0 = some (record .pending) ∧
      s.entry? (ann .service).id = some (entry (ann .service) .pending []) ∧ s.linkUp 0 = true ∧
      (s.modLink 0 fun l => { l with state := .down }).linkUp 0 = false := by decide

theorem test_witness_PendingEndsAndSkips_skip :
    (up.linkRuns 0 && up.linkUp 0) = true ∧ up.currentId 0 = none ∧
      (let s := announcing up [entry (ann .safety) .inService []] { serving := .chime (ann .safety).id, pending := [] }
       s.currentId 0 = some (ann .safety).id ∧ s.classOfId (ann .safety).id = some .safety) ∧
      (let s := announcing up [entry (ann .stop) .inService []] { serving := .chime (ann .stop).id, pending := [] }
       s.classOfId (ann .stop).id = some .stop ∧ s.record? (ann .stop).id 0 = some (record .inService) ∧
         (∀ x ∈ (s.berthVoice 0).pending, x.1 ≠ (ann .stop).id)) := by decide

theorem test_witness_DeliveryDecisions :
    node.linkUp 0 = false ∧ up.linkUp 0 = true ∧
      ((up.modBerth 0 fun b => { b with attention := .resting }).berth 0).attention = .resting ∧
      ((up.modBerth 0 fun b => { b with attention := .dnd }).berth 0).attention = .dnd ∧
      (up.modBerth 0 fun b => { b with attention := .dnd }).decision .emergency 0 = .audio true := by decide

theorem test_witness_StatusBringsTheLinkUp :
    node.linkRuns 0 = true ∧ node.links[(0 : Port)].state = .down ∧ node.links[(0 : Port)].holdOff = none ∧ node.links[(0 : Port)].control = [] ∧
      (node.modLink 0 fun l => { l with goodCount := 1, lastGood := some (sec 100) }).links[(0 : Port)].goodCount < 2 ∧
      (node.modLink 0 fun l => { l with goodCount := 1, lastGood := some (sec 100) }).links[(0 : Port)].lastGood = some (sec 100) ∧
      2 ≤ (node.modLink 0 fun l => { l with goodCount := 2 }).links[(0 : Port)].goodCount ∧
      up.linkRuns 0 = true ∧ up.links[(0 : Port)].state = .up ∧ (up.berth 0).headset = false ∧
      ((up.modBerth 0 fun b => { b with attention := .resting }).berth 0).attention = .resting := by decide

theorem test_witness_LinkLossSettlesTheBerth :
    let s := announcing up [entry (ann .service) .inService [], entry (annNumber 1) .pending []]
      { serving := .chime (ann .service).id, pending := [((annNumber 1).id, sec 99)] }
    s.links[(0 : Port)].state = .up ∧ s.links[(0 : Port)].lastGood = some (sec 100) ∧ s.currentId 0 = some (ann .service).id ∧
      s.record? (ann .service).id 0 = some (record .inService) ∧ ((annNumber 1).id, sec 99) ∈ (s.berthVoice 0).pending ∧
      s.currentId 0 ≠ some (annNumber 1).id ∧ s.record? (annNumber 1).id 0 = some (record .pending) := by decide

theorem test_witness_HoldFaultsTheLink_announcing :
    let s := (announcing up [entry (ann .service) .inService [], entry (annNumber 1) .pending []]
      { serving := .chime (ann .service).id, pending := [((annNumber 1).id, sec 99)] }).modLink 0 fun l => { l with hold := some (sec 100) }
    s.links[(0 : Port)].state = .up ∧ s.links[(0 : Port)].hold = some (sec 100) ∧ s.takesFrom 5 = true ∧ s.running = true ∧
      portNumber 0 ≤ s.image.berthCount ∧ s.currentId 0 = some (ann .service).id ∧
      s.record? (ann .service).id 0 = some (record .inService) ∧ ((annNumber 1).id, sec 99) ∈ (s.berthVoice 0).pending ∧
      s.currentId 0 ≠ some (annNumber 1).id ∧ s.record? (annNumber 1).id 0 = some (record .pending) := by decide

theorem test_witness_HoldFaultsTheLink :
    (up.linkRuns 0 && up.linkUp 0) = true ∧
      (up.modLink 0 fun l => { l with hold := some (sec 100), faults := [sec 41, sec 60] }).links[(0 : Port)].hold = some (sec 100) ∧
      ([sec 40, sec 60].filter fun f => decide (sec 100 < f + sec 60)).length = 1 ∧
      (up.modLink 0 fun l => { l with video := [{ sequence := 1, payload := [] }] }).links[(0 : Port)].video = [{ sequence := 1, payload := [] }] ∧
      up.links[(0 : Port)].sending = none ∧ up.links[(0 : Port)].resets = [] ∧ up.links[(0 : Port)].control = [] ∧
      up.links[(0 : Port)].audio = none ∧
      (up.modLink 0 fun l => { l with state := .fault, holdOff := some (sec 101) }).links[(0 : Port)].holdOff = some (sec 101) := by decide

theorem test_witness_CaptionCardsAreAcknowledged :
    let c : Card := { caption := 14, language := 0, cls := .service, action := .show }
    let o : Outstanding := { card := c, serial := 0, since := sec 99, sending := .sent (sec 100) }
    let s := up.modLink 0 fun l => { l with outstanding := some o, waiting := [c], sending := some (.caption c 0), control := [.unitReset] }
    (s.linkRuns 0 && s.linkUp 0) = true ∧ s.links[(0 : Port)].outstanding = some o ∧ o.card.caption = 14 ∧ o.card.action = .show ∧
      o.card.caption ≠ 15 ∧ s.links[(0 : Port)].waiting = [c] ∧ s.links[(0 : Port)].sending = some (.caption c o.serial) ∧
      s.links[(0 : Port)].control = [.unitReset] ∧ s.links[(0 : Port)].resets = [] := by decide

theorem test_witness_CaptionCardsAreAcknowledged_handed :
    let c : Card := { caption := 14, language := 0, cls := .service, action := .show }
    let l := up.links[(0 : Port)]
    let o : Outstanding := { card := c, serial := 0, since := sec 99, sending := .queued }
    l.state = .up ∧ l.outstanding = none ∧ l.control.length < 16 ∧ node.links[(0 : Port)].state ≠ .up ∧
      ({ l with outstanding := some o, waiting := [c, c, c, c] }).waiting.length = 4 ∧
      16 ≤ ({ l with control := List.replicate 16 .unitReset }).control.length := by decide

theorem test_witness_SeatFrameErrors :
    up.linkRuns 0 = true ∧ up.links[(0 : Port)].state = .up ∧ node.linkRuns 0 = true ∧ node.links[(0 : Port)].state = .down ∧
      node.links[(0 : Port)].holdOff = none ∧ (up.modLink 0 fun l => { l with state := .locked }).links[(0 : Port)].state = .locked ∧
      (up.modLink 0 fun l => { l with state := .locked }).linkRuns 0 = true := by decide

theorem test_witness_BeginIsChecked :
    node.running = true ∧ node.image.panel = true ∧ classOf 4 = some .emergency ∧ classOf 1 = some .service ∧ node.orig.state = .idle ∧
      240 < 241 ∧ 240 ≤ 240 ∧ (originating .speech).orig.state ≠ .idle ∧ (originating .speech).running = true ∧
      (originating .speech).image.panel = true ∧ (originating .speech).orig.ackTable.isSome = true ∧
      (originating .speech).orig.desc.isSome = true ∧ (originating .collecting).orig.state = .collecting ∧
      (let s : State := { originating .speech with trunk := (queued 6 0 0).trunk }
       s.trunk.current.isSome = true ∧ s.trunk.queueA.length < 7) := by decide

theorem test_witness_PanelRequestsByState :
    (originating .speech).running = true ∧ (originating .speech).image.panel = true ∧ (originating .speech).orig.state = .speech ∧
      (originating .speech).orig.nextBlock = .index 65535 ∧ (originating .leadIn).orig.state = .leadIn ∧
      (originating .collecting).orig.state = .collecting ∧ (originating .speech).orig.desc.isSome = true ∧
      (originating .speech).orig.ackTable.isSome = true ∧
      ((originating .speech).modOrig fun o => { o with nextBlock := .spent }).orig.nextBlock = .spent := by decide

theorem test_witness_RequestsTurnedAway :
    (node.linkRuns 0 && node.linkUp 0) = false ∧ State.reset.loading = true ∧ State.reset.image.panel = false ∧
      (let s : State := { node with startup := { node.startup with state := .loading } }
       s.loading = true ∧ s.image.panel = true) ∧
      ({ node with startup := { node.startup with state := .strapFault } }).startup.state = .strapFault ∧
      (let s : State := { node with startup := { node.startup with image := defaultImage } }
       s.loading = false ∧ s.image.panel = false) ∧
      (let s : State := { node with startup := { node.startup with state := .listening } }
       s.startup.state = .listening ∧ s.image.panel = true) ∧
      node.running = true ∧ node.image.panel = true ∧ classOf 0 = none ∧ classOf 5 = none := by decide

theorem test_witness_OriginatorTimers :
    (originating .leadIn).orig.desc = some { ann .service with id := { origin := 7, sequence := 50 } } ∧
      (originating .leadIn).orig.state = .leadIn ∧ (originating .leadIn).orig.leadIns < 20 ∧ (originating .leadIn).running = true ∧
      (originating .speech).orig.state = .speech ∧ (originating .speech).orig.nextHold = some (sec 104) ∧
      sec 104 < (originating .speech).orig.lastAudio + ms 5000 ∧ (originating .collecting).orig.state = .collecting ∧
      (originating .collecting).orig.ackTable.bind AckTable.windowEnd = some (sec 100) := by decide

theorem test_witness_AcksAreCollected :
    (originating .collecting).takesFrom 5 = true ∧ (originating .collecting).running = true ∧ (originating .collecting).image.panel = true ∧
      (List.replicate 12 ({ berth := 1, outcome := .audio } : AckItem)).length ≤ 12 ∧
      ((originating .collecting).orig.ackTable.all fun a => !a.closed && a.id == { origin := 7, sequence := 50 } && !a.acked.contains 5 &&
        a.expected.all fun x => x == 5 || a.acked.contains x) = true ∧
      ((originating .speech).orig.ackTable.all fun a => a.id != { origin := 7, sequence := 51 }) = true := by decide

theorem test_witness_PhaseRecordsAreAdopted :
    node.takesFrom 5 = true ∧ node.phase.own.epoch.toNat < (6#16).toNat ∧ 6#16 ≠ node.phase.own.epoch ∧ 5 < node.phase.own.setter ∧
      ¬ (4 ≤ 3) ∧ (1 ≤ 30 ∧ 30 ≤ 30) ∧ up.inService 0 = true ∧ up.linkUp 0 = true := by decide

theorem test_witness_PhaseRecordsCommute :
    node.takesFrom 5 = true ∧ node.takesFrom 9 = true ∧ (6#16 ≠ 7#16) ∧ isNext (exec (.phase 5 6 1 5) node) = true ∧
      isNext (exec (.phase 9 7 2 9) (after (exec (.phase 5 6 1 5) node))) = true ∧
      isNext (exec (.phase 5 6 1 5) (after (exec (.phase 9 7 2 9) node))) = true := by decide

theorem test_witness_SetPhaseOriginates :
    node.running = true ∧ node.image.panel = true ∧ 3 ≤ 3 ∧ 3 < 4 ∧
      (let s : State := { node with startup := { node.startup with image := defaultImage } }
       s.running = true ∧ s.image.panel = false) := by decide

theorem test_witness_BlockEventServesEveryBerth :
    up.mixer.nextBlock = some (sec 100) ∧ up.inService 0 = true ∧ up.linkUp 0 = true ∧
      ({ up with startup := { up.startup with image := { image with berthCount := 11 } } }).inService 11 = false ∧
      (announcing up [entry (ann .safety) .inService []] { serving := .chime (ann .safety).id, pending := [] }).berthVoice 0 =
        { serving := .chime (ann .safety).id, pending := [] } ∧
      (up.modLink 0 fun l => { l with sending := some (.screenLevel 0) }).links[(0 : Port)].sending.isSome = true ∧
      up.links[(0 : Port)].sending = none ∧ up.links[(0 : Port)].resets = [] ∧ up.links[(0 : Port)].control = [] ∧
      (tap .playing (some 10) [audio 10]).expected = some (audio 10).sequence ∧
      (tap .playing (some 9) [audio 10]).expected = some 9 ∧ (audio 10).sequence ≠ 9 ∧
      3 ≤ ({ entry (ann .safety) .inService (blocks 3) with state := .speech }).queue.length ∧
      ({ entry (ann .safety) .inService (blocks 1) with state := .speech, playout := .started 1 }).playout = .started 1 := by decide

theorem test_witness_ScalingStaysInRange :
    (-32768 : Int) ≤ -32768 ∧ (32767 : Int) ≤ 32767 ∧ 126 ≤ 126 ∧ 40 ≤ 40 ∧ 31 ≤ 31 ∧
      (let s := announcing (up.modBerth 0 fun b => { b with program := 24 }) [entry (ann .safety) .inService []]
         { serving := .speaking (ann .safety).id, pending := [] }
       let a : BlockAnswers := { programs := [(24, .playing, .block 0 silence)], blocks := [((ann .safety).id, some (List.replicate 48 1#16))] }
       ¬((s.berth 0).mute = true ∨ (s.berth 0).program = 0 ∨ s.inEmergency 0 = true) ∧
         a.program? 24 = some (.playing, .block 0 silence) ∧ s.classOfId (ann .safety).id = some .safety ∧
         a.block? (ann .safety).id = some (List.replicate 48 1#16) ∧ up.programTerm a 0 0 = (127, [])) := by decide

/-! ## Worked values of the spec -/

/-- The worked example of section 2.8: 20,000 at attenuation 50. -/
theorem test_scale_example : scale 20000 50 = 1114 := by decide

/-- Section 2.8: −15,000 at attenuation 30. -/
theorem test_scale_negative : scale (-15000) 30 = -2655 := by decide

/-- The table of R196: PROGRAM_AUDIO occupies the trunk for 208 bytes, a LEAD_IN for 40, an ACK of ten items for 50. -/
theorem test_occupancy :
    occupancy { source := 1, body := .programAudio 24 0 0 (List.replicate 48 silentFrame) } = 208 ∧
      occupancy { source := 1, body := .announce (ann .service) .leadIn } = 40 ∧
      occupancy { source := 1, body := .ack (ann .service).id totalsZero (List.replicate 10 { berth := 1, outcome := .audio }) } = 50 := by
  decide +kernel

/-- R17: bank 1, brightness 8 of the default banks: floor(17 × 8 / 2). -/
theorem test_dim_bank : defaultImage.level 1 8 = 68 := by decide

/-- R6: a program that the catalogue does not list is refused. -/
theorem test_select_unknown : (after (exec (.select 0 24) up)).berths.refusals = 1#16 := by decide

/-- R48: a selection taps its program. -/
theorem test_select_taps : ((after (exec (.select 0 24) (catalogued up (listedBy 5 .audio)))).tap? 24).isSome = true := by decide

/-- R7: a level above 31 is 31. -/
theorem test_volume_clamps : ((after (exec (.volume 0 200) up)).berth 0).volume = 31 := by decide

/-- R8: a stop above 99 is refused. -/
theorem test_stop_refused : ((after (exec (.stop 0 100 true) up)).berth 0).stop = 0 := by decide

/-- R9: DND holds the timer, and activity has set it to 0. -/
theorem test_dnd_holds_timer : ((after (exec (.dnd 0 true) up)).berth 0).timer = .held 0 := by decide

/-- R9: a RESTING berth with a DIM screen stays DIM under DND. -/
theorem test_dnd_keeps_dim :
    ((after (exec (.dnd 0 true) (up.modBerth 0 fun b => { b with attention := .resting, screen := .dim }))).berth 0).screen = .dim := by decide

/-- R12: an AWAKE berth rests with its screen DIM. -/
theorem test_inactivity : ((after (exec (.inactivityExpiry 0) up)).berth 0).screen = .dim := by decide

/-- R149: the third good STATUS frame brings the link UP. -/
theorem test_bring_up : (after (exec (.status 0 true true) (node.modLink 0 fun l => { l with goodCount := 2 }))).links[(0 : Port)].state = .up := by decide

/-- R149: a frame that is not ready returns the good count to 0. -/
theorem test_not_ready : (after (exec (.status 0 true false) (node.modLink 0 fun l => { l with goodCount := 2 }))).links[(0 : Port)].goodCount = 0 := by decide

/-- R153: a hold of 50 ms faults the link. -/
theorem test_link_fault : (after (exec (.linkFault 0) (up.modLink 0 fun l => { l with hold := some (sec 100) }))).links[(0 : Port)].holdOff = some (sec 100 + ms 550) := by decide

/-- R153: a locking link goes to LOCKED at the end of its hold-off. -/
theorem test_locked : (after (exec (.holdOffEnd 0) (up.modLink 0 fun l => { l with state := .fault, locking := true, holdOff := some (sec 101) }))).links[(0 : Port)].state = .locked := by decide

/-- R159: an acknowledgement with no outstanding card is stray. -/
theorem test_stray_ack : (after (exec (.captionAck 0 14 .show) up)).links[(0 : Port)].counters.strayAck = 1#16 := by decide

/-- R133: a greater epoch wins. -/
theorem test_phase_adopted : (after (exec (.phase 5 6 2 9) node)).phase.own.setter = 9 := by decide

/-- R133: at an equal epoch the lower setter wins. -/
theorem test_phase_lower_setter : (after (exec (.phase 9 5 1 3) node)).phase.own.setter = 3 := by decide

/-- R90: a phase above 3 is refused. -/
theorem test_set_phase_refused : (after (exec (.setPhase 4) node)).phase.own.epoch = 5#16 := by decide

/-- R93: an accepted BEGIN is in LEAD_IN. -/
theorem test_begin_accepted : (after (exec (.beginAnn 1 1 12 0 0 5) node)).orig.state = .leadIn := by decide

/-- R92: a window past 240 is refused. -/
theorem test_begin_target : (after (exec (.beginAnn 1 1 241 0 0 5) node)).orig.notices = [.refused .begin .badTarget] := by decide

/-- R98: block 65535 spends the index. -/
theorem test_last_block : (after (exec (.panelAudio (List.replicate 48 0#16)) (originating .speech))).orig.nextBlock = .spent := by decide

/-- R103: the window end closes the collection. -/
theorem test_window_end : (after (exec .windowEnd (originating .collecting))).orig.state = .idle := by decide

/-- R116: EMERGENCY is served in DND. -/
theorem test_emergency_serves : ((after (exec (.announceLeadIn 2 (ann .emergency)) (up.modBerth 0 fun b => { b with attention := .dnd }))).berth 0).hold = true := by decide

/-- R157: a VIDEO frame in progress is ended at once with CUT, and the transmitter is free for the next frame. -/
theorem test_emergency_cuts_video :
    ((after (exec (.announceLeadIn 2 (ann .emergency)) (up.modLink 0 fun l =>
      { l with sending := some (.video { sequence := 0, payload := [] }), control := [.screenLevel 1] }))).links[(0 : Port)]).sending =
        some (.screenLevel 1) := by decide

/-- R116: SERVICE at an AWAKE berth without a headset is captioned. -/
theorem test_service_captioned : (after (exec (.announceLeadIn 2 (ann .service)) up)).currentId 0 = none := by decide

/-- R74: a wanted channel is carried. -/
theorem test_demand_carries : ((after (exec (.want 5 [24]) node)).chan 0).state = .carried := by decide

/-- R75, R76: of two candidates for a budget of 1 the lower program is carried. -/
theorem test_ranked_out :
    let im : Image := { image with carryBudget := 1 }
    let s : State := { node with startup := { node.startup with image := im } }
    let t := after (exec (.want 5 [24, 9]) s)
    (t.chan 0).state = .refused ∧ (t.chan 1).state = .carried := by decide +kernel

/-- R156: a ninth chunk removes the oldest. -/
theorem test_video_drop :
    let l : Link := { up.links[(0 : Port)] with sending := some (.screenLevel 0), video := List.replicate 8 { sequence := 1, payload := [1#8] } }
    (l.handVideo { sequence := 2, payload := [1#8] }).counters.videoDrop = 1#16 := by decide

/-- R76: a carried channel without demand lingers for 2,000 ms. -/
theorem test_linger : ((after (exec (.demandExpiry 0 5) ((channel .carried .empty none).modChan 0 fun c => c.addDemand 5 (sec 100)))).chan 0).lingerEnd = some (sec 100 + ms 2000) := by decide

/-- R81: a lower station shadows. -/
theorem test_shadowed : ((after (exec (.carry 5 [{ program := 24, kind := .audio, status := .idle }]) node)).chan 0).state = .shadowed := by decide

/-- R66: a second delivery in one period is a counted frame error, whatever the first came to. -/
theorem test_second_delivery :
    (after (exec (.audioDelivery 1 true silence (some 0#16)) (channel .carried .ended none))).carry.feedError = 1#16 := by decide +kernel

/-- R84: a level window that has counted its 1,000 blocks ends before a shadowing could abandon it. -/
theorem test_window_ends_first :
    ((after (exec (.carry 5 [{ program := 24, kind := .audio, status := .idle }])
      (channel .carried .empty (some { count := 1000, peak := 26001 })))).chan 0).trim = -1 := by decide

/-- R85: ONE_SHOT sets the mode. -/
theorem test_one_shot : ((after (exec (.oneShot 5 7 24) node)).chan 0).mode = .oneShot := by decide

/-- R171: a packet with the own number is a clash. -/
theorem test_clash : (after (exec (.want 7 [24]) node)).trunk.stationClash = 1#16 := by decide

/-- R167: a free transmitter takes the packet at once. -/
theorem test_own_queue : (after (exec .presencePeriod node)).trunk.current.isSome = true := by decide

/-- R169: the transmitter is free after its packet. -/
theorem test_sent_frees : (after (exec .packetSent (withCurrent node (held (.serviceReply .status .accepted .none) 1 (.sending (sec 100)))))).trunk.current = none := by decide

/-- R180: while RESET_N is low the node stays at the entry to LOADING. -/
theorem test_reset_held : ({ after (exec .resetNLow node) with now := sec 900 }).secondsSinceStart = 0 := by decide

/-- R89: with the panel disabled a request is refused NOT_ENABLED in any state. -/
theorem test_disabled_panel : (after (exec .abort State.reset)).orig.notices = [.refused .abort .notEnabled] := by decide

/-- R22: a UNIT_RESET that waits behind a frame in progress is not sent after a soft restart. -/
theorem test_restart_drops_reset :
    let s : State := { node with startup := { node.startup with restart := some (sec 101) } }
    (after (exec .softRestart (s.modLink 0 fun l =>
      { l with sending := some (.screenLevel 0), resets := [.unitReset] }))).links[(0 : Port)].resets = [] := by decide

/-- R179: straps 0 are a strap fault. -/
theorem test_straps : (after (exec (.powerOn 0#5) State.reset)).faultAsserted = true := by decide

/-- No row of the table has bits. -/
theorem test_no_word : decodeTableWord 16 0 = none := by decide

/-- R120, R118: at the end of an announcement its voice takes the SAFETY one that heads the pending list. -/
theorem test_end_serves_on :
    (after (exec (.entryLost (ann .service).id) (waiting up .service))).currentId 0 = some (annNumber 1).id := by decide +kernel

/-- R123: a SKIP of a SERVICE announcement lets the SAFETY one that heads the pending list be heard at once. -/
theorem test_skip_serves_on : (after (exec (.skip 0) (waiting up .service))).currentId 0 = some (annNumber 1).id := by decide +kernel

/-- R125, R19: the hold ends with the EMERGENCY when the voice then serves a SAFETY announcement. -/
theorem test_hold_ends :
    ((after (exec (.announceEnd 2 (ann .emergency) .normal)
      ((waiting up .emergency).modBerth 0 fun b => { b with hold := true }))).berth 0).hold = false := by decide +kernel

/-- R110: of nine blocks the one of lowest index goes, here the new one. -/
theorem test_speech_overflow :
    let s := announcing up [entry (ann .service) .inService (blocks 8)] { serving := .chime (ann .service).id, pending := [] }
    ((after (exec (.announceSpeech 2 (ann .service) 0 (List.replicate 48 0#16)) s)).entry? (ann .service).id).map Entry.queue =
      some (blocks 8) := by decide

/-- R81, R80: a channel shadowed in RUNNING has a record sent without it. -/
theorem test_shadow_record :
    ((after (exec (.carry 5 [{ program := 24, kind := .audio, status := .idle }]) node)).trunk.current.map fun c => c.tx.packet.body) =
      some (.carry [{ program := 9, kind := .audio, status := .idle }]) := by decide

end Sys2Proof.Tests
end

