-- ==== Sys2Proof/Proofs/CarryRanking.lean ====
section
/-! The ranking of candidates (R75) is the lexicographic order of its three keys, and different programs have different
keys: so it is a strict order, total over candidates for different programs. -/

namespace Sys2Proof.Machine

/-- One candidate ranks before another by the first of the three keys of R75 in which they differ. -/
theorem ranksBefore_iff (x y : Standing) :
    ranksBefore x y = true ↔ y.demand < x.demand ∨ x.demand = y.demand ∧
      (x.incumbent = true ∧ y.incumbent = false ∨ x.incumbent = y.incumbent ∧ x.program < y.program) := by
  unfold ranksBefore
  split_ifs with hdemand hincumbent
  · simp [hdemand]
  · have hy : y.incumbent = !x.incumbent := Bool.eq_not.mpr (Ne.symm hincumbent)
    simp [not_not.mp hdemand, hy]
  · simp [not_not.mp hdemand, not_not.mp hincumbent]

/-- The three keys of R75, the first the most significant. Stations and incumbency stand in the dual order, since more
of them rank first. -/
def rankKey (x : Standing) : ℕᵒᵈ ×ₗ Boolᵒᵈ ×ₗ ℕ :=
  toLex (.toDual x.demand, toLex (.toDual x.incumbent, x.program))

/-- Ranking before is having the smaller key. -/
theorem ranksBefore_iff_rankKey_lt (x y : Standing) : ranksBefore x y = true ↔ rankKey x < rankKey y := by
  rw [ranksBefore_iff]
  simp [rankKey, Prod.Lex.toLex_lt_toLex, Bool.lt_iff, and_comm]

/-- Candidates for different programs have different keys. -/
theorem rankKey_ne_of_program_ne {x y : Standing} (h : x.program ≠ y.program) : rankKey x ≠ rankKey y := by
  simp [rankKey, h]

/-- Of two candidates for different programs exactly one ranks before the other. -/
theorem ranksBefore_eq_not_of_program_ne {x y : Standing} (h : x.program ≠ y.program) :
    ranksBefore x y = !ranksBefore y x := by
  have hlt : rankKey x < rankKey y ↔ ¬ rankKey y < rankKey x := by
    rw [not_lt, le_iff_lt_or_eq, or_iff_left (rankKey_ne_of_program_ne h)]
  rw [Bool.eq_iff_iff, Bool.not_eq_true', ← Bool.not_eq_true, ranksBefore_iff_rankKey_lt,
    ranksBefore_iff_rankKey_lt, hlt]

/-- Ranking is transitive, whatever the programs. -/
theorem ranksBefore_trans (x y z : Standing) (hxy : ranksBefore x y = true) (hyz : ranksBefore y z = true) :
    ranksBefore x z = true := by
  rw [ranksBefore_iff_rankKey_lt] at *
  exact hxy.trans hyz

/-- Incumbency is being CARRIED or LINGER. -/
theorem Standing.incumbent_iff (x : Standing) : x.incumbent = true ↔ x.state = .carried ∨ x.state = .linger := by
  simp [Standing.incumbent]

/-- Settles O40: ranking is the strict lexicographic order of the three keys of R75. -/
theorem candidateRankingIsTotal : Obligations.CandidateRankingIsTotal := by
  refine ⟨fun _ _ => ranksBefore_eq_not_of_program_ne, ranksBefore_trans, ?stations, ?incumbency, ?program,
    Standing.incumbent_iff⟩
  case stations => exact fun x y h => (ranksBefore_iff x y).mpr (.inl h)
  case incumbency => exact fun x y hd hx hy => (ranksBefore_iff x y).mpr (.inr ⟨hd, .inl ⟨hx, hy⟩⟩)
  case program => exact fun x y hd hi hp => (ranksBefore_iff x y).mpr (.inr ⟨hd, .inr ⟨hi, hp⟩⟩)

end Sys2Proof.Machine
end

