-- ==== Sys2Proof/Proofs/DeliveryTable.lean ====
section
/-! The delivery decision (R116): one equation for each row of its table, the decision at a port by its link, the default
profiles of the phases, and the wake of a berth in DND. -/

namespace Sys2Proof.Machine

/-! ## The rows of the table -/

/-- EMERGENCY sounds with a wake, whatever the attention. -/
theorem decideFor_emergency (b : Berth) (pr : Profile) : decideFor .emergency b pr = .audio true := rfl

/-- The row of SAFETY: a RESTING berth is decided by the profile. -/
theorem decideFor_safety (b : Berth) (pr : Profile) :
    decideFor .safety b pr =
      if b.attention = .awake then .audio false
      else if b.attention = .resting ∧ pr.safetyCaption = false then .audio false else .caption := by
  cases h : b.attention with
  | awake => simp [decideFor, h]
  | resting => cases hp : pr.safetyCaption <;> simp [decideFor, h, hp]
  | dnd => simp [decideFor, h]

/-- The row of STOP: a RESTING berth is decided by its stop wake. -/
theorem decideFor_stop (b : Berth) (pr : Profile) :
    decideFor .stop b pr =
      if b.attention = .awake then .audio false
      else if b.attention = .resting ∧ b.stopWake = true then .audio true else .caption := by
  cases h : b.attention <;> simp [decideFor, h]

/-- The row of SERVICE: an AWAKE berth is decided by its headset, a RESTING one by the profile. -/
theorem decideFor_service (b : Berth) (pr : Profile) :
    decideFor .service b pr =
      if b.attention = .awake then (if b.headset then .audio false else .caption)
      else if b.attention = .resting ∧ pr.serviceDecline = false then .caption else .decline := by
  cases h : b.attention with
  | awake => simp [decideFor, h]
  | resting => cases hp : pr.serviceDecline <;> simp [decideFor, h, hp]
  | dnd => simp [decideFor, h]

/-- The column of DND holds no audio but that of EMERGENCY. -/
theorem eq_emergency_of_decideFor_dnd_eq_audio {k : AnnClass} {b : Berth} {pr : Profile} {w : Bool}
    (hdnd : b.attention = .dnd) (h : decideFor k b pr = .audio w) : k = .emergency := by
  cases k with
  | emergency => rfl
  | safety => simp [decideFor_safety, hdnd] at h
  | stop => simp [decideFor_stop, hdnd] at h
  | service => simp [decideFor_service, hdnd] at h

/-! ## The decision at a port -/

/-- A berth whose link is UP is decided by the table. -/
theorem State.decision_of_linkUp {s : State} {p : Port} (h : s.linkUp p = true) (k : AnnClass) :
    s.decision k p = decideFor k (s.berth p) s.profile := if_pos h

/-- A berth whose link is not UP is decided UNREACHABLE. -/
theorem State.decision_of_not_linkUp {s : State} {p : Port} (h : s.linkUp p = false) (k : AnnClass) :
    s.decision k p = .unreachable := if_neg (by simp [h])

/-- A berth in DND is decided AUDIO for class EMERGENCY alone, whatever its link. -/
theorem State.eq_emergency_of_decision_dnd_eq_audio {s : State} {k : AnnClass} {p : Port} {w : Bool}
    (hdnd : (s.berth p).attention = .dnd) (h : s.decision k p = .audio w) : k = .emergency := by
  cases hup : s.linkUp p with
  | true =>
    rw [State.decision_of_linkUp hup] at h
    exact eq_emergency_of_decideFor_dnd_eq_audio hdnd h
  | false => simp [State.decision_of_not_linkUp hup] at h

/-- A turn decided DECLINE fixes DECLINED POLICY. -/
theorem State.turn_decline (s : State) (p : Port) (e : Entry) :
    s.turn p e .decline = s.fix e.desc.id p (.declined .policy) := rfl

/-- A turn decided UNREACHABLE fixes DECLINED UNREACHABLE. -/
theorem State.turn_unreachable (s : State) (p : Port) (e : Entry) :
    s.turn p e .unreachable = s.fix e.desc.id p (.declined .unreachable) := rfl

/-! ## Default profiles and the wake in DND -/

/-- By default SAFETY is shown to a RESTING berth at NIGHT alone. -/
theorem defaultProfile_safetyCaption : ∀ ph : Phase, (defaultProfile ph).safetyCaption = decide (ph = 2) := by decide

/-- By default SERVICE is declined at a RESTING berth at NIGHT alone. -/
theorem defaultProfile_serviceDecline : ∀ ph : Phase, (defaultProfile ph).serviceDecline = decide (ph = 2) := by decide

/-- With the default profiles a RESTING berth hears SAFETY, except at NIGHT. -/
theorem decideFor_safety_defaultProfile {b : Berth} (h : b.attention = .resting) (ph : Phase) :
    decideFor .safety b (defaultProfile ph) = if ph = 2 then .caption else .audio false := by
  by_cases hnight : ph = 2 <;> simp [decideFor_safety, defaultProfile_safetyCaption, h, hnight]

/-- With the default profiles a RESTING berth is shown SERVICE, except at NIGHT. -/
theorem decideFor_service_defaultProfile {b : Berth} (h : b.attention = .resting) (ph : Phase) :
    decideFor .service b (defaultProfile ph) = if ph = 2 then .decline else .caption := by
  by_cases hnight : ph = 2 <;> simp [decideFor_service, defaultProfile_serviceDecline, h, hnight]

/-- The wake of a berth in DND turns its screen ON and leaves DND in place (R13). -/
theorem Berth.wake_of_dnd {b : Berth} (h : b.attention = .dnd) (now : Time) : b.wake now = { b with screen := .on } := by
  rw [Berth.wake_eq_woken]
  exact if_pos h

/-- Settles O45: the delivery decision row by row, and what R116 says beside its table. -/
theorem deliveryDecisions : Obligations.DeliveryDecisions := by
  refine ⟨fun s k p hdown => State.decision_of_not_linkUp hdown k, ?table, ?outcomes, ?defaults,
    fun _ _ _ _ => State.eq_emergency_of_decision_dnd_eq_audio, fun _ now hdnd => Berth.wake_of_dnd hdnd now⟩
  case table =>
    intro s k p hup
    rw [State.decision_of_linkUp hup]
    refine ⟨?emergency, ?safety, ?stop, ?service⟩
    case emergency => rintro rfl; exact decideFor_emergency _ _
    case safety => rintro rfl; exact decideFor_safety _ _
    case stop => rintro rfl; exact decideFor_stop _ _
    case service => rintro rfl; exact decideFor_service _ _
  case outcomes => exact fun s p e => ⟨s.turn_decline p e, s.turn_unreachable p e⟩
  case defaults =>
    exact fun ph _ hrest => ⟨decideFor_safety_defaultProfile hrest ph, decideFor_service_defaultProfile hrest ph⟩

end Sys2Proof.Machine
end

