-- ==== Sys2Proof/Proofs/HandOver.lean ====
section
/-! A hand-over to the trunk (R164, R165, R167, R170) in two parts: the packet joins the queue of its class, and the
transmitter then takes the next packet, or none while it holds one or is BACKED_OFF. -/

namespace Sys2Proof.Machine

/-! ## A bounded queue -/

/-- A queue with room takes a new member at its tail and loses none. -/
theorem pushDropOldest_of_length_lt {α : Type} {cap : Nat} {q : List α} (h : q.length < cap) (x : α) :
    pushDropOldest cap q x = (q ++ [x], false) := if_pos h

/-- A queue filled to its capacity loses its head, its oldest, and no more. -/
theorem pushDropOldest_of_length_eq {α : Type} {cap : Nat} {q : List α} (h : q.length = cap) (x : α) :
    pushDropOldest cap q x = (q.tail ++ [x], true) := by
  simp [pushDropOldest, h, List.drop_one]

/-! ## The queue of the packet's class -/

/-- Class A accepts whatever it is handed; what it loses is counted as its own drop. -/
theorem Trunk.enqueue_classA (t : Trunk) {x : TxPacket} (hx : accessClass x.packet.body = .a) :
    t.enqueue x = ({ t with queueA := (pushDropOldest 8 t.queueA x).1,
                            dropA := if (pushDropOldest 8 t.queueA x).2 then bump t.dropA else t.dropA }, true) := by
  unfold Trunk.enqueue
  rw [hx]
  rfl

/-- Class B accepts whatever it is handed; what it loses is counted as its own drop. -/
theorem Trunk.enqueue_classB (t : Trunk) {x : TxPacket} (hx : accessClass x.packet.body = .b) :
    t.enqueue x = ({ t with queueB := (pushDropOldest 16 t.queueB x).1,
                            dropB := if (pushDropOldest 16 t.queueB x).2 then bump t.dropB else t.dropB }, true) := by
  unfold Trunk.enqueue
  rw [hx]
  rfl

/-- Class C accepts while it has room, and else refuses and counts the refusal. -/
theorem Trunk.enqueue_classC (t : Trunk) {x : TxPacket} (hx : accessClass x.packet.body = .c) :
    t.enqueue x = if t.queueC.length < 32 then ({ t with queueC := t.queueC ++ [x] }, true)
      else ({ t with refusalC := bump t.refusalC }, false) := by
  unfold Trunk.enqueue
  rw [hx]
  rfl

/-- What joins the queues does not free a transmitter that takes none, nor stop one that is free. -/
theorem Trunk.takesNone_enqueue_iff (t : Trunk) (x : TxPacket) : (t.enqueue x).1.takesNone ↔ t.takesNone := by
  cases hx : accessClass x.packet.body with
  | a => rw [t.enqueue_classA hx]; rfl
  | b => rw [t.enqueue_classB hx]; rfl
  | c => rw [t.enqueue_classC hx]; split <;> rfl

/-! ## The transmitter's taking -/

/-- A transmitter that holds a packet or is BACKED_OFF takes nothing. -/
theorem Trunk.take_of_takesNone {t : Trunk} (h : t.takesNone) : t.take = t := by
  obtain hbusy | hmode := h
  · exact t.take_busy hbusy
  · cases hm : t.mode with
    | enabled => exact absurd hm hmode
    | backedOff e => exact t.take_backedOff e hm

/-- A free, ENABLED transmitter with empty queues takes the packet that joins, whatever its class, and the queues are
empty again. -/
theorem Trunk.take_enqueue_of_empty {t : Trunk} (hfree : t.current = none) (hmode : t.mode = .enabled)
    (hA : t.queueA = []) (hB : t.queueB = []) (hC : t.queueC = []) (x : TxPacket) :
    (t.enqueue x).1.take = { t with current := some (.fresh x) } := by
  obtain ⟨queueA, queueB, queueC, current, idleFrom, mode⟩ := t
  subst hfree hmode hA hB hC
  cases hx : accessClass x.packet.body with
  | a => rw [Trunk.enqueue_classA _ hx]; rfl
  | b => rw [Trunk.enqueue_classB _ hx]; rfl
  | c => rw [Trunk.enqueue_classC _ hx]; rfl

/-! ## The hand-over -/

/-- In RUNNING a packet handed over joins its queue, the transmitter takes the next, and the handing block is told what
the queue answered. -/
theorem State.handOverTold_of_running {s : State} (hrun : s.running = true) (b : Body) :
    s.handOverTold b = ({ s with trunk := (s.trunk.enqueue (handedBy s s b)).1.take },
                        (s.trunk.enqueue (handedBy s s b)).2) := if_pos hrun

/-- While the transmitter takes none, a hand-over is the joining of the queue alone. -/
theorem State.handOverTold_of_takesNone {s : State} (hrun : s.running = true) (hnone : s.trunk.takesNone) (b : Body) :
    s.handOverTold b = ({ s with trunk := (s.trunk.enqueue (handedBy s s b)).1 },
                        (s.trunk.enqueue (handedBy s s b)).2) := by
  rw [State.handOverTold_of_running hrun, Trunk.take_of_takesNone ((s.trunk.takesNone_enqueue_iff _).mpr hnone)]

/-- Settles O21: the hand-over class by class while the transmitter takes none, and the take at once when it is free. -/
theorem handOverByClass : Obligations.HandOverByClass := by
  intro s b hrun x
  refine ⟨fun hnone => ?waits, fun hfree hmode hA hB hC => ?atOnce⟩
  case atOnce =>
    rw [State.handOverTold_of_running hrun, Trunk.take_enqueue_of_empty hfree hmode hA hB hC]
    rfl
  case waits =>
    rw [State.handOverTold_of_takesNone hrun hnone]
    refine ⟨fun hb => ?classA, fun hb => ?classB, fun hb => ?classC⟩
    case classA =>
      rw [s.trunk.enqueue_classA (x := handedBy s s b) hb]
      refine ⟨rfl, fun hroom => ?_, fun hfull => ?_⟩
      · rw [pushDropOldest_of_length_lt hroom]; rfl
      · rw [pushDropOldest_of_length_eq hfull]; rfl
    case classB =>
      rw [s.trunk.enqueue_classB (x := handedBy s s b) hb]
      refine ⟨rfl, fun hroom => ?_, fun hfull => ?_⟩
      · rw [pushDropOldest_of_length_lt hroom]; rfl
      · rw [pushDropOldest_of_length_eq hfull]; rfl
    case classC =>
      rw [s.trunk.enqueue_classC (x := handedBy s s b) hb]
      refine ⟨fun hroom => ?_, fun hfull => ?_⟩
      · rw [if_pos hroom]; exact ⟨rfl, rfl⟩
      · rw [if_neg (Nat.not_lt.mpr hfull.ge)]; exact ⟨rfl, rfl⟩

end Sys2Proof.Machine
end

