-- ==== Sys2Proof/Proofs/ServiceRequests.lean ====
section
/-! What every service request has in common (R171, R174, R189): its packet is taken from another station and delivered,
and its reply is a body handed to class C (R164, R165, R167). -/

namespace Sys2Proof.Machine

/-! ## What the transmitter's taking keeps -/

/-- Taking a packet counts nothing. -/
@[simp] theorem Trunk.take_counters (t : Trunk) : t.take.counters = t.counters := by
  rw [t.take_frame]
  rfl

/-- Taking a packet refuses none. -/
@[simp] theorem Trunk.take_refusalC (t : Trunk) : t.take.refusalC = t.refusalC := by rw [t.take_frame]

/-- A packet taken moves from the head of the first queue that holds one to the transmitter, the place before it. -/
@[simp] theorem Trunk.take_held (t : Trunk) : t.take.held = t.held := by
  unfold Trunk.take
  split
  · split <;> simp [Trunk.held, Current.fresh, *]
  · rfl

/-- A packet taken waits for its gap first: taking does not begin to send. -/
theorem Trunk.isSending_take {t : Trunk} (h : t.isSending = false) : t.take.isSending = false := by
  unfold Trunk.take
  split
  · split
    · rfl
    · rfl
    · rfl
    · exact h
  · exact h

/-! ## A body handed to class C -/

/-- Handed to a class C queue with room, a body joins its tail before the transmitter takes the next packet. -/
theorem State.handOverTold_classC_of_room {s : State} (hrun : s.running = true) {b : Body} (hb : accessClass b = .c)
    (hroom : s.trunk.queueC.length < 32) :
    (s.handOverTold b).1 = { s with trunk := { s.trunk with queueC := s.trunk.queueC ++ [handedBy s s b] }.take } := by
  rw [State.handOverTold_of_running hrun, s.trunk.enqueue_classC (x := handedBy s s b) hb, if_pos hroom]

/-- Handed to a full class C queue, a body is refused and counted before the transmitter takes the next packet. -/
theorem State.handOverTold_classC_of_full {s : State} (hrun : s.running = true) {b : Body} (hb : accessClass b = .c)
    (hfull : 32 ≤ s.trunk.queueC.length) :
    (s.handOverTold b).1 = { s with trunk := { s.trunk with refusalC := bump s.trunk.refusalC }.take } := by
  rw [State.handOverTold_of_running hrun, s.trunk.enqueue_classC (x := handedBy s s b) hb,
    if_neg (Nat.not_lt.mpr hfull)]

/-- In RUNNING a class C body is queued, or refused and counted, whatever the transmitter does. -/
theorem queuedC_handOverTold {s : State} (hrun : s.running = true) {b : Body} (hb : accessClass b = .c) :
    queuedC s (s.handOverTold b).1 b := by
  refine ⟨fun hroom => ?room, fun hfull => ?full⟩
  case room =>
    rw [State.handOverTold_classC_of_room hrun hb hroom]
    refine ⟨?held, fun hnone => ?tail⟩
    case held =>
      rw [Trunk.take_held]
      exact .of_eq (List.append_assoc _ _ _).symm
    case tail => rw [Trunk.take_of_takesNone (by exact hnone)]; rfl
  case full =>
    rw [State.handOverTold_classC_of_full hrun hb hfull]
    refine ⟨?held, Trunk.take_refusalC _, fun hnone => ?queue⟩
    case held => exact .of_eq (Trunk.take_held _)
    case queue => rw [Trunk.take_of_takesNone (by exact hnone)]

/-- Of the trunk, a class C hand-over changes the queues, the transmitter's packet and the count of refusals alone. -/
theorem State.handOverTold_classC_trunk {s : State} (hrun : s.running = true) {b : Body} (hb : accessClass b = .c) :
    ∃ queueA queueB queueC current refusalC, (s.handOverTold b).1.trunk =
      { s.trunk with queueA := queueA, queueB := queueB, queueC := queueC, current := current, refusalC := refusalC } := by
  rcases Nat.lt_or_ge s.trunk.queueC.length 32 with hroom | hfull
  · rw [State.handOverTold_classC_of_room hrun hb hroom]
    exact ⟨_, _, _, _, _, Trunk.take_frame _⟩
  · rw [State.handOverTold_classC_of_full hrun hb hfull]
    exact ⟨_, _, _, _, _, Trunk.take_frame _⟩

/-- A class C hand-over does not begin to send, so the receive side goes on listening. -/
theorem State.listens_handOverTold_classC {s : State} (hrun : s.running = true) {b : Body} (hb : accessClass b = .c)
    (h : s.listens = true) : (s.handOverTold b).1.listens = true := by
  simp only [State.listens, Bool.and_eq_true, Bool.not_eq_true'] at h
  obtain ⟨hload, hsend⟩ := h
  have hstill : (s.handOverTold b).1.trunk.isSending = false := by
    rcases Nat.lt_or_ge s.trunk.queueC.length 32 with hroom | hfull
    · rw [State.handOverTold_classC_of_room hrun hb hroom]
      exact Trunk.isSending_take hsend
    · rw [State.handOverTold_classC_of_full hrun hb hfull]
      exact Trunk.isSending_take hsend
  have hstate : (s.handOverTold b).1.loading = s.loading := by
    rw [State.handOverTold, State.handOverMarked_frame]
    rfl
  rw [State.listens, hstill, hstate, hload]
  rfl

/-! ## A packet at the receive side -/

/-- A station the node takes packets from: the node listens, and the station is another one. -/
theorem State.takesFrom_iff {s : State} {source : Nat} :
    s.takesFrom source = true ↔ s.listens = true ∧ (1 ≤ source ∧ source ≤ 30) ∧ source ≠ s.startup.station := by
  simp [State.takesFrom, and_assoc]

/-- A packet that passes the checks on its source and its fields is a station clash or is delivered. -/
theorem State.takeGood_of_ok {s : State} {p : Packet} (hsource : 1 ≤ p.source ∧ p.source ≤ 30) (hb : bodyOk p.body = true) :
    s.takeGood p = if p.source = s.startup.station then s.modTrunk fun t => { t with stationClash := bump t.stationClash }
      else (s.refreshPeer p.source).deliver p :=
  if_neg (by simp [hsource, hb])

/-- A packet with good fields of another station is delivered once its carrier has ended and the peer list has it. -/
theorem State.receive_of_takesFrom {s : State} {source : Nat} (h : s.takesFrom source = true) {b : Body}
    (hb : bodyOk b = true) :
    s.receive { source := source, body := b } = (s.heard source).deliver { source := source, body := b } := by
  obtain ⟨hlistens, hstation, hother⟩ := State.takesFrom_iff.mp h
  rw [State.receive, if_pos hlistens, State.takeGood_of_ok hstation hb, if_neg (by exact hother)]
  rfl

/-- A packet with good fields that names the node's own station is counted as a station clash, once. -/
theorem State.receive_own_stationClash {s : State} (hlistens : s.listens = true)
    (hstation : 1 ≤ s.startup.station ∧ s.startup.station ≤ 30) {b : Body} (hb : bodyOk b = true) :
    (s.receive { source := s.startup.station, body := b }).trunk.stationClash = bump s.trunk.stationClash := by
  rw [State.receive, if_pos hlistens, State.takeGood_of_ok hstation hb, if_pos (by rfl)]
  rfl

/-- A service request of another station is handed to the service with its target, kind and argument. -/
theorem State.receive_serviceRequest {s : State} {source : Nat} (h : s.takesFrom source = true) (target : Nat)
    (k : ServiceKind) (argument : Nat) :
    s.receive { source := source, body := .serviceRequest target k argument } =
      (s.heard source).takeService target k argument :=
  State.receive_of_takesFrom h rfl

end Sys2Proof.Machine
end

