-- ==== Sys2Proof/Proofs/ClearCounters.lean ====
section
/-! CLEAR_COUNTERS (R190): the clear sets every counter to 0 and keeps all else, and the reply handed over after it counts
at most its own refusal. -/

namespace Sys2Proof.Machine

/-! ## The clear -/

/-- The refusals of class C are the third counter in R177's order. -/
theorem Trunk.counters_set_refusalC (t : Trunk) (c : Counter) :
    ({ t with refusalC := c }).counters = t.counters.set 2 c := rfl

/-- A port's counters are cleared, and nothing else of its link is. -/
theorem State.clearCounters_link (s : State) (p : Port) :
    s.clearCounters.links[p] = { s.links[p] with counters := .zero } := by
  simp [State.clearCounters]

/-- Once the clear is made, every counter is 0 while those of the trunk are. -/
theorem State.everyCounter_clearCounters {s : State} {t : Trunk} (ht : t.counters = List.replicate 11 0) :
    ({ s.clearCounters with trunk := t }).everyCounter.all (fun c => c == 0) = true := by
  have hlink : ∀ p : Port, s.clearCounters.links[p].counters.list = List.replicate 10 0 := fun p => by
    rw [s.clearCounters_link p]; rfl
  simp only [State.everyCounter, ht, hlink]
  simp [State.clearCounters, TapCtl.cleared, TapCtl.counters, VoiceArb.cleared, VoiceArb.counters]

/-! ## The clear and its reply -/

/-- The reply of CLEAR_COUNTERS (R190). -/
def clearReply : Body := .serviceReply .clearCounters .accepted .none

/-- The state in which CLEAR_COUNTERS leaves the node: the requester heard, the counters cleared, the reply handed over. -/
def State.clearedFor (s : State) (source : Nat) : State := ((s.heard source).clearCounters.handOverTold clearReply).1

/-- CLEAR_COUNTERS of another station for this one is served in RUNNING. -/
theorem exec_clearCounters {s : State} {source : Nat} (h : s.takesFrom source = true) (hrun : s.running = true) :
    exec (.clearCounters source s.startup.station) s = .next (s.clearedFor source) := by
  have hexec : exec (.clearCounters source s.startup.station) s =
      .next (s.receive { source := source, body := .serviceRequest s.startup.station .clearCounters 0 }) := rfl
  rw [hexec, State.receive_serviceRequest h, State.takeService, if_pos (by exact ⟨hrun, rfl⟩)]
  rfl

section
variable {s : State} (source : Nat) (hrun : s.running = true)
include hrun

/-- The reply is queued, or refused and counted from 0. -/
theorem State.queuedC_clearedFor :
    queuedC { s with trunk := { s.trunk with refusalC := 0 } } (s.clearedFor source) clearReply :=
  queuedC_handOverTold (s := (s.heard source).clearCounters) hrun rfl

/-- With room for the reply, it joins the queue of a cleared node. -/
theorem State.clearedFor_of_room (hroom : s.trunk.queueC.length < 32) :
    s.clearedFor source = { (s.heard source).clearCounters with
      trunk := { (s.heard source).trunk.cleared with queueC := s.trunk.queueC ++ [handedBy s s clearReply] }.take } :=
  State.handOverTold_classC_of_room (s := (s.heard source).clearCounters) hrun rfl hroom

/-- With no room for the reply, its refusal is counted by a cleared node. -/
theorem State.clearedFor_of_full (hfull : 32 ≤ s.trunk.queueC.length) :
    s.clearedFor source = { (s.heard source).clearCounters with
      trunk := { (s.heard source).trunk.cleared with refusalC := 1 }.take } :=
  State.handOverTold_classC_of_full (s := (s.heard source).clearCounters) hrun rfl hfull

/-- With room for the reply no counter is left above 0. -/
theorem State.everyCounter_clearedFor_of_room (hroom : s.trunk.queueC.length < 32) :
    (s.clearedFor source).everyCounter.all (fun c => c == 0) = true := by
  rw [State.clearedFor_of_room source hrun hroom]
  exact State.everyCounter_clearCounters (Trunk.take_counters _)

/-- With no room for the reply its refusal is the only event counted. -/
theorem State.everyCounter_clearedFor_of_full (hfull : 32 ≤ s.trunk.queueC.length) :
    (s.clearedFor source).trunk.refusalC = 1 ∧
      ({ s.clearedFor source with trunk := { (s.clearedFor source).trunk with refusalC := 0 } }).everyCounter.all
        (fun c => c == 0) = true := by
  rw [State.clearedFor_of_full source hrun hfull]
  refine ⟨Trunk.take_refusalC _, State.everyCounter_clearCounters (s := s.heard source) ?_⟩
  rw [Trunk.counters_set_refusalC, Trunk.take_counters]
  rfl

/-- The clear and its reply leave the peer list as the request's packet left it, and no station clash counted. -/
theorem State.clearedFor_peers_stationClash :
    (s.clearedFor source).trunk.peers = (s.heard source).trunk.peers ∧ (s.clearedFor source).trunk.stationClash = 0 := by
  obtain ⟨_, _, _, _, _, htrunk⟩ :=
    State.handOverTold_classC_trunk (s := (s.heard source).clearCounters) hrun (b := clearReply) rfl
  rw [State.clearedFor, htrunk]
  exact ⟨rfl, rfl⟩

end

/-- Settles O15: the clear sets every counter to 0 and keeps all else, and what is counted after it, the refusal of its own
reply among it, is counted from 0. -/
theorem clearCountersClearsEveryCounter : Obligations.ClearCountersClearsEveryCounter := by
  intro s source htakes hrun
  have hframe : s.clearedFor source = { (s.heard source).clearCounters with trunk := (s.clearedFor source).trunk } :=
    State.handOverMarked_frame _ clearReply false
  have hlink : ∀ p : Port, (s.clearedFor source).links[p] = { s.links[p] with counters := .zero } := fun p => by
    rw [hframe]
    exact (s.heard source).clearCounters_link p
  have hlistens : (s.clearedFor source).listens = true :=
    State.listens_handOverTold_classC (s := (s.heard source).clearCounters) hrun rfl (State.takesFrom_iff.mp htakes).1
  obtain ⟨hpeers, hclash⟩ := State.clearedFor_peers_stationClash source hrun
  refine ⟨s.clearedFor source, exec_clearCounters htakes hrun, State.everyCounter_clearedFor_of_room source hrun,
    State.queuedC_clearedFor source hrun, hpeers, ?frame, State.everyCounter_clearedFor_of_full source hrun, ?seconds, hlink,
    ?upSeconds, fun b hb hlow hhigh => ?clash, rfl⟩
  case frame => rw [hframe]; rfl
  case seconds => rw [hframe]; rfl
  case upSeconds =>
    intro p
    rw [hlink p, hframe]
    rfl
  case clash =>
    have hstation : (s.clearedFor source).startup.station = s.startup.station := by rw [hframe]; rfl
    rw [← hstation, State.receive_own_stationClash hlistens (by rw [hstation]; exact ⟨hlow, hhigh⟩) hb, hclash]
    rfl

end Sys2Proof.Machine
end

section
/-! The carry decision (R74 to R76): the state it gives each channel, by the channel's place among the candidates and among the
lingering channels, and the budget that it keeps. -/

namespace Sys2Proof.Machine

/-! ## One channel -/

/-- A state in which a channel sends (section 4.4). -/
def sends (st : ChanState) : Bool := st == .carried || st == .linger

theorem Channel.carried_eq (x : Channel) : x.carried = sends x.state := rfl

/-- A channel that is given a sending state changes its state and linger end alone. -/
theorem Channel.assign_of_sends (x : Channel) (cfg : ChannelConfig) {st : ChanState} (h : sends st = true) (le : Option Time) :
    x.assign cfg st le = { x with state := st, lingerEnd := le } := if_pos h

/-- A channel that is given another state has its level window abandoned. -/
theorem Channel.assign_of_not_sends (x : Channel) (cfg : ChannelConfig) {st : ChanState} (h : sends st = false)
    (le : Option Time) : ∃ trim mode, x.assign cfg st le =
      { x with state := st, lingerEnd := le, trim := trim, mode := mode, window := none } := by
  have hstops : ¬({ x with state := st, lingerEnd := le } : Channel).carried = true := by simp [Channel.carried_eq, h]
  exact ⟨_, _, (if_neg hstops).trans (Channel.abandon_frame _ cfg)⟩

/-- Whatever state a channel is given, its buffers, sequences, demand set and shadow end stand. -/
theorem Channel.assign_frame (x : Channel) (cfg : ChannelConfig) (st : ChanState) (le : Option Time) :
    ∃ trim mode window, x.assign cfg st le =
      { x with state := st, lingerEnd := le, trim := trim, mode := mode, window := window } := by
  cases h : sends st with
  | true => exact ⟨_, _, _, x.assign_of_sends cfg h le⟩
  | false =>
    obtain ⟨trim, mode, e⟩ := x.assign_of_not_sends cfg h le
    exact ⟨_, _, _, e⟩

/-! ## The orders of a decision -/

/-- What a decision tells one channel: the state it takes and its linger end. -/
structure Order where
  chan      : Chan
  state     : ChanState
  lingerEnd : Option Time

/-- An order carried out. -/
def State.obey (u : State) (im : Image) (o : Order) : State :=
  u.modChan o.chan fun y => y.assign im.channels[o.chan] o.state o.lingerEnd

/-- The orders of a decision, one for each channel that it reads. -/
def Decided.orders (d : Decided) : List Order :=
  d.carried.map (fun x => ⟨x.chan, .carried, none⟩) ++ d.refused.map (fun x => ⟨x.chan, .refused, none⟩) ++
    d.idle.map (fun x => ⟨x.chan, .idle, none⟩) ++ d.linger.map (fun x => ⟨x.chan, .linger, x.lingerEnd⟩)

/-- A decision is carried out order by order. -/
theorem State.applyDecision_eq (s : State) (d : Decided) :
    s.applyDecision d = d.orders.foldl (fun u o => u.obey s.image o) s := by
  simp only [Decided.orders, List.foldl_append, List.foldl_map]
  rfl

/-- A channel without an order stands. -/
theorem chan_foldl_obey_of_not_mem {c : Chan} (im : Image) (l : List Order) (h : ∀ o ∈ l, o.chan ≠ c) (s : State) :
    (l.foldl (fun u o => u.obey im o) s).chan c = s.chan c := by
  induction l generalizing s with
  | nil => rfl
  | cons o l ih =>
    rw [List.foldl_cons, ih (fun x hx => h x (List.mem_cons_of_mem o hx)), State.obey, State.modChan_get,
      if_neg (h o List.mem_cons_self).symm]

/-- A channel with one order obeys it. -/
theorem chan_foldl_obey_of_mem (im : Image) {l : List Order} (hn : (l.map Order.chan).Nodup) {o : Order} (ho : o ∈ l)
    (s : State) : (l.foldl (fun u o => u.obey im o) s).chan o.chan =
      (s.chan o.chan).assign im.channels[o.chan] o.state o.lingerEnd := by
  induction l generalizing s with
  | nil => cases ho
  | cons x l ih =>
    rw [List.map_cons, List.nodup_cons] at hn
    obtain ⟨hx, hl⟩ := hn
    rw [List.foldl_cons]
    rcases List.mem_cons.mp ho with rfl | ho
    · rw [chan_foldl_obey_of_not_mem im l (fun y hy e => hx (List.mem_map.mpr ⟨y, hy, e⟩)), State.obey, State.modChan_self]
    · have hne : o.chan ≠ x.chan := fun e => hx (List.mem_map.mpr ⟨o, ho, e⟩)
      rw [ih hl ho, State.obey, State.modChan_get, if_neg hne]

/-! ## The parts of a decision -/

section
variable (b : Nat) (l : List Standing)

/-- The standings with demand, those that linger, and the others. -/
def wanted : List Standing := l.filter fun x => decide (0 < x.demand)
def lingering : List Standing := l.filter fun x => x.demand == 0 && x.state == .linger
def unwanted : List Standing := l.filter fun x => x.demand == 0 && x.state != .linger

/-- How many lingering channels a decision stops (R76 step 3). -/
def stopCount : Nat := min (lingering l).length ((wanted l).length + (lingering l).length - b)

/-- How many candidates a decision has room for. -/
def roomLeft : Nat := b - ((lingering l).length - stopCount b l)

/-- The decision, by its parts. -/
theorem decideCarry_eq : decideCarry b l =
    { carried := (sortBy ranksBefore (wanted l)).take (roomLeft b l),
      refused := (sortBy ranksBefore (wanted l)).drop (roomLeft b l),
      linger := (sortBy stopsBefore (lingering l)).drop (stopCount b l),
      idle := (sortBy stopsBefore (lingering l)).take (stopCount b l) ++ unwanted l } := by
  simp only [decideCarry, roomLeft, stopCount, (sortBy_perm _ _).length_eq]
  rfl

/-- The three parts hold every standing once. -/
theorem perm_parts : (wanted l ++ (lingering l ++ unwanted l)).Perm l := by
  have hsplit : (lingering l ++ unwanted l).Perm (l.filter fun x => !decide (0 < x.demand)) := by
    have h := List.filter_append_perm (fun x : Standing => x.state == .linger) (l.filter fun x => !decide (0 < x.demand))
    rw [List.filter_filter, List.filter_filter] at h
    refine .trans (.of_eq ?_) h
    congr 1
    · refine List.filter_congr fun x _ => ?_
      cases hd : x.demand <;> simp
    · refine List.filter_congr fun x _ => ?_
      cases hd : x.demand <;> simp [bne]
  exact ((List.Perm.refl _).append hsplit).trans (List.filter_append_perm _ l)

/-- A decision gives every channel that it reads one order. -/
theorem orders_chan_perm : ((decideCarry b l).orders.map Order.chan).Perm (l.map Standing.chan) := by
  rw [decideCarry_eq]
  have hw := (sortBy_perm ranksBefore (wanted l)).map Standing.chan
  have hl := (sortBy_perm stopsBefore (lingering l)).map Standing.chan
  rw [← List.take_append_drop (roomLeft b l) (sortBy ranksBefore (wanted l)), List.map_append] at hw
  rw [← List.take_append_drop (stopCount b l) (sortBy stopsBefore (lingering l)), List.map_append] at hl
  refine List.Perm.trans ?_ ((perm_parts l).map Standing.chan)
  simp only [Decided.orders, List.map_append, List.map_map, Function.comp_def, List.append_assoc] at hw hl ⊢
  rw [← List.append_assoc]
  refine hw.append (.trans ?_ (hl.append_right _))
  rw [List.append_assoc]
  exact (List.perm_append_comm).append_left _

/-- The orders to send are within the budget. -/
theorem orders_sending_length_le : ((decideCarry b l).orders.filter fun o => sends o.state).length ≤ b := by
  have hall : ∀ (m : List Standing) (f : Standing → Order), (∀ x, sends (f x).state = true) →
      (m.map f).filter (fun o => sends o.state) = m.map f := fun m f hf => by simp [hf]
  have hnone : ∀ (m : List Standing) (f : Standing → Order), (∀ x, sends (f x).state = false) →
      (m.map f).filter (fun o => sends o.state) = [] := fun m f hf => by simp [hf]
  rw [decideCarry_eq]
  simp only [Decided.orders, List.filter_append]
  rw [hall _ _ fun _ => rfl, hnone _ _ fun _ => rfl, hnone _ _ fun _ => rfl, hall _ _ fun _ => rfl]
  simp only [List.append_nil, List.length_append, List.length_map, List.length_take, List.length_drop,
    (sortBy_perm _ _).length_eq, roomLeft, stopCount]
  omega

end

/-! ## The order of each standing -/

theorem ranksBefore_irrefl (x : Standing) : ranksBefore x x = false := by
  simp [ranksBefore]

/-- The end of lingering by which a decision stops channels. -/
def Standing.stopsAt (x : Standing) : Nat := x.lingerEnd.getD 0

/-- One lingering channel stops before another: by its end, of equal ends by the higher program. -/
theorem stopsBefore_iff (x y : Standing) :
    stopsBefore x y = true ↔ x.stopsAt < y.stopsAt ∨ x.stopsAt = y.stopsAt ∧ y.program < x.program := by
  unfold stopsBefore
  change (if x.stopsAt ≠ y.stopsAt then decide (x.stopsAt < y.stopsAt) else decide (y.program < x.program)) = true ↔ _
  split_ifs with h
  · simp [h]
  · simp [not_not.mp h]

theorem stopsBefore_trans (x y z : Standing) (hxy : stopsBefore x y = true) (hyz : stopsBefore y z = true) :
    stopsBefore x z = true := by
  rw [stopsBefore_iff] at *
  omega

theorem stopsBefore_irrefl (x : Standing) : stopsBefore x x = false := by
  simp [stopsBefore]

theorem stopsBefore_total {x y : Standing} (h : x.program ≠ y.program) :
    stopsBefore x y = true ∨ stopsBefore y x = true := by
  rw [stopsBefore_iff, stopsBefore_iff]
  omega

theorem ranksBefore_total {x y : Standing} (h : x.program ≠ y.program) :
    ranksBefore x y = true ∨ ranksBefore y x = true := by
  rw [ranksBefore_eq_not_of_program_ne h]
  cases ranksBefore y x <;> simp

/-- Two standings read by one decision feed different programs. -/
def programsApart (l : List Standing) : Prop := l.Pairwise fun x y => x.program ≠ y.program

section
variable (b : Nat) {l : List Standing} (hl : programsApart l) {x : Standing} (hx : x ∈ l)
include hl hx

/-- A candidate within the room is carried, one below it refused (R75, R76). -/
theorem order_of_wanted (hd : 0 < x.demand) :
    (⟨x.chan, if ((wanted l).filter fun y => ranksBefore y x).length < roomLeft b l then .carried else .refused, none⟩ : Order) ∈
      (decideCarry b l).orders := by
  have hw : x ∈ wanted l := List.mem_filter.mpr ⟨hx, decide_eq_true hd⟩
  have htotal : (wanted l).Pairwise fun x y => ranksBefore x y = true ∨ ranksBefore y x = true :=
    (List.Pairwise.filter _ hl).imp ranksBefore_total
  have hiff := mem_take_sortBy ranksBefore ranksBefore_trans ranksBefore_irrefl (wanted l) htotal (roomLeft b l) x hw
  rw [decideCarry_eq]
  simp only [Decided.orders, List.mem_append, List.mem_map]
  split
  · next h => exact .inl (.inl (.inl ⟨x, hiff.mpr h, rfl⟩))
  · next h =>
    have hdrop : x ∈ (sortBy ranksBefore (wanted l)).drop (roomLeft b l) := by
      have hs := (sortBy_perm ranksBefore (wanted l)).mem_iff.mpr hw
      rw [← List.take_append_drop (roomLeft b l) (sortBy ranksBefore (wanted l)), List.mem_append] at hs
      exact hs.resolve_left fun ht => h (hiff.mp ht)
    exact .inl (.inl (.inr ⟨x, hdrop, rfl⟩))

/-- A lingering channel among those that stop first is stopped, another lingers on (R76). -/
theorem order_of_lingering (hd : x.demand = 0) (hs : x.state = .linger) :
    (if ((lingering l).filter fun y => stopsBefore y x).length < stopCount b l then ⟨x.chan, .idle, none⟩
      else ⟨x.chan, .linger, x.lingerEnd⟩ : Order) ∈ (decideCarry b l).orders := by
  have hw : x ∈ lingering l := List.mem_filter.mpr ⟨hx, by simp [hd, hs]⟩
  have htotal : (lingering l).Pairwise fun x y => stopsBefore x y = true ∨ stopsBefore y x = true :=
    (List.Pairwise.filter _ hl).imp stopsBefore_total
  have hiff := mem_take_sortBy stopsBefore stopsBefore_trans stopsBefore_irrefl (lingering l) htotal (stopCount b l) x hw
  rw [decideCarry_eq]
  simp only [Decided.orders, List.mem_append, List.mem_map]
  split
  · next h => exact .inl (.inr ⟨x, .inl (hiff.mpr h), rfl⟩)
  · next h =>
    have hdrop : x ∈ (sortBy stopsBefore (lingering l)).drop (stopCount b l) := by
      have hs := (sortBy_perm stopsBefore (lingering l)).mem_iff.mpr hw
      rw [← List.take_append_drop (stopCount b l) (sortBy stopsBefore (lingering l)), List.mem_append] at hs
      exact hs.resolve_left fun ht => h (hiff.mp ht)
    exact .inr ⟨x, hdrop, rfl⟩

omit hl in
/-- A channel without demand that does not linger is idle (R76). -/
theorem order_of_unwanted (hd : x.demand = 0) (hs : x.state ≠ .linger) :
    (⟨x.chan, .idle, none⟩ : Order) ∈ (decideCarry b l).orders := by
  have hw : x ∈ unwanted l := List.mem_filter.mpr ⟨hx, by simp [hd, hs]⟩
  rw [decideCarry_eq]
  simp only [Decided.orders, List.mem_append, List.mem_map]
  exact .inl (.inr ⟨x, .inr hw, rfl⟩)

end

/-! ## The standings of a node -/

/-- A channel that the carry decision reads: in use and not SHADOWED. -/
def State.reads (s : State) (c : Chan) : Bool := s.inUse c && (s.chan c).state != .shadowed

/-- One channel as the decision reads it. -/
def State.standing (s : State) (c : Chan) : Standing :=
  let lingers := (s.chan c).state == .carried && (s.chan c).demand.isEmpty
  { chan := c, program := s.chanProgram c, demand := (s.chan c).demand.length,
    state := if lingers then .linger else (s.chan c).state,
    lingerEnd := if lingers then some (s.now + ms 2000) else (s.chan c).lingerEnd }

theorem State.standings_eq (s : State) : s.standings = (allChans.filter s.reads).map s.standing := rfl

theorem State.standings_map_chan (s : State) : s.standings.map Standing.chan = allChans.filter s.reads := by
  rw [State.standings_eq, List.map_map]
  exact List.map_id' _

theorem State.standing_mem {s : State} {c : Chan} (h : s.reads c = true) : s.standing c ∈ s.standings :=
  List.mem_map_of_mem (List.mem_filter.mpr ⟨List.mem_finRange c, h⟩)

/-- The channels' programs are apart where the image says so (R183). -/
theorem State.standings_programsApart {s : State} (h : s.image.feedsApart = true) : programsApart s.standings := by
  have hne : ∀ c d : Chan, s.reads c = true → c ≠ d → s.chanProgram c ≠ s.chanProgram d := fun c d hc hcd => by
    simp only [Image.feedsApart, allChans, List.all_eq_true, List.mem_finRange, forall_const, Bool.or_eq_true,
      beq_iff_eq, bne_iff_ne] at h
    simp only [State.reads, State.inUse, Bool.and_eq_true, bne_iff_ne] at hc
    exact ((h c d).resolve_left (by rintro (h | h); exacts [hcd h, hc.1 h]))
  rw [State.standings_eq, programsApart, List.pairwise_map]
  have hnodup : (allChans.filter s.reads).Pairwise (· ≠ ·) := (List.nodup_finRange 8).filter _
  exact hnodup.imp_of_mem fun hc _ hcd => hne _ _ (List.mem_filter.mp hc).2 hcd

/-- One order for each channel that the decision reads. -/
theorem State.orders_nodup (s : State) (b : Nat) : ((decideCarry b s.standings).orders.map Order.chan).Nodup := by
  rw [(orders_chan_perm b s.standings).nodup_iff, State.standings_map_chan]
  exact (List.nodup_finRange 8).filter _

/-- A channel that the decision reads has an order. -/
theorem State.order_of_reads {s : State} (b : Nat) {c : Chan} (h : s.reads c = true) :
    ∃ o ∈ (decideCarry b s.standings).orders, o.chan = c := by
  have hmem := (orders_chan_perm b s.standings).mem_iff.mpr (List.mem_map_of_mem (State.standing_mem h))
  exact List.mem_map.mp hmem

/-- A channel that it does not read has none. -/
theorem State.no_order_of_not_reads {s : State} (b : Nat) {c : Chan} (h : s.reads c = false) :
    ∀ o ∈ (decideCarry b s.standings).orders, o.chan ≠ c := by
  rintro o ho rfl
  have hmem := (orders_chan_perm b s.standings).mem_iff.mp (List.mem_map_of_mem ho)
  rw [State.standings_map_chan, List.mem_filter, h] at hmem
  exact absurd hmem.2 (by simp)

/-- The orders that the carry decision gives. -/
def State.carryOrders (s : State) : List Order := (decideCarry s.image.carryBudget s.standings).orders

/-- The channels once the carry decision is carried out. -/
def State.decided (s : State) : State := s.applyDecision (decideCarry s.image.carryBudget s.standings)

/-- The configuration of a channel. -/
def State.chanConfig (s : State) (c : Chan) : ChannelConfig := s.image.channels[c]

theorem State.decided_chan_of_order {s : State} {o : Order} (h : o ∈ s.carryOrders) :
    s.decided.chan o.chan = (s.chan o.chan).assign (s.chanConfig o.chan) o.state o.lingerEnd := by
  rw [State.decided, State.applyDecision_eq]
  exact chan_foldl_obey_of_mem s.image (l := s.carryOrders) (s.orders_nodup _) h s

theorem State.decided_chan_of_not_reads {s : State} {c : Chan} (h : s.reads c = false) : s.decided.chan c = s.chan c := by
  rw [State.decided, State.applyDecision_eq]
  exact chan_foldl_obey_of_not_mem s.image s.carryOrders (State.no_order_of_not_reads _ h) s

theorem State.decided_only (s : State) : Only { carry := true } s s.decided := by
  rw [State.decided, State.applyDecision_eq]
  exact .foldl (fun u (o : Order) => u.modChan_only o.chan _) s.carryOrders s

theorem State.decided_image (s : State) : s.decided.image = s.image := congrArg Startup.image (s.decided_only.startup rfl)

/-- A decision leaves the node within the carry budget, whatever it was before (R76). -/
theorem State.decided_sendingChannels_length_le (s : State) : s.decided.sendingChannels.length ≤ s.image.carryBudget := by
  have hsub : s.decided.sendingChannels ⊆ (s.carryOrders.filter fun o => sends o.state).map Order.chan := by
    intro c hc
    simp only [State.sendingChannels, State.inUse, s.decided_image, List.mem_filter, Bool.and_eq_true] at hc
    obtain ⟨-, huse, hcarried⟩ := hc
    cases hreads : s.reads c with
    | false =>
      have hshadowed : (s.chan c).state = .shadowed := by
        simp only [State.reads, State.inUse, huse, Bool.true_and] at hreads
        simpa using hreads
      rw [State.decided_chan_of_not_reads hreads, Channel.carried_eq, hshadowed] at hcarried
      exact absurd hcarried (by decide)
    | true =>
      obtain ⟨o, ho, rfl⟩ := State.order_of_reads s.image.carryBudget hreads
      obtain ⟨_, _, _, hframe⟩ := (s.chan o.chan).assign_frame (s.chanConfig o.chan) o.state o.lingerEnd
      rw [State.decided_chan_of_order ho, hframe] at hcarried
      exact List.mem_map_of_mem (List.mem_filter.mpr ⟨ho, hcarried⟩)
  have hnodup : s.decided.sendingChannels.Nodup := (List.nodup_finRange 8).filter _
  calc s.decided.sendingChannels.length
      ≤ ((s.carryOrders.filter fun o => sends o.state).map Order.chan).length := (hnodup.subperm hsub).length_le
    _ = (s.carryOrders.filter fun o => sends o.state).length := List.length_map _
    _ ≤ s.image.carryBudget := orders_sending_length_le _ _

end Sys2Proof.Machine
end

section
/-! What a load makes of any bytes (O11): each field in its range (R182, R138), and the programs of the channels apart (R183). -/

namespace Sys2Proof.Machine

/-! ## The fields one by one -/

theorem loadUpTo_le (top v : Nat) : (loadUpTo top v).1 ≤ top := by
  unfold loadUpTo
  split
  · assumption
  · exact Nat.le_refl _

theorem loadRamp_range (v : Nat) : 1 ≤ (loadRamp v).1 ∧ (loadRamp v).1 ≤ 8 := by
  unfold loadRamp loadUpTo
  split_ifs <;> simp_all
  omega

theorem loadDepth_cases (v : Nat) : (loadDepth v).1 = 4 ∨ (loadDepth v).1 = 8 ∨ (loadDepth v).1 = 16 := by
  unfold loadDepth
  split
  · assumption
  · exact .inr (.inl rfl)

/-- The dim bank that a profile has by default exists. -/
theorem defaultProfile_dimBank_le : ∀ p : Phase, (defaultProfile p).dimBank ≤ 3 := by decide

/-- Each field of a profile is loaded on its own (R138). -/
theorem loadProfile_range (bytes : List Byte) (p : Phase) :
    let x := (loadProfile bytes p).1
    x.floor ≤ 40 ∧ x.depth ≤ 60 ∧ 1 ≤ x.ramp ∧ x.ramp ≤ 8 ∧ x.dimBank ≤ 3 := by
  obtain ⟨hramp, hramp'⟩ := loadRamp_range (byteAt bytes (56 + 6 * p.val + 2))
  refine ⟨loadUpTo_le _ _, loadUpTo_le _ _, hramp, hramp', ?_⟩
  change (if byteAt bytes (56 + 6 * p.val + 3) ≤ 3 then byteAt bytes (56 + 6 * p.val + 3) else (defaultProfile p).dimBank) ≤ 3
  split
  · assumption
  · exact defaultProfile_dimBank_le p

/-- The three trim fields come out in order, within ±12 (R183 step 4). -/
theorem loadTrims_range (lo hi ini : Int) :
    -12 ≤ (loadTrims lo hi ini).1 ∧ (loadTrims lo hi ini).1 ≤ (loadTrims lo hi ini).2.2 ∧
      (loadTrims lo hi ini).2.2 ≤ (loadTrims lo hi ini).2.1 ∧ (loadTrims lo hi ini).2.1 ≤ 12 := by
  simp only [loadTrims, clampTrim]
  omega

/-! ## The channels -/

/-- What a channel's configuration keeps: UNUSED, or a program in range with its trim bounds in order. -/
def ChannelConfig.consistent (x : ChannelConfig) : Prop :=
  x.program ≤ 63 ∧
    (x.program ≠ 0 → -12 ≤ x.trimMin ∧ x.trimMin ≤ x.initialTrim ∧ x.initialTrim ≤ x.trimMax ∧ x.trimMax ≤ 12)

/-- One channel record loads as a consistent configuration, whose program no lower channel has taken. -/
theorem loadChannel_spec (bytes : List Byte) (taken : List Nat) (c : Chan) :
    let x := (loadChannel bytes taken c).1
    x.consistent ∧ (x.program ≠ 0 → x.program ∉ taken) := by
  have hunused : unusedChannel.consistent ∧ (unusedChannel.program ≠ 0 → unusedChannel.program ∉ taken) :=
    ⟨⟨Nat.zero_le _, fun h => absurd rfl h⟩, fun h => absurd rfl h⟩
  unfold loadChannel
  dsimp only
  split
  · exact hunused
  · split
    · exact hunused
    · next h =>
      exact ⟨⟨Nat.le_of_not_lt fun hlt => h (.inl hlt), fun _ => loadTrims_range _ _ _⟩, fun _ hmem => h (.inr hmem)⟩

/-- The programs of the channels below one. -/
def programsBelow (v : Vector ChannelConfig 8) (c : Chan) : List Nat :=
  ((List.finRange 8).filter fun d => d < c).map fun d => v[d].program

/-- The load of one more channel. -/
def loadNext (bytes : List Byte) (acc : Vector ChannelConfig 8 × Bool) (c : Chan) : Vector ChannelConfig 8 × Bool :=
  (acc.1.set c (loadChannel bytes (programsBelow acc.1 c) c).1, acc.2 || (loadChannel bytes (programsBelow acc.1 c) c).2)

theorem loadChannels_eq (bytes : List Byte) : loadChannels bytes =
    (List.finRange 8).foldl (loadNext bytes) (Vector.replicate 8 unusedChannel, false) := rfl

theorem loadNext_get (bytes : List Byte) (acc : Vector ChannelConfig 8 × Bool) (c d : Chan) :
    (loadNext bytes acc c).1[d] = if d = c then (loadChannel bytes (programsBelow acc.1 c) c).1 else acc.1[d] := by
  simp only [loadNext, Fin.getElem_fin, Vector.getElem_set, Fin.ext_iff, eq_comm (a := c.val)]

/-- Channels loaded in ascending order: each as its record says, given the programs of the channels below it, and the others
as they stood. -/
theorem loadNext_foldl (bytes : List Byte) (l : List Chan) (hl : l.Pairwise (· < ·)) (acc : Vector ChannelConfig 8 × Bool) :
    let r := l.foldl (loadNext bytes) acc
    (∀ c, c ∉ l → r.1[c] = acc.1[c]) ∧
      ((∀ c ∈ l, ∀ d < c, d ∉ l → ∀ e ∈ l, d < e) → ∀ c ∈ l, r.1[c] = (loadChannel bytes (programsBelow r.1 c) c).1) := by
  induction l generalizing acc with
  | nil => exact ⟨fun _ _ => rfl, fun _ c hc => nomatch hc⟩
  | cons x l ih =>
    rw [List.pairwise_cons] at hl
    obtain ⟨hx, hl⟩ := hl
    obtain ⟨hout, hin⟩ := ih hl (loadNext bytes acc x)
    have hxl : x ∉ l := fun h => (hx x h).false
    refine ⟨fun c hc => ?_, fun hbelow c hc => ?_⟩
    · rw [List.mem_cons, not_or] at hc
      rw [List.foldl_cons, hout c hc.2, loadNext_get, if_neg hc.1]
    · rw [List.foldl_cons]
      rcases List.mem_cons.mp hc with rfl | hcl
      · have hsame : programsBelow (l.foldl (loadNext bytes) (loadNext bytes acc c)).1 c = programsBelow acc.1 c := by
          refine List.map_congr_left fun d hd => ?_
          have hdc : d < c := by simpa using (List.mem_filter.mp hd).2
          rw [hout d fun h => (hx d h).asymm hdc, loadNext_get, if_neg hdc.ne]
        rw [hout c hxl, loadNext_get, if_pos rfl, hsame]
      · refine hin (fun a ha d hd hdl e he => ?_) c hcl
        rcases eq_or_ne d x with rfl | hne
        · exact hx e he
        · exact hbelow a (List.mem_cons_of_mem x ha) d hd (by simp [hne, hdl]) e (List.mem_cons_of_mem x he)

/-- Every channel loads as its record says, given the programs of the channels below it (R183). -/
theorem loadChannels_get (bytes : List Byte) (c : Chan) : (loadChannels bytes).1[c] =
    (loadChannel bytes (programsBelow (loadChannels bytes).1 c) c).1 := by
  rw [loadChannels_eq]
  exact (loadNext_foldl bytes _ (List.pairwise_lt_finRange 8) _).2
    (fun _ _ d _ hd => absurd (List.mem_finRange d) hd) c (List.mem_finRange c)

theorem loadChannels_consistent (bytes : List Byte) (c : Chan) : (loadChannels bytes).1[c].consistent := by
  rw [loadChannels_get]
  exact (loadChannel_spec bytes _ c).1

/-- A channel in use has a program that no lower channel feeds. -/
theorem loadChannels_program_ne {bytes : List Byte} {c d : Chan} (hdc : d < c)
    (h : (loadChannels bytes).1[c].program ≠ 0) : (loadChannels bytes).1[d].program ≠ (loadChannels bytes).1[c].program := by
  intro he
  have hfree := (loadChannel_spec bytes (programsBelow (loadChannels bytes).1 c) c).2
  rw [← loadChannels_get] at hfree
  refine hfree h (List.mem_map.mpr ⟨d, ?_, he⟩)
  exact List.mem_filter.mpr ⟨List.mem_finRange d, by simpa using hdc⟩

/-- Two channels loaded with one program are not in use. -/
theorem loadGoodImage_programs_apart (bytes : List Byte) {c d : Chan} (hne : c ≠ d)
    (h : (loadGoodImage bytes).1.channels[c].program = (loadGoodImage bytes).1.channels[d].program) :
    (loadGoodImage bytes).1.channels[c].program = 0 := by
  by_contra h0
  rcases lt_or_gt_of_ne hne with hlt | hlt
  · exact loadChannels_program_ne hlt (h ▸ h0) h
  · exact loadChannels_program_ne hlt h0 h.symm

/-- No two channels in use feed one program, as the statements write it. -/
theorem Image.feedsApart_iff (im : Image) : im.feedsApart = true ↔
    ∀ c d : Chan, c ≠ d → im.channels[c].program = im.channels[d].program → im.channels[c].program = 0 := by
  simp only [Image.feedsApart, allChans, List.all_eq_true, List.mem_finRange, forall_const, Bool.or_eq_true, beq_iff_eq,
    bne_iff_ne]
  refine forall₂_congr fun c d => ⟨fun h hne he => ?_, fun h => ?_⟩
  · obtain (h | h) | h := h
    · exact absurd h hne
    · exact h
    · exact absurd he h
  · by_cases hcd : c = d
    · exact .inl (.inl hcd)
    · by_cases he : im.channels[c].program = im.channels[d].program
      · exact .inl (.inr (h hcd he))
      · exact .inr he

theorem loadGoodImage_feedsApart (bytes : List Byte) : (loadGoodImage bytes).1.feedsApart = true :=
  (Image.feedsApart_iff _).mpr fun _ _ => loadGoodImage_programs_apart bytes

theorem defaultImage_feedsApart : defaultImage.feedsApart = true := by decide

theorem loadGoodImage_inRange (bytes : List Byte) : (loadGoodImage bytes).1.inRange = true := by
  simp only [Image.inRange, Bool.and_eq_true, decide_eq_true_eq, Bool.or_eq_true, beq_iff_eq, or_assoc]
  exact ⟨⟨⟨⟨loadUpTo_le 228 _, loadUpTo_le 12 _⟩, loadUpTo_le 8 _⟩, loadUpTo_le 40 _⟩, loadDepth_cases _⟩

/-- Settles O11: whatever the bytes, the ranges of R182, R183 and R138 hold field by field, and a channel loads only with a
program that no lower channel has taken. -/
theorem loadedFieldsAreInRange : Obligations.LoadedFieldsAreInRange := fun bytes =>
  ⟨loadGoodImage_inRange bytes, loadChannels_consistent bytes, fun _ _ => loadGoodImage_programs_apart bytes, fun p => by
    have hprofile : (loadGoodImage bytes).1.profiles[p] = (loadProfile bytes p).1 := by
      change (Vector.ofFn fun p => (loadProfile bytes p).1)[p] = _
      simp
    rw [hprofile]
    exact loadProfile_range bytes p⟩

end Sys2Proof.Machine
end

section
/-! What every command keeps (O2 to O6, O8): the queue of commands, the order of time, the capacities of the transmit queues,
of the links' queues and of the Voice Arbiter's lists, the ranges of the berth records, the carry budget (O39), and the order
of phase epochs. One lemma per shared operation, in the order of the model, then one per command. -/

namespace Sys2Proof.Machine

/-- What every command keeps of a node, a start or the end of a load among them. -/
structure StaysBounded (s t : State) : Prop where
  pending : t.pending = s.pending
  now     : s.now ≤ t.now
  trunk   : s.trunk.bounded = true → t.trunk.bounded = true
  links   : ∀ p : Port, s.links[p].bounded = true → t.links[p].bounded = true
  berths  : ∀ p : Port, (s.berth p).inRange = true → (t.berth p).inRange = true
  voice   : s.voice.bounded = true → t.voice.bounded = true
  budget  : s.sendingChannels.length ≤ s.image.carryBudget → t.sendingChannels.length ≤ t.image.carryBudget
  feeds   : s.image.feedsApart = true → t.image.feedsApart = true

/-- What every other command keeps: the same, and no earlier phase epoch. -/
structure Keeps (s t : State) : Prop extends StaysBounded s t where
  epoch : s.phase.own.epoch.toNat ≤ t.phase.own.epoch.toNat

/-- The parts of the state that none of it speaks of. -/
abbrev quietFoot : Foot :=
  { free := true, taps := true, orig := true, mixer := true }

/-- Which channels send depends on the image and the Carry Controller alone. -/
theorem State.sendingChannels_congr {s t : State} (himage : t.image = s.image) (hcarry : t.carry = s.carry) :
    t.sendingChannels = s.sendingChannels := by
  simp only [State.sendingChannels, State.inUse, State.chan, himage, hcarry]

namespace Keeps

variable {s t u : State}

theorem refl (s : State) : Keeps s s := ⟨⟨rfl, Nat.le_refl _, id, fun _ => id, fun _ => id, id, id, id⟩, Nat.le_refl _⟩

/-- One operation after another. -/
theorem trans (h : Keeps s t) (k : Keeps t u) : Keeps s u where
  pending := k.pending.trans h.pending
  now := h.now.trans k.now
  trunk := k.trunk ∘ h.trunk
  links := fun p => k.links p ∘ h.links p
  berths := fun p => k.berths p ∘ h.berths p
  voice := k.voice ∘ h.voice
  budget := k.budget ∘ h.budget
  feeds := k.feeds ∘ h.feeds
  epoch := h.epoch.trans k.epoch

/-- An operation repeated over a list. -/
theorem foldl {α : Type} {op : State → α → State} (h : ∀ s x, Keeps s (op s x)) (l : List α) (s : State) :
    Keeps s (l.foldl op s) := by
  induction l generalizing s with
  | nil => exact refl s
  | cons x l ih => exact (h s x).trans (ih (op s x))

/-- One of two operations. -/
theorem ite {c : Prop} [Decidable c] (h : Keeps s t) (k : Keeps s u) : Keeps s (if c then t else u) := by
  split
  · exact h
  · exact k

/-- An operation whose footprint holds nothing of it but the channels. -/
theorem of_carry {f : Foot} (h : Only f s t) (hf : f.within { quietFoot with carry := true } = true)
    (hb : s.sendingChannels.length ≤ s.image.carryBudget → t.sendingChannels.length ≤ t.image.carryBudget) : Keeps s t := by
  have q := h.widen hf
  have himage : t.image = s.image := congrArg Startup.image (q.startup rfl)
  exact ⟨⟨q.pending, (q.now rfl).ge, by rw [q.trunk rfl]; exact id, fun p => by rw [q.links rfl]; exact id,
    fun p => by rw [State.berth, State.berth, q.berths rfl]; exact id, by rw [q.voice rfl]; exact id, hb,
    by rw [himage]; exact id⟩, by rw [q.phase rfl]⟩

/-- An operation whose footprint holds nothing of it. -/
theorem of_only {f : Foot} (h : Only f s t) (hf : f.within quietFoot = true) : Keeps s t := by
  have q := h.widen hf
  have himage : t.image = s.image := congrArg Startup.image (q.startup rfl)
  refine of_carry q rfl ?_
  rw [State.sendingChannels_congr himage (q.carry rfl), himage]
  exact id

end Keeps

variable (s : State)

/-! ## The updates of one part -/

theorem State.reach_keeps (t : Time) : Keeps s (s.reach t) :=
  ⟨⟨rfl, Nat.le_max_left _ _, id, fun _ => id, fun _ => id, id, id, id⟩, Nat.le_refl _⟩

theorem State.setTrunk_keeps {x : Trunk} (h : s.trunk.bounded = true → x.bounded = true) : Keeps s { s with trunk := x } :=
  ⟨⟨rfl, Nat.le_refl _, h, fun _ => id, fun _ => id, id, id, id⟩, Nat.le_refl _⟩

theorem State.modTrunk_keeps {f : Trunk → Trunk} (h : s.trunk.bounded = true → (f s.trunk).bounded = true) :
    Keeps s (s.modTrunk f) := s.setTrunk_keeps h

theorem State.modLink_keeps (p : Port) {f : Link → Link} (h : ∀ l : Link, l.bounded = true → (f l).bounded = true) :
    Keeps s (s.modLink p f) := by
  refine ⟨⟨rfl, Nat.le_refl _, id, fun q hq => ?_, fun _ => id, id, id, id⟩, Nat.le_refl _⟩
  rw [State.modLink_get]
  split
  · next e => exact h _ (e ▸ hq)
  · exact hq

theorem State.modBerth_keeps (p : Port) {f : Berth → Berth} (h : ∀ b : Berth, b.inRange = true → (f b).inRange = true) :
    Keeps s (s.modBerth p f) := by
  refine ⟨⟨rfl, Nat.le_refl _, id, fun _ => id, fun q hq => ?_, id, id, id⟩, Nat.le_refl _⟩
  rw [State.modBerth_get]
  split
  · next e => exact h _ (e ▸ hq)
  · exact hq

/-- The counters of the Berth Controller change no record. -/
theorem State.countRequest_keeps (a b : Counter) :
    Keeps s { s with berths := { s.berths with requests := a, refusals := b } } :=
  ⟨⟨rfl, Nat.le_refl _, id, fun _ => id, fun _ => id, id, id, id⟩, Nat.le_refl _⟩

theorem State.setVoice_keeps {v : VoiceArb} (h : s.voice.bounded = true → v.bounded = true) : Keeps s { s with voice := v } :=
  ⟨⟨rfl, Nat.le_refl _, id, fun _ => id, fun _ => id, h, id, id⟩, Nat.le_refl _⟩

/-- The capacities of the Voice Arbiter, one by one. -/
theorem VoiceArb.bounded_iff (v : VoiceArb) :
    v.bounded = true ↔ v.table.length ≤ 4 ∧ v.closed.length ≤ 8 ∧ ∀ p : Port, v.voices[p].pending.length ≤ 3 := by
  simp [VoiceArb.bounded, allPorts, and_assoc]

theorem State.modVoice_keeps (p : Port) {f : Voice → Voice}
    (h : ∀ v : Voice, v.pending.length ≤ 3 → (f v).pending.length ≤ 3) : Keeps s (s.modVoice p f) := by
  refine s.setVoice_keeps fun hs => ?_
  obtain ⟨ht, hc, hp⟩ := (VoiceArb.bounded_iff _).mp hs
  refine (VoiceArb.bounded_iff _).mpr ⟨ht, hc, fun q => ?_⟩
  have e := s.modVoice_get p q f
  unfold State.berthVoice at e
  change ((s.modVoice p f).voice.voices[q]).pending.length ≤ 3
  rw [e]
  split
  · exact h _ (hp p)
  · exact hp q

theorem State.modEntry_keeps (id : AnnId) (f : Entry → Entry) : Keeps s (s.modEntry id f) :=
  s.setVoice_keeps fun hs => by simpa [VoiceArb.bounded] using hs

theorem State.modRec_keeps (id : AnnId) (p : Port) (f : BerthRec → BerthRec) : Keeps s (s.modRec id p f) :=
  s.modEntry_keeps id _

theorem State.modTaps_keeps (f : TapCtl → TapCtl) : Keeps s (s.modTaps f) := .of_only (s.modTaps_only f) rfl

/-- Channels of which none begins to send. -/
theorem State.setChannels_keeps {t : State} {f : Foot} (h : Only f s t) (hf : f.within { quietFoot with carry := true } = true)
    (hsends : ∀ c, (t.chan c).carried = true → (s.chan c).carried = true) : Keeps s t := by
  have himage : t.image = s.image := congrArg Startup.image ((h.widen hf).startup rfl)
  refine .of_carry h hf fun hs => Nat.le_trans ?_ (Nat.le_trans hs (Nat.le_of_eq (congrArg Image.carryBudget himage.symm)))
  refine (List.monotone_filter_right _ fun c hc => ?_).length_le
  simp only [State.inUse, himage, Bool.and_eq_true] at hc ⊢
  exact ⟨hc.1, hsends c hc.2⟩

theorem State.modChan_keeps (c : Chan) {f : Channel → Channel} (h : ∀ x, (f x).carried = true → x.carried = true) :
    Keeps s (s.modChan c f) := by
  refine s.setChannels_keeps (s.modChan_only c f) rfl fun d hd => ?_
  rw [State.modChan_get] at hd
  split at hd
  · next e => exact e ▸ h _ hd
  · exact hd

/-- A change of the Carry Controller that leaves the channels. -/
theorem State.setCarry_keeps (c : CarryCtl) (h : c.channels = s.carry.channels) : Keeps s { s with carry := c } :=
  s.setChannels_keeps (s.setCarry_only c) rfl fun d hd => by
    rw [State.chan, h] at hd
    exact hd

theorem State.modOrig_keeps (f : Originator → Originator) : Keeps s (s.modOrig f) := .of_only (s.modOrig_only f) rfl

theorem State.notify_keeps (n : Notice) : Keeps s (s.notify n) := s.modOrig_keeps _

/-! ## Hand-overs to the trunk -/

theorem State.handOverMarked_keeps (b : Body) (m : Bool) : Keeps s (s.handOverMarked b m).1 := by
  rw [State.handOverMarked_frame]
  exact s.setTrunk_keeps (s.handOverMarked_bounded b m)

theorem State.handOver_keeps (b : Body) : Keeps s (s.handOver b) := s.handOverMarked_keeps b false

/-! ## Berths (chapter 1) -/

/-- The ranges of a berth record, one by one. -/
theorem Berth.inRange_iff (b : Berth) : b.inRange = true ↔ b.program ≤ 63 ∧ b.volume ≤ 31 ∧ b.language ≤ 3 ∧ b.stop ≤ 99 ∧
    b.brightness ≤ 15 ∧ b.timer.inRange = true ∧ ∀ n, b.reported = some n → n ≤ 255 := by
  cases h : b.reported <;> simp [Berth.inRange, h, and_assoc]

/-- A screen level is a byte of a dim bank. -/
theorem Berth.level_le (b : Berth) (im : Image) (bank : Nat) : b.level im bank ≤ 255 := by
  have hbyte : ∀ i, im.level bank i ≤ 255 := fun i => Nat.le_of_lt_succ (BitVec.isLt _)
  unfold Berth.level
  split
  · exact Nat.zero_le _
  · exact hbyte _
  · exact hbyte _

/-- A level reported is in range. -/
theorem Berth.report_inRange {b : Berth} (h : b.inRange = true) {r : Option Nat} (hr : ∀ n, r = some n → n ≤ 255) :
    ({ b with reported := r } : Berth).inRange = true := by
  rw [Berth.inRange_iff] at *
  obtain ⟨hp, hv, hl, hs, hb, ht, -⟩ := h
  exact ⟨hp, hv, hl, hs, hb, ht, hr⟩

/-- A timer in range leaves attention and screen free. -/
theorem Berth.setAttention_inRange {b : Berth} (h : b.inRange = true) (a : Attention) {t : Inactivity} (x : Screen)
    (ht : t.inRange = true) : ({ b with attention := a, timer := t, screen := x } : Berth).inRange = true := by
  rw [Berth.inRange_iff] at *
  obtain ⟨hp, hv, hl, hs, hb, -, hr⟩ := h
  exact ⟨hp, hv, hl, hs, hb, ht, hr⟩

theorem Berth.activity_inRange (b : Berth) (now : Time) (h : b.inRange = true) : (b.activity now).inRange = true := by
  unfold Berth.activity
  split
  · exact Berth.setAttention_inRange h _ _ rfl
  · exact Berth.setAttention_inRange h _ _ rfl
  · exact h

theorem Berth.requestActivity_inRange (b : Berth) (r : PassengerRequest) (now : Time) (h : b.inRange = true) :
    (b.requestActivity r now).inRange = true := by
  unfold Berth.requestActivity
  split
  · exact b.activity_inRange now h
  · exact b.activity_inRange now h

theorem Berth.wake_inRange (b : Berth) (now : Time) (h : b.inRange = true) : (b.wake now).inRange = true := by
  unfold Berth.wake
  split
  · exact h
  · exact Berth.setAttention_inRange h _ _ rfl

/-- The value of a timer in range, at which DND holds it, is in range. -/
theorem Inactivity.held_value_inRange (t : Inactivity) (now : Time) (h : t.inRange = true) :
    (Inactivity.held (t.value now)).inRange = true := by
  cases t with
  | counting since => simp [Inactivity.inRange, Inactivity.value]
  | held v => exact h

theorem Berth.setDnd_inRange (b : Berth) (on : Bool) (now : Time) (h : b.inRange = true) : (b.setDnd on now).inRange = true := by
  have ht : b.timer.inRange = true := by
    obtain ⟨-, -, -, -, -, ht, -⟩ := b.inRange_iff.mp h
    exact ht
  unfold Berth.setDnd
  split
  · split
    · exact h
    · exact Berth.setAttention_inRange h _ _ (b.timer.held_value_inRange now ht)
  · split
    · exact Berth.setAttention_inRange h _ _ rfl
    · exact h

theorem Berth.rest_inRange (b : Berth) (h : b.inRange = true) : b.rest.inRange = true :=
  Berth.setAttention_inRange h _ _ (by simp [Inactivity.inRange])

theorem State.recompute_keeps (p : Port) : Keeps s (s.recompute p) := by
  unfold State.recompute
  split
  · split
    · split
      · exact .refl s
      · exact (s.modLink_keeps p fun l => l.handControlTold_bounded _).trans
          (State.modBerth_keeps _ p fun b hb => Berth.report_inRange hb fun n hn => by
            cases hn
            exact Berth.level_le _ _ _)
    · exact s.modBerth_keeps p fun b hb => Berth.report_inRange hb (by simp)
  · exact .refl s

theorem State.wake_keeps (p : Port) : Keeps s (s.wake p) :=
  (s.modBerth_keeps p fun b => b.wake_inRange _).trans (State.recompute_keeps _ p)

theorem State.setHold_keeps (p : Port) (on : Bool) : Keeps s (s.setHold p on) :=
  (s.modBerth_keeps p (f := fun b => { b with hold := on }) fun _ hb => hb).trans (State.recompute_keeps _ p)

theorem State.clearHold_keeps (p : Port) : Keeps s (if (s.berth p).hold then s.setHold p false else s) :=
  .ite (s.setHold_keeps p false) (.refl s)

theorem State.takeHeadset_keeps (p : Port) (present : Bool) : Keeps s (s.takeHeadset p present) := by
  unfold State.takeHeadset
  split
  · exact (s.modBerth_keeps p (f := fun b => { (b.activity s.now) with headset := true })
      fun b => b.activity_inRange _).trans (State.recompute_keeps _ p)
  · exact s.modBerth_keeps p (f := fun b => { b with headset := present }) fun _ hb => hb

theorem State.recomputeAll_keeps : Keeps s s.recomputeAll := .foldl State.recompute_keeps _ s

/-! ## Voices and announcements (chapter 6) -/

theorem State.fix_keeps (id : AnnId) (p : Port) (o : BerthOutcome) : Keeps s (s.fix id p o) := s.modRec_keeps id p _

theorem State.handCard_keeps (p : Port) (c : Card) : Keeps s (s.modLink p fun l => l.handCard s.now c) :=
  s.modLink_keeps p fun l => l.handCard_bounded _ _

theorem State.showCard_keeps (id : AnnId) (p : Port) : Keeps s (s.showCard id p) := by
  unfold State.showCard
  split
  · exact .refl s
  · exact .ite ((s.handCard_keeps p _).trans (State.modRec_keeps _ id p _)) (.refl s)

theorem State.clearCard_keeps (id : AnnId) (p : Port) : Keeps s (s.clearCard id p) := by
  unfold State.clearCard
  split
  · exact .refl s
  · exact .ite (.trans (.ite (s.handCard_keeps p _) (.refl s)) (State.modRec_keeps _ id p _)) (.refl s)

theorem State.freeVoice_keeps (p : Port) : Keeps s (s.freeVoice p) := s.modVoice_keeps p fun _ h => h

theorem State.leavePending_keeps (p : Port) (id : AnnId) : Keeps s (s.leavePending p id) :=
  s.modVoice_keeps p fun v h => (List.length_filter_le _ v.pending).trans h

theorem State.enterEmergency_keeps (p : Port) : Keeps s (s.enterEmergency p) :=
  .ite (.refl s) ((s.setHold_keeps p true).trans (State.modLink_keeps _ p Link.flushVideo_bounded))

theorem State.settleHold_keeps (p : Port) : Keeps s (s.settleHold p) := .ite (s.setHold_keeps p false) (.refl s)

theorem State.serve_keeps (p : Port) (e : Entry) (v : Serving) : Keeps s (s.serve p e v) := by
  have h := ((s.modVoice_keeps p (f := fun x => { x with serving := v }) fun _ h => h).trans
    (State.modRec_keeps _ e.desc.id p fun r => { r with role := .inService })).trans (State.showCard_keeps _ e.desc.id p)
  exact .ite (h.trans (State.enterEmergency_keeps _ p)) h

theorem State.turn_keeps (p : Port) (e : Entry) (d : Decision) : Keeps s (s.turn p e d) := by
  unfold State.turn
  split
  · exact s.fix_keeps _ p _
  · exact s.fix_keeps _ p _
  · exact (s.fix_keeps _ p _).trans (State.showCard_keeps _ _ p)
  · next w =>
    have h : Keeps s (if w = true then s.wake p else s) := .ite (s.wake_keeps p) (.refl s)
    dsimp only
    split
    · exact h.trans (State.serve_keeps _ p e _)
    · exact .ite (h.trans (State.serve_keeps _ p e _))
        (h.trans ((State.fix_keeps _ _ p _).trans (State.showCard_keeps _ _ p)))

/-- A voice that serves a list no longer than its pending list may be. -/
theorem State.serveList_keeps (p : Port) : ∀ (l : List (AnnId × Time)) (s u : State), Keeps u s →
    (u.voice.bounded = true → l.length ≤ 3) → Keeps u (State.serveList p l s)
  | [], _, _, h, _ => h
  | x :: r, s, u, h, hl => by
    have hr : u.voice.bounded = true → r.length ≤ 3 := fun hu => Nat.le_of_succ_le (hl hu)
    have hset : Keeps u (s.modVoice p fun v => { v with pending := r }) := by
      by_cases hu : u.voice.bounded = true
      · exact h.trans (s.modVoice_keeps p fun _ _ => hr hu)
      · exact ⟨⟨h.pending, h.now, h.trunk, h.links, h.berths, fun hv => absurd hv hu, h.budget, h.feeds⟩, h.epoch⟩
    unfold State.serveList
    dsimp only
    generalize (s.modVoice p fun v => { v with pending := r }) = v at hset
    cases v.entry? x.1 with
    | none =>
      dsimp only
      split
      · exact State.serveList_keeps p r v u hset hr
      · exact hset
    | some e =>
      have hturn := hset.trans (v.turn_keeps p e (v.decision e.desc.cls p))
      dsimp only
      split
      · exact State.serveList_keeps p r _ u hturn hr
      · exact hturn

theorem State.servePending_keeps (p : Port) : Keeps s (s.servePending p) := by
  have hlist := State.serveList_keeps p (s.berthVoice p).pending s s (.refl s) fun hs =>
    ((VoiceArb.bounded_iff _).mp hs).2.2 p
  unfold State.servePending
  exact .trans (.ite hlist (.refl s)) (State.settleHold_keeps _ p)

theorem State.joinPending_keeps (p : Port) (id : AnnId) : Keeps s (s.joinPending p id) :=
  ((s.modVoice_keeps p fun _ _ => List.length_take_le _ _).trans (State.modRec_keeps _ id p _)).trans
    (.foldl (fun t (x : AnnId × Time) => t.fix_keeps x.1 p _) _ _)

theorem State.preempt_keeps (p : Port) (cur : AnnId) : Keeps s (s.preempt p cur) :=
  ((s.fix_keeps cur p _).trans (State.clearCard_keeps _ cur p)).trans (State.freeVoice_keeps _ p)

theorem State.meet_keeps (id : AnnId) (p : Port) : Keeps s (s.meet id p) := by
  unfold State.meet
  split
  · exact .refl s
  · dsimp only
    split
    · split
      · exact s.turn_keeps p _ _
      · exact .ite (((s.preempt_keeps p _).trans (State.turn_keeps _ p _ _)).trans (State.servePending_keeps _ p))
          (s.joinPending_keeps p id)
    · exact s.turn_keeps p _ _

theorem State.dismiss_keeps (p : Port) (cur : AnnId) : Keeps s (s.dismiss p cur) :=
  (((s.fix_keeps cur p _).trans (State.clearCard_keeps _ cur p)).trans (State.freeVoice_keeps _ p)).trans
    (State.servePending_keeps _ p)

/-- A change of the entries that keeps their number. -/
theorem State.mapTable_keeps (f : Entry → Entry) :
    Keeps s { s with voice := { s.voice with table := s.voice.table.map f } } :=
  s.setVoice_keeps fun hs => by simpa [VoiceArb.bounded] using hs

theorem State.linkLoss_keeps (p : Port) : Keeps s (s.linkLoss p) := by
  have hcur : Keeps s (match (s.berthVoice p).serving.current with
      | some id => s.fix id p (.cut .linkLost)
      | none => s) := by
    split
    · exact s.fix_keeps _ p _
    · exact .refl s
  have hpend := hcur.trans (.foldl (fun t x => t.fix_keeps x.1 p (.declined .unreachable)) (s.berthVoice p).pending _)
  have hidle := hpend.trans (State.modVoice_keeps _ p (f := fun x => { x with serving := .idle, pending := [] })
    fun _ _ => Nat.zero_le 3)
  have hforget := fun f => hidle.trans (State.mapTable_keeps _ f)
  exact (hforget _).trans (State.clearHold_keeps _ p)

theorem State.sendAck_keeps (id : AnnId) (l : List AckItem) : Keeps s (s.sendAck id l) := s.handOver_keeps _

theorem State.closeId_keeps (id : AnnId) : Keeps s (s.closeId id) :=
  s.setVoice_keeps fun hs => by
    obtain ⟨ht, -, hp⟩ := (VoiceArb.bounded_iff _).mp hs
    exact (VoiceArb.bounded_iff _).mpr ⟨ht, pushDropOldest_length_le (by decide) _ _, hp⟩

/-- A table from which entries are taken away. -/
theorem State.filterTable_keeps (f : Entry → Bool) :
    Keeps s { s with voice := { s.voice with table := s.voice.table.filter f } } :=
  s.setVoice_keeps fun hs => by
    obtain ⟨ht, hc, hp⟩ := (VoiceArb.bounded_iff _).mp hs
    exact (VoiceArb.bounded_iff _).mpr ⟨(List.length_filter_le _ _).trans ht, hc, hp⟩

theorem State.removeEntry_keeps (e : Entry) (a b : BerthOutcome) : Keeps s (s.removeEntry e a b) := by
  have hfree : ∀ (t : State) (p : Port),
      Keeps t ((if t.serves e.desc.id p then t.freeVoice p else t).leavePending p e.desc.id) := fun t p =>
    .trans (.ite (t.freeVoice_keeps p) (.refl t)) (State.leavePending_keeps _ p e.desc.id)
  unfold State.removeEntry
  dsimp only
  refine Keeps.trans ?_ (State.closeId_keeps _ _)
  refine Keeps.trans ?_ (State.filterTable_keeps _ fun x => decide (x.desc.id ≠ e.desc.id))
  refine Keeps.trans ?_ (State.sendAck_keeps _ _ _)
  refine Keeps.trans ?_ (.foldl (fun t r => t.clearCard_keeps e.desc.id r.port) e.recs _)
  exact (s.modEntry_keeps _ _).trans (.foldl hfree allPorts _)

theorem State.endEntry_keeps (e : Entry) (r : Option EndReason) : Keeps s (s.endEntry e r) :=
  (s.removeEntry_keeps e _ _).trans (.foldl State.servePending_keeps _ _)

/-- An entry that is created in a table with room. -/
theorem State.createEntry_keeps {u s : State} (h : Keeps u s) (hroom : u.voice.bounded = true → s.voice.table.length < 4)
    (d : Descriptor) (st : EntryState) (q : List SpeechBlock) : Keeps u (s.createEntry d st q) := by
  unfold State.createEntry
  refine Keeps.trans ?_ (.foldl (fun t p => t.meet_keeps d.id p) _ _)
  refine ⟨⟨h.pending, h.now, h.trunk, h.links, h.berths, fun hu => ?_, h.budget, h.feeds⟩, h.epoch⟩
  obtain ⟨-, hc, hp⟩ := (VoiceArb.bounded_iff _).mp (h.voice hu)
  exact (VoiceArb.bounded_iff _).mpr ⟨by simpa using hroom hu, hc, hp⟩

/-! ### The entries that an operation leaves in the table -/

/-- The descriptors of the entries of the node announcement table, in the order of their creation. -/
def State.descs (s : State) : List Descriptor := s.voice.table.map Entry.desc

/-- A change of entries that keeps their descriptors. -/
theorem State.modEntry_descs (id : AnnId) {f : Entry → Entry} (h : ∀ e, (f e).desc = e.desc) :
    (s.modEntry id f).descs = s.descs := by
  simp only [State.descs, State.modEntry, List.map_map]
  refine List.map_congr_left fun e _ => ?_
  simp only [Function.comp]
  split
  · exact h e
  · rfl

@[simp] theorem State.modRec_descs (id : AnnId) (p : Port) (f : BerthRec → BerthRec) : (s.modRec id p f).descs = s.descs :=
  s.modEntry_descs id fun _ => rfl

@[simp] theorem State.modVoice_descs (p : Port) (f : Voice → Voice) : (s.modVoice p f).descs = s.descs := rfl

@[simp] theorem State.modLink_descs (p : Port) (f : Link → Link) : (s.modLink p f).descs = s.descs := rfl

@[simp] theorem State.clearCard_descs (id : AnnId) (p : Port) : (s.clearCard id p).descs = s.descs := by
  unfold State.clearCard
  split
  · rfl
  · split
    · dsimp only
      split <;> simp
    · rfl

@[simp] theorem State.handOver_descs (b : Body) : (s.handOver b).descs = s.descs := by
  rw [State.handOver_frame]
  rfl

/-- A repeated operation that keeps the descriptors. -/
theorem foldl_descs {α : Type} {op : State → α → State} (h : ∀ s x, (op s x).descs = s.descs) (l : List α) (s : State) :
    (l.foldl op s).descs = s.descs := by
  induction l generalizing s with
  | nil => rfl
  | cons x l ih => rw [List.foldl_cons, ih, h]

/-- The entry that is removed leaves the table, and no other does. -/
theorem State.removeEntry_descs (e : Entry) (a b : BerthOutcome) :
    (s.removeEntry e a b).descs = s.descs.filter fun d => d.id ≠ e.desc.id := by
  have hfree : ∀ (t : State) (p : Port),
      ((if t.serves e.desc.id p then t.freeVoice p else t).leavePending p e.desc.id).descs = t.descs := fun t p => by
    split <;> rfl
  have hfilter : ∀ l : List Entry, (l.filter fun x => x.desc.id ≠ e.desc.id).map Entry.desc =
      (l.map Entry.desc).filter fun d => d.id ≠ e.desc.id := fun l => by
    rw [List.filter_map]
    rfl
  refine (hfilter _).trans (congrArg _ ?_)
  change State.descs _ = _
  rw [State.sendAck, State.handOver_descs, foldl_descs (fun t r => t.clearCard_descs e.desc.id r.port) e.recs,
    foldl_descs hfree]
  exact s.modEntry_descs e.desc.id fun _ => rfl

/-- The entry of lowest priority is one of them. -/
theorem lowestEntry_mem {l : List Entry} {e : Entry} (h : lowestEntry l = some e) : e ∈ l := by
  have key : ∀ (l : List Entry) (acc : Option Entry), (l.foldl (fun acc e =>
      match acc with
      | none => some e
      | some a => if e.priority < a.priority then some e else some a) acc) = some e → e ∈ l ∨ acc = some e := by
    intro l
    induction l with
    | nil => exact fun _ => .inr
    | cons x l ih =>
      intro acc hx
      rcases ih _ hx with hl | hacc
      · exact .inl (List.mem_cons_of_mem x hl)
      · cases acc with
        | none => exact .inl (by simp_all)
        | some a =>
          dsimp only at hacc
          split at hacc
          · exact .inl (by simp_all)
          · exact .inr hacc
  exact (key l none h).resolve_right (by simp)

/-- A removal makes room in a table. -/
theorem State.removeEntry_table_length_lt {e : Entry} (h : e ∈ s.voice.table) (a b : BerthOutcome) :
    (s.removeEntry e a b).voice.table.length < s.voice.table.length := by
  have hlen : ∀ t : State, t.voice.table.length = t.descs.length := fun t => (List.length_map _).symm
  rw [hlen, hlen, State.removeEntry_descs, List.length_filter_lt_length_iff_exists]
  exact ⟨e.desc, List.mem_map_of_mem h, by simp⟩

theorem State.newAnnouncement_keeps (d : Descriptor) (st : EntryState) (q : List SpeechBlock) :
    Keeps s (s.newAnnouncement d st q) := by
  have hcount : ∀ (t : State) (c : Counter), Keeps t { t with voice := { t.voice with eviction := c } } := fun t c =>
    t.setVoice_keeps id
  have hdecline : ∀ (t : State) (c : Counter), Keeps t { t with voice := { t.voice with nodeFull := c } } := fun t c =>
    t.setVoice_keeps id
  unfold State.newAnnouncement
  split
  · next hroom => exact State.createEntry_keeps (.refl s) (fun _ => hroom) d st q
  · split
    · exact .refl s
    · next low hlow =>
      have hlt := s.removeEntry_table_length_lt (lowestEntry_mem hlow) (.cut .evicted) (.cut .evicted)
      split
      · refine Keeps.trans ?_ (.foldl State.servePending_keeps _ _)
        refine State.createEntry_keeps ((s.removeEntry_keeps low _ _).trans (hcount _ _)) (fun hs => ?_) d st q
        exact Nat.lt_of_lt_of_le hlt ((VoiceArb.bounded_iff _).mp hs).1
      · exact ((s.sendAck_keeps _ _).trans (State.closeId_keeps _ _)).trans (hdecline _ _)

theorem State.enterSpeech_keeps (id : AnnId) : Keeps s (s.enterSpeech id) :=
  (s.modEntry_keeps id _).trans (.foldl (fun t p => t.modVoice_keeps p fun v hv => by split <;> exact hv) _ _)

theorem State.takeSpeech_keeps (e : Entry) (b : SpeechBlock) : Keeps s (s.takeSpeech e b) := by
  have hplace : Keeps s ((if e.state = .leadIn then s.enterSpeech e.desc.id else s).modEntry e.desc.id fun x =>
      { (x.place b).1 with lastPacket := s.now }) :=
    .trans (.ite (s.enterSpeech_keeps _) (.refl s)) (State.modEntry_keeps _ _ _)
  unfold State.takeSpeech
  dsimp only
  split
  · exact hplace.trans (State.setVoice_keeps _ id)
  · exact hplace.trans (State.setVoice_keeps _ id)
  · exact hplace

theorem State.takeAnnounce_keeps (d : Descriptor) (t : AnnTail) : Keeps s (s.takeAnnounce d t) := by
  unfold State.takeAnnounce
  split
  · split
    · exact .refl s
    · split
      · exact s.takeSpeech_keeps _ _
      · exact s.endEntry_keeps _ _
      · exact s.modEntry_keeps _ _
      · exact s.modEntry_keeps _ _
      · exact s.newAnnouncement_keeps _ _ _
      · exact s.newAnnouncement_keeps _ _ _
      · exact s.newAnnouncement_keeps _ _ _
      · exact .refl s
  · exact .refl s

/-! ## Links (chapter 8) -/

theorem State.leaveUp_keeps (p : Port) (st : LinkState) : Keeps s (s.leaveUp p st) := by
  have hlink : Keeps s (s.modLink p fun l =>
      { l with state := st, hold := none, control := [], audio := none, video := [], waiting := [], outstanding := none,
               upSince := none }) :=
    s.modLink_keeps p fun l hl => by simp_all [Link.bounded]
  unfold State.leaveUp
  exact (hlink.trans (State.modBerth_keeps _ p fun b hb => Berth.report_inRange (b := { b with headset := false }) hb
    (by simp))).trans (State.linkLoss_keeps _ p)

theorem State.bringUp_keeps (p : Port) (headset : Bool) : Keeps s (s.bringUp p headset) := by
  have hframes : Keeps s (s.modLink p fun l =>
      (Link.handControl { l with state := .up, goodCount := 0, lastGood := some s.now, hold := none, upSince := some s.now }
        (.state (s.snapshot p))).handControl (.screenLevel (s.screenLevel p))) :=
    s.modLink_keeps p fun l hl => Link.handControlTold_bounded _ _ (Link.handControlTold_bounded _ _ hl)
  have hberth := hframes.trans (State.modBerth_keeps _ p
    (f := fun b => { b with reported := some (s.screenLevel p), headset := headset })
    fun b hb => Berth.report_inRange (b := { b with headset := headset }) hb fun n hn => by
      cases hn
      exact Berth.level_le _ _ _)
  exact .ite (hberth.trans (State.handCard_keeps _ p strapFaultCard)) hberth

/-- A change of a link's counters. -/
theorem State.modLinkCounters_keeps (p : Port) (f : LinkCounters → LinkCounters) : Keeps s (s.modLinkCounters p f) :=
  s.modLink_keeps p fun _ hl => hl

theorem State.frameError_keeps (p : Port) (c : FrameError) : Keeps s (s.frameError p c) := by
  unfold State.frameError
  split
  · dsimp only
    split
    · exact s.modLinkCounters_keeps p _
    · split
      · exact .refl s
      · exact (s.modLinkCounters_keeps p _).trans (State.modLink_keeps _ p fun l hl => by split <;> exact hl)
    · exact .refl s
    · exact .refl s
  · exact .refl s

/-- A link that sends a UNIT_RESET, its fault history no longer than two. -/
theorem State.sendReset_keeps (p : Port) {f : Link → Link} (h : ∀ l : Link, l.bounded = true → (f l).bounded = true) :
    Keeps s (s.modLink p fun l => (f l).sendReset) :=
  s.modLink_keeps p fun l hl => Link.sendReset_bounded _ (h l hl)

theorem State.fault_keeps (p : Port) : Keeps s (s.fault p) := by
  unfold State.fault
  refine (s.leaveUp_keeps p .fault).trans (State.sendReset_keeps _ p fun l hl => ?_)
  simp only [Link.bounded, Bool.and_eq_true, decide_eq_true_eq, List.length_drop] at hl ⊢
  exact ⟨hl.1, by omega⟩

theorem State.resetLink_keeps (p : Port) : Keeps s (s.resetLink p) := by
  unfold State.resetLink
  refine .trans (.ite (s.leaveUp_keeps p .down) (.refl s)) (State.sendReset_keeps _ p fun l hl => ?_)
  simp_all [Link.bounded]

/-! ## Taps, channels, the Originator, phases (chapters 3, 4, 5, 7) -/

theorem State.createTap_keeps (q : Nat) : Keeps s (s.createTap q) := by
  unfold State.createTap
  exact s.modTaps_keeps _

theorem State.sendWant_keeps : Keeps s s.sendWant := by
  unfold State.sendWant
  exact (s.handOver_keeps _).trans (State.modTaps_keeps _ _)

theorem State.selectionChanged_keeps (p q : Nat) : Keeps s (s.selectionChanged p q) := by
  unfold State.selectionChanged
  dsimp only
  generalize hu : (if (decide (p ≠ 0) && !s.isSelected p && (s.tap? p).isSome) = true then
    s.modTaps fun t => { t with taps := t.taps.filter fun x => x.program ≠ p } else s) = u
  have hrelease : Keeps s u := hu ▸ .ite (s.modTaps_keeps _) (.refl s)
  have hcreate := fun b : Bool => Keeps.ite (c := b = true) (hrelease.trans (u.createTap_keeps q)) hrelease
  exact .ite ((hcreate _).trans (State.sendWant_keeps _)) (hcreate _)

theorem State.buildTaps_keeps : Keeps s s.buildTaps :=
  .foldl (fun t _ => .ite (t.createTap_keeps _) (.refl t)) _ s

theorem State.takeProgramVideo_keeps (source program : Nat) (c : Chunk) : Keeps s (s.takeProgramVideo source program c) := by
  unfold State.takeProgramVideo
  split
  · split
    · exact .refl s
    · exact .ite (s.modTaps_keeps _) (.ite (.refl s)
        (.foldl (fun t p => t.modLink_keeps p fun l => l.handVideo_bounded c) _ s))
  · exact .refl s

theorem State.sendCarry_keeps : Keeps s s.sendCarry :=
  .ite ((s.handOver_keeps _).trans (State.setCarry_keeps _ _ rfl)) (.refl s)

theorem State.decided_keeps : Keeps s s.decided := by
  refine .of_carry s.decided_only rfl fun _ => ?_
  rw [s.decided_image]
  exact s.decided_sendingChannels_length_le

theorem State.carryDecision_keeps : Keeps s s.carryDecision :=
  .ite (.ite s.decided_keeps (s.decided_keeps.trans (State.sendCarry_keeps _))) (.refl s)

theorem State.wantAt_keeps (st : Nat) (l : List Nat) (c : Chan) : Keeps s (s.wantAt st l c) :=
  .ite (.ite (s.modChan_keeps c fun _ => id) (s.modChan_keeps c fun _ => id)) (.refl s)

theorem State.takeWant_keeps (st : Nat) (l : List Nat) : Keeps s (s.takeWant st l) := by
  have hset : Keeps s (allChans.foldl (fun t c => t.wantAt st l c) s) := .foldl (fun t c => t.wantAt_keeps st l c) _ s
  exact .ite (.ite (hset.trans (State.carryDecision_keeps _)) hset) (.refl s)

theorem State.shadow_keeps (c : Chan) : Keeps s (s.shadow c) :=
  .ite (s.modChan_keeps c fun _ => id)
    (((s.modChan_keeps c fun _ h => by exact absurd h Bool.false_ne_true).trans (State.sendCarry_keeps _)).trans
      (State.carryDecision_keeps _))

theorem State.takeShadowing_keeps (source : Nat) (l : List CarryEntry) : Keeps s (s.takeShadowing source l) := by
  refine .ite (.foldl (fun t e => ?_) l s) (.refl s)
  split
  · exact t.shadow_keeps _
  · exact .refl t

/-- The end of a level window leaves the state of a channel. -/
theorem Channel.endWindow_carried (x : Channel) (cfg : ChannelConfig) : (x.endWindow cfg).carried = x.carried := by
  rw [Channel.endWindow_frame]
  rfl

/-- A block taken into the level window leaves the state of a channel. -/
theorem Channel.absorb_carried (x : Channel) (l : List StereoFrame) : (x.absorb l).carried = x.carried := by
  unfold Channel.absorb
  split <;> rfl

theorem State.sendBlock_keeps (c : Chan) (l : List StereoFrame) : Keeps s (s.sendBlock c l) := by
  unfold State.sendBlock
  exact (s.handOver_keeps _).trans (State.modChan_keeps _ c fun y h => by rwa [Channel.absorb_carried] at h)

theorem State.feedChannel_keeps (c : Chan) : Keeps s (s.feedChannel c) := by
  have hend : Keeps s (s.modChan c fun x => x.endWindow s.image.channels[c]) :=
    s.modChan_keeps c fun x h => by rwa [Channel.endWindow_carried] at h
  have hfill := fun f : Channel → Option (List StereoFrame) =>
    hend.trans (State.modChan_keeps _ c (f := fun y => { y with filling := .empty, ready := f y }) fun _ => id)
  unfold State.feedChannel
  dsimp only
  split
  · exact .ite ((hfill _).trans (State.sendBlock_keeps _ c _)) (hfill _)
  · exact .ite ((hfill _).trans (State.setCarry_keeps _ _ rfl)) (hfill _)

theorem State.sendAnnounce_keeps (t : AnnTail) : Keeps s (s.sendAnnounce t) := by
  unfold State.sendAnnounce
  split
  · exact .refl s
  · exact s.handOver_keeps _

theorem State.closeCollection_keeps (r : Result) : Keeps s (s.closeCollection r) := by
  unfold State.closeCollection
  split
  · exact .refl s
  · exact (s.notify_keeps _).trans (State.modOrig_keeps _ _)

theorem State.acceptBegin_keeps (k : AnnClass) (a b c d e : Nat) : Keeps s (s.acceptBegin k a b c d e) := by
  unfold State.acceptBegin
  exact (((s.modOrig_keeps _).trans (State.notify_keeps _ _)).trans (State.modOrig_keeps _ _)).trans (State.sendAnnounce_keeps _ _)

theorem State.sendEnd_keeps (r : EndReason) : Keeps s (s.sendEnd r) := by
  have hend := (s.sendAnnounce_keeps (.fin r)).trans (State.modOrig_keeps _ fun o =>
    { o with state := .collecting, nextHold := none,
             ackTable := o.ackTable.map fun t => { t with windowEnd := some (s.now + ms 500) } })
  unfold State.sendEnd
  dsimp only
  split
  · exact .ite (hend.trans (State.closeCollection_keeps _ _)) hend
  · exact hend

theorem State.supersede_keeps : Keeps s s.supersede := by
  unfold State.supersede
  split
  · exact (s.sendAnnounce_keeps _).trans (State.closeCollection_keeps _ _)
  · exact (s.sendAnnounce_keeps _).trans (State.closeCollection_keeps _ _)
  · exact s.closeCollection_keeps _
  · exact .refl s

theorem State.refusePanel_keeps (k : PanelKind) (w : PanelReason) : Keeps s (s.refusePanel k w) := s.notify_keeps _

theorem State.checkBegin_keeps (cls a b c d e : Nat) : Keeps s (s.checkBegin cls a b c d e) := by
  unfold State.checkBegin
  split
  · exact s.refusePanel_keeps _ _
  · split
    · exact s.refusePanel_keeps _ _
    · exact .ite (s.refusePanel_keeps _ _) (.ite (s.acceptBegin_keeps _ _ _ _ _ _)
        (.ite (s.supersede_keeps.trans (State.acceptBegin_keeps _ _ _ _ _ _ _)) (s.refusePanel_keeps _ _)))

theorem State.countDiscard_keeps : Keeps s s.countDiscard := s.modOrig_keeps _

theorem State.takePanelAudio_keeps (l : List Sample) : Keeps s (s.takePanelAudio l) := by
  unfold State.takePanelAudio
  split
  · split
    · exact (s.sendEnd_keeps _).trans (State.countDiscard_keeps _)
    · exact (s.sendAnnounce_keeps _).trans (State.modOrig_keeps _ _)
  · exact s.countDiscard_keeps

theorem State.takePanelEnd_keeps : Keeps s s.takePanelEnd := by
  unfold State.takePanelEnd
  split
  · exact (s.notify_keeps _).trans (State.sendEnd_keeps _ _)
  · exact (s.notify_keeps _).trans (State.sendEnd_keeps _ _)
  · exact s.countDiscard_keeps

theorem State.takeAbort_keeps : Keeps s s.takeAbort := by
  unfold State.takeAbort
  split
  · exact (s.notify_keeps _).trans (State.sendEnd_keeps _ _)
  · exact (s.notify_keeps _).trans (State.sendEnd_keeps _ _)
  · exact s.countDiscard_keeps

theorem State.takeAck_keeps (st : Nat) (id : AnnId) (c : Totals) : Keeps s (s.takeAck st id c) := by
  unfold State.takeAck
  split
  · split
    · exact .refl s
    · exact .ite (.ite ((s.modOrig_keeps _).trans (State.closeCollection_keeps _ _)) (s.modOrig_keeps _)) (.refl s)
  · exact .refl s

/-- A phase state of no earlier epoch, and the counters and the period of the Phase Controller. -/
theorem State.setPhase_keeps (c : PhaseCtl) (h : s.phase.own.epoch.toNat ≤ c.own.epoch.toNat) :
    Keeps s { s with phase := c } := ⟨⟨rfl, Nat.le_refl _, id, fun _ => id, fun _ => id, id, id, id⟩, h⟩

theorem State.sendPhase_keeps : Keeps s s.sendPhase := by
  refine .ite ((s.handOver_keeps _).trans (State.setPhase_keeps _ _ ?_)) (.refl s)
  exact Nat.le_refl _

theorem State.setPhaseState_keeps (x : PhaseState) (h : s.phase.own.epoch.toNat ≤ x.epoch.toNat) :
    Keeps s (s.setPhaseState x) := (s.setPhase_keeps { s.phase with own := x } h).trans (State.recomputeAll_keeps _)

/-- A record that is adopted has no earlier epoch. -/
theorem epoch_le_of_adopts {own : PhaseState} {e : Seq} {p : Phase} {setter source : Nat}
    (h : adopts own e p setter source = true) : own.epoch.toNat ≤ e.toNat := by
  simp only [adopts, Bool.or_eq_true, Bool.and_eq_true, decide_eq_true_eq, beq_iff_eq] at h
  obtain (hlt | ⟨rfl, -⟩) | ⟨⟨⟨rfl, -⟩, -⟩, -⟩ := h
  · exact hlt.le
  · exact Nat.le_refl _
  · exact Nat.le_refl _

/-- An origination has no earlier epoch. -/
theorem toNat_le_nextEpoch (e : Seq) : e.toNat ≤ (nextEpoch e).toNat := by
  unfold nextEpoch
  split
  · exact Nat.le_refl _
  · bv_omega

theorem State.takePhase_keeps (source : Nat) (e : Seq) (p setter : Nat) : Keeps s (s.takePhase source e p setter) := by
  have herror : Keeps s { s with phase := { s.phase with phaseError := bump s.phase.phaseError } } :=
    s.setPhase_keeps _ (Nat.le_refl _)
  unfold State.takePhase
  split
  · split
    · split
      · next hadopt =>
        exact (s.setPhase_keeps { s.phase with adoption := bump s.phase.adoption } (Nat.le_refl _)).trans
          (State.setPhaseState_keeps _ _ (epoch_le_of_adopts hadopt))
      · exact .refl s
    · exact herror
  · exact herror

theorem State.originate_keeps (p : Phase) : Keeps s (s.originate p) :=
  (s.setPhaseState_keeps _ (toNat_le_nextEpoch _)).trans (State.sendPhase_keeps _)

/-! ## Passenger requests (chapter 1) -/

/-- One field of a berth record set to a value in its range. -/
theorem State.requestEffect_keeps (p : Port) (r : PassengerRequest) : Keeps s (s.requestEffect p r).1 := by
  have hset : ∀ f : Berth → Berth, (∀ b : Berth, b.inRange = true → (f b).inRange = true) → Keeps s (s.modBerth p f) :=
    fun _ => s.modBerth_keeps p
  unfold State.requestEffect
  cases r with
  | select q =>
    dsimp only
    split
    · exact .refl s
    · next hlisted =>
      have hq : q ≤ 63 := by
        by_contra hq
        exact hlisted ⟨by omega, .inl (by omega)⟩
      have hprogram := hset (fun b => { b with program := q }) fun b hb => by
        rw [Berth.inRange_iff] at *
        obtain ⟨-, hrest⟩ := hb
        exact ⟨hq, hrest⟩
      exact .ite (hprogram.trans (State.selectionChanged_keeps _ _ _)) hprogram
  | volume v =>
    refine hset (fun b => { b with volume := min 31 v }) fun b hb => ?_
    rw [Berth.inRange_iff] at *
    obtain ⟨hprogram, -, hrest⟩ := hb
    exact ⟨hprogram, Nat.min_le_left _ _, hrest⟩
  | mute on => exact hset (fun b => { b with mute := on }) fun b hb => hb
  | language v =>
    dsimp only
    split
    · next hv =>
      refine hset (fun b => { b with language := v }) fun b hb => ?_
      rw [Berth.inRange_iff] at *
      obtain ⟨hprogram, hvolume, -, hrest⟩ := hb
      exact ⟨hprogram, hvolume, hv, hrest⟩
    · exact .refl s
  | dnd on =>
    have hdnd := hset (fun b => b.setDnd on s.now) fun b => b.setDnd_inRange on _
    dsimp only
    split
    · exact hdnd.trans (State.dismiss_keeps _ p _)
    · exact hdnd
  | stop v w =>
    dsimp only
    split
    · next hv =>
      refine hset (fun b => { b with stop := v, stopWake := w }) fun b hb => ?_
      rw [Berth.inRange_iff] at *
      obtain ⟨hprogram, hvolume, hlanguage, -, hrest⟩ := hb
      exact ⟨hprogram, hvolume, hlanguage, hv, hrest⟩
    · exact .refl s
  | screen on => exact hset (fun b => { b with screen := if on then .on else .off }) fun b hb => hb
  | brightness v =>
    refine hset (fun b => { b with brightness := min 15 v }) fun b hb => ?_
    rw [Berth.inRange_iff] at *
    obtain ⟨hprogram, hvolume, hlanguage, hstop, -, hrest⟩ := hb
    exact ⟨hprogram, hvolume, hlanguage, hstop, Nat.min_le_left _ _, hrest⟩
  | skip =>
    unfold State.skipEffect
    dsimp only
    split
    · exact .refl s
    · split
      · exact s.dismiss_keeps p _
      · exact s.dismiss_keeps p _
      · exact .refl s

theorem State.answer_keeps (p : Port) (k : RequestKind) (a : Answer) : Keeps s (s.answer p k a) := by
  have hframe : Keeps s (s.modLink p fun l => l.handControl (.answer k a)) :=
    s.modLink_keeps p fun l => l.handControlTold_bounded _
  cases a with
  | accepted => exact hframe
  | refused why => exact hframe.trans (State.countRequest_keeps _ _ _)

theorem State.doRequest_keeps (p : Port) (r : PassengerRequest) : Keeps s (s.doRequest p r) := by
  have hact := (s.countRequest_keeps (bump s.berths.requests) s.berths.refusals).trans
    (State.modBerth_keeps _ p fun b => b.requestActivity_inRange r s.now)
  exact ((hact.trans (State.requestEffect_keeps _ p r)).trans (State.answer_keeps _ p _ _)).trans (State.recompute_keeps _ p)

theorem State.takeRequest_keeps (p : Port) (r : PassengerRequest) : Keeps s (s.takeRequest p r) :=
  .ite (s.doRequest_keeps p r) (.refl s)

/-! ## The block event (chapter 2) -/

theorem State.setMixer_keeps (m : Mixer) : Keeps s { s with mixer := m } :=
  ⟨⟨rfl, Nat.le_refl _, id, fun _ => id, fun _ => id, id, id, id⟩, Nat.le_refl _⟩

theorem State.mixBerth_keeps (a : BlockAnswers) (p : Port) : Keeps s (State.mixBerth a s p) := by
  have hmix : Keeps s (s.modMix p fun m => m.update (s.berthVoice p).serving s.profile) := s.setMixer_keeps _
  have haudio := fun f : SeatFrame => hmix.trans (State.modLink_keeps _ p fun l => l.handAudio_bounded f)
  exact .ite (.ite ((haudio _).trans (State.setMixer_keeps _ _)) (haudio _)) hmix

theorem State.requestPrograms_keeps : Keeps s s.requestPrograms.1 :=
  (s.modTaps_keeps _).trans (.foldl (fun t _ => t.modTaps_keeps _) _ _)

theorem State.requestAnnouncements_keeps : Keeps s s.requestAnnouncements.1 := by
  refine s.setVoice_keeps fun hs => ?_
  simpa [VoiceArb.bounded] using hs

theorem State.blockWork_keeps : Keeps s s.blockWork :=
  (s.requestPrograms_keeps.trans (State.requestAnnouncements_keeps _)).trans (.foldl (fun t p => t.mixBerth_keeps _ p) _ _)

/-! ## The Start-up Controller and the service (chapter 10) -/

theorem State.sendPresence_keeps : Keeps s s.sendPresence :=
  (s.handOver_keeps _).trans (State.setTrunk_keeps _ id)

theorem State.enterBlock_keeps (b : RunningBlock) : Keeps s (s.enterBlock b) := by
  cases b with
  | want => exact s.sendWant_keeps
  | carry => exact s.sendCarry_keeps
  | phase => exact s.sendPhase_keeps
  | presence => exact s.sendPresence_keeps

/-- A change of the Start-up Controller, or of the place among the free choices. -/
theorem State.setStartup_keeps (u : Startup) (h : u.image = s.image) (n : Nat) :
    Keeps s { s with startup := u, free := n } := by
  refine ⟨⟨rfl, Nat.le_refl _, id, fun _ => id, fun _ => id, id, ?_, ?_⟩, Nat.le_refl _⟩
  · rw [State.sendingChannels_congr (s := s) (t := { s with startup := u, free := n }) h rfl]
    change _ → _ ≤ u.image.carryBudget
    rw [h]
    exact id
  · change s.image.feedsApart = true → u.image.feedsApart = true
    rw [h]
    exact id

theorem State.useFree_keeps (n : Nat) : Keeps s (s.useFree n) := s.setStartup_keeps s.startup rfl _

theorem State.enterRunning_keeps : Keeps s s.enterRunning := by
  have hrun := s.setStartup_keeps { s.startup with state := .running, listenEnd := none } rfl s.free
  exact ((hrun.trans (State.buildTaps_keeps _)).trans (State.useFree_keeps _ _)).trans (.foldl State.enterBlock_keeps _ _)

theorem Trunk.initial_bounded (now : Time) (seed : Nat) : (Trunk.initial now seed).bounded = true := rfl

theorem Link.initial_bounded : Link.initial.bounded = true := rfl

theorem VoiceArb.initial_bounded : VoiceArb.initial.bounded = true := by decide

/-- No channel sends at a start. -/
theorem sendingChannels_length_of_initial {s : State} {im : Image} (h : s.carry.channels = Channel.allInitial im) :
    s.sendingChannels.length = 0 := by
  have hstart : ∀ c, (s.chan c).carried = false := fun c => by
    rw [State.chan, h, Channel.allInitial, Fin.getElem_fin, Vector.getElem_ofFn, Channel.carried_eq, Channel.initial]
    dsimp only
    split <;> rfl
  simp [State.sendingChannels, hstart]

theorem State.softRestart_keeps : Keeps s s.softRestart := by
  refine ⟨⟨rfl, Nat.le_refl _, fun _ => rfl, fun p _ => ?_, fun p hp => ?_, fun _ => VoiceArb.initial_bounded,
    fun _ => (sendingChannels_length_of_initial rfl).trans_le (Nat.zero_le _), id⟩, Nat.le_refl _⟩
  · simp only [State.softRestart, Fin.getElem_fin, Vector.getElem_ofFn]
    exact Link.initial_bounded
  · simp only [State.berth, State.softRestart, Fin.getElem_fin, Vector.getElem_ofFn]
    exact Berth.report_inRange (b := { s.berths.records[p] with headset := false, hold := false }) hp (by simp)

theorem State.restartNow_keeps : Keeps s s.restartNow := .ite s.softRestart_keeps (.refl s)

theorem State.clearCounters_keeps : Keeps s s.clearCounters := by
  refine ⟨⟨rfl, Nat.le_refl _, id, fun p hp => ?_, fun _ => id, ?_, id, id⟩, Nat.le_refl _⟩
  · rw [s.clearCounters_link p]
    exact hp
  · exact fun hs => hs

theorem State.reply_keeps (k : ServiceKind) (r : ServiceResult) (pl : Payload) : Keeps s (s.reply k r pl).1 :=
  s.handOverMarked_keeps _ _

theorem Channel.abandon_carried (x : Channel) (cfg : ChannelConfig) : (x.abandon cfg).carried = x.carried := by
  rw [Channel.abandon_frame]
  rfl

/-- ONE_SHOT leaves the state of a channel. -/
theorem Channel.oneShot_carried (x : Channel) (cfg : ChannelConfig) : (x.oneShot cfg).carried = x.carried := by
  rw [Channel.oneShot]
  change Channel.carried (if x.carried then x.abandon cfg else x) = x.carried
  split
  · exact x.abandon_carried cfg
  · rfl

theorem State.serveOneShot_keeps (program : Nat) : Keeps s (s.serveOneShot program) := by
  unfold State.serveOneShot
  split
  · exact s.reply_keeps _ _ _
  · exact (s.modChan_keeps _ fun x h => by rwa [Channel.oneShot_carried] at h).trans (State.reply_keeps _ _ _ _)

theorem State.serveBerthReset_keeps (port : Nat) : Keeps s (s.serveBerthReset port) := by
  unfold State.serveBerthReset
  split
  · exact s.reply_keeps _ _ _
  · exact (s.resetLink_keeps _).trans (State.reply_keeps _ _ _ _)

theorem State.serveRestart_keeps : Keeps s s.serveRestart := by
  have hreply := (s.setStartup_keeps { s.startup with restart := some (s.now + ms 2000) } rfl s.free).trans
    (State.handOverMarked_keeps _ (.serviceReply .restart .accepted .none) true)
  exact .ite (s.reply_keeps _ _ _) (.ite hreply (hreply.trans (State.restartNow_keeps _)))

theorem State.takeService_keeps (target : Nat) (k : ServiceKind) (a : Nat) : Keeps s (s.takeService target k a) := by
  unfold State.takeService
  split
  · split
    · exact s.reply_keeps _ _ _
    · exact s.reply_keeps _ _ _
    · exact s.clearCounters_keeps.trans (State.reply_keeps _ _ _ _)
    · exact s.serveRestart_keeps
    · exact s.serveOneShot_keeps a
    · exact s.serveBerthReset_keeps a
    · exact s.reply_keeps _ _ _
  · exact .refl s

/-! ## The trunk (chapter 9) -/

/-- A change of the trunk that keeps its queues and its count of failures. -/
theorem State.refreshPeer_keeps (st : Nat) : Keeps s (s.refreshPeer st) := s.modTrunk_keeps id

theorem State.carrierEnds_keeps : Keeps s s.carrierEnds := s.modTrunk_keeps id

theorem State.countHeaderError_keeps : Keeps s s.countHeaderError := s.modTrunk_keeps id

theorem State.takePresence_keeps (source : Nat) (r : Presence) : Keeps s (s.takePresence source r) := by
  have hentry : Keeps s (s.modTrunk fun t =>
      { t with peers := t.peers.map fun q => if q.station = source then q.present r else q }) := s.modTrunk_keeps id
  exact .ite (.refl s) (.ite (hentry.trans (State.countHeaderError_keeps _)) hentry)

theorem State.deliver_keeps (p : Packet) : Keeps s (s.deliver p) := by
  unfold State.deliver
  split
  · exact .of_only (s.takeProgramAudio_only _ _ _) rfl
  · exact s.takeProgramVideo_keeps _ _ _
  · exact (Keeps.of_only (s.takeCatalogue_only _ _) rfl).trans (State.takeShadowing_keeps _ _ _)
  · exact s.takeWant_keeps _ _
  · exact s.takeAnnounce_keeps _ _
  · exact s.takeAck_keeps _ _ _
  · exact s.takePhase_keeps _ _ _ _
  · exact s.takePresence_keeps _ _
  · exact s.takeService_keeps _ _ _
  · exact .refl s

theorem State.takeGood_keeps (p : Packet) : Keeps s (s.takeGood p) :=
  .ite s.countHeaderError_keeps (.ite (s.modTrunk_keeps id) ((s.refreshPeer_keeps _).trans (State.deliver_keeps _ _)))

theorem State.receive_keeps (p : Packet) : Keeps s (s.receive p) :=
  .ite (s.carrierEnds_keeps.trans (State.takeGood_keeps _ p)) (.refl s)

theorem State.loopBack_keeps (p : Packet) : Keeps s (s.loopBack p) := .ite (s.deliver_keeps p) s.countHeaderError_keeps

/-- The capacities of the transmit queues, one by one. -/
theorem Trunk.bounded_iff (t : Trunk) : t.bounded = true ↔
    t.queueA.length ≤ 8 ∧ t.queueB.length ≤ 16 ∧ t.queueC.length ≤ 32 ∧ t.failures < 64 := by
  simp [Trunk.bounded, and_assoc]

/-- The 64th failure in a row is counted from 0 again. -/
theorem Trunk.dropCurrent_bounded (t : Trunk) (now : Time) (h : t.bounded = true) : (t.dropCurrent now).bounded = true := by
  rw [Trunk.bounded_iff] at h
  obtain ⟨ha, hb, hc, -⟩ := h
  unfold Trunk.dropCurrent
  dsimp only
  split
  · exact (Trunk.bounded_iff _).mpr ⟨ha, hb, hc, Nat.succ_pos 63⟩
  · next hf => exact (Trunk.bounded_iff _).mpr ⟨ha, hb, hc, Nat.lt_of_not_le hf⟩

theorem Trunk.collide_bounded (t : Trunk) (now : Time) (c : Current) (h : t.bounded = true) :
    (t.collide now c).bounded = true := by
  unfold Trunk.collide
  dsimp only
  split
  · exact Trunk.take_bounded _ h
  · split
    · exact Trunk.take_bounded _ (Trunk.dropCurrent_bounded _ now h)
    · exact h

theorem Trunk.discardStale_bounded (t : Trunk) (h : t.bounded = true) : t.discardStale.bounded = true := by
  have hdrop : ({ t with stale := bump t.stale, queueB := t.queueB.drop 1 } : Trunk).bounded = true := by
    rw [Trunk.bounded_iff] at *
    obtain ⟨ha, hb, hc, hf⟩ := h
    exact ⟨ha, by simp only [List.length_drop]; omega, hc, hf⟩
  unfold Trunk.discardStale
  split
  · split
    · exact Trunk.take_bounded _ h
    · exact hdrop
  · exact hdrop

/-! ## The commands -/

/-- What a command answers: a next state, of which something holds. -/
def answers (P : State → State → Prop) (s : State) (o : Host.Outcome State Fault Refusal) : Prop := ∃ t, o = .next t ∧ P s t

theorem answers.next {P : State → State → Prop} {s t : State} (h : P s t) : answers P s (.next t) := ⟨t, rfl, h⟩

theorem answers.ite {P : State → State → Prop} {s : State} {c : Prop} [Decidable c] {a b : Host.Outcome State Fault Refusal}
    (h : answers P s a) (k : answers P s b) : answers P s (if c then a else b) := by
  split
  · exact h
  · exact k

theorem answers.mono {P Q : State → State → Prop} {s : State} {o : Host.Outcome State Fault Refusal} (h : answers P s o)
    (hpq : ∀ t, P s t → Q s t) : answers Q s o := by
  obtain ⟨t, ht, hp⟩ := h
  exact ⟨t, ht, hpq t hp⟩

/-- A command that changes nothing. -/
theorem answers.same : answers Keeps s (.next s) := .next (.refl s)

/-! ### Start-up -/

/-- Whatever the entry to LOADING finds, it leaves every queue empty and every record at its defaults. -/
theorem State.atPowerOn_staysBounded (resetN : Bool) (im : Image)
    (him : s.image.feedsApart = true → im.feedsApart = true) : StaysBounded s (State.atPowerOn s.now s.free s.pending resetN im) := by
  refine ⟨rfl, Nat.le_refl _, fun _ => rfl, fun p _ => ?_, fun p _ => ?_, fun _ => VoiceArb.initial_bounded,
    fun _ => (sendingChannels_length_of_initial rfl).trans_le (Nat.zero_le _), him⟩
  · simp only [State.atPowerOn, Fin.getElem_fin, Vector.getElem_replicate]
    exact Link.initial_bounded
  · simp only [State.berth, State.atPowerOn, BerthCtl.initial, Fin.getElem_fin, Vector.getElem_replicate]
    cases resetN <;> rfl

theorem State.readStraps_staysBounded {s t : State} (h : StaysBounded s t) (straps : BitVec 5) :
    StaysBounded s (t.readStraps straps) :=
  ⟨h.pending, h.now, h.trunk, h.links, h.berths, h.voice, h.budget, h.feeds⟩

theorem State.endLoad_staysBounded {s t : State} (h : StaysBounded s t) {im : Image} (him : im.feedsApart = true)
    (a b : Bool) : StaysBounded s (t.endLoad im a b) :=
  ⟨h.pending, h.now, h.trunk, h.links, h.berths, h.voice,
    fun _ => (sendingChannels_length_of_initial rfl).trans_le (Nat.zero_le _), fun _ => him⟩

theorem execPowerOn_staysBounded (straps : BitVec 5) : answers StaysBounded s (execPowerOn straps s) := by
  have h := s.atPowerOn_staysBounded s.startup.resetN s.image id
  unfold execPowerOn
  refine .next ?_
  split
  · exact State.readStraps_staysBounded h straps
  · exact h

theorem execResetNLow_staysBounded : answers StaysBounded s (execResetNLow s) := .next (s.atPowerOn_staysBounded _ _ id)

theorem execResetNHigh_staysBounded (straps : BitVec 5) : answers StaysBounded s (execResetNHigh straps s) := by
  refine .next ?_
  split
  · exact State.readStraps_staysBounded (s.atPowerOn_staysBounded _ _ id) straps
  · exact (s.setStartup_keeps { s.startup with resetN := true } rfl s.free).toStaysBounded

theorem execConfigurationLoadEnd_staysBounded (image : List Byte) :
    answers StaysBounded s (execConfigurationLoadEnd image s) := by
  have h := (Keeps.refl s).toStaysBounded
  unfold execConfigurationLoadEnd State.loadBytes
  split
  · exact .next h
  · refine .ite (.next ?_) (.next h)
    dsimp only
    split
    · exact State.endLoad_staysBounded h (loadGoodImage_feedsApart _) _ _
    · exact State.endLoad_staysBounded h defaultImage_feedsApart _ _

theorem execLoadTimeout_staysBounded : answers StaysBounded s (execLoadTimeout s) := by
  unfold execLoadTimeout
  split
  · exact .next (Keeps.refl s).toStaysBounded
  · exact .next (State.endLoad_staysBounded (s.reach_keeps _).toStaysBounded defaultImage_feedsApart _ _)

theorem execListeningEnd_keeps : answers Keeps s (execListeningEnd s) := by
  unfold execListeningEnd
  split
  · exact .next ((s.reach_keeps _).trans (State.enterRunning_keeps _))
  · exact .same s

theorem execRestartPendingTimeout_keeps : answers Keeps s (execRestartPendingTimeout s) := by
  unfold execRestartPendingTimeout
  split
  · exact .same s
  · exact .next ((s.reach_keeps _).trans (State.softRestart_keeps _))

/-! ### Periods and ages -/

theorem execPresencePeriod_keeps : answers Keeps s (execPresencePeriod s) := by
  unfold execPresencePeriod
  split
  · exact .ite (.next ((s.reach_keeps _).trans (State.sendPresence_keeps _))) (.same s)
  · exact .same s

theorem execWantPeriod_keeps : answers Keeps s (execWantPeriod s) := by
  unfold execWantPeriod
  split
  · exact .ite (.next ((s.reach_keeps _).trans (State.sendWant_keeps _))) (.same s)
  · exact .same s

theorem execCarryPeriod_keeps : answers Keeps s (execCarryPeriod s) := by
  unfold execCarryPeriod
  split
  · exact .ite (.next ((s.reach_keeps _).trans (State.sendCarry_keeps _))) (.same s)
  · exact .same s

theorem execPhasePeriod_keeps : answers Keeps s (execPhasePeriod s) := by
  unfold execPhasePeriod
  split
  · exact .ite (.next ((s.reach_keeps _).trans (State.sendPhase_keeps _))) (.same s)
  · exact .same s

theorem execPeerExpiry_keeps (station : Nat) : answers Keeps s (execPeerExpiry station s) := by
  unfold execPeerExpiry
  split
  · exact .same s
  · exact .next ((s.reach_keeps _).trans (State.modTrunk_keeps _ id))

theorem execCatalogueExpiry_keeps (program : Nat) : answers Keeps s (execCatalogueExpiry program s) := by
  unfold execCatalogueExpiry
  split
  · exact .same s
  · exact .next ((s.reach_keeps _).trans (State.modTaps_keeps _ _))

theorem execStarvedTimeout_keeps (program : Nat) : answers Keeps s (execStarvedTimeout program s) := by
  unfold execStarvedTimeout
  split
  · exact .same s
  · exact .ite (.next ((s.reach_keeps _).trans (State.modTaps_keeps _ _))) (.same s)

theorem execBlockEvent_keeps : answers Keeps s (execBlockEvent s) := by
  unfold execBlockEvent
  split
  · exact .same s
  · exact .next (((s.reach_keeps _).trans (State.blockWork_keeps _)).trans (State.setMixer_keeps _ _))

theorem execFeedEvent_keeps : answers Keeps s (execFeedEvent s) := by
  unfold execFeedEvent
  split
  · exact .same s
  · exact .next ((((s.reach_keeps _).trans (State.useFree_keeps _ _)).trans (.foldl State.feedChannel_keeps _ _)).trans
      (State.setCarry_keeps _ _ rfl))

/-! ### The feed port and the demand -/

theorem State.countFeedError_keeps : Keeps s s.countFeedError := s.setCarry_keeps _ rfl

theorem execAudioDelivery_keeps (channel : Nat) (begins : Bool) (frames : List StereoFrame) (check : Option (BitVec 16)) :
    answers Keeps s (execAudioDelivery channel begins frames check s) := by
  unfold execAudioDelivery
  split
  · exact .same s
  · have hfill := fun c f => s.modChan_keeps c (f := fun x => { x with filling := f }) fun _ => id
    exact .ite (.next (.ite ((hfill _ _).trans (State.countFeedError_keeps _)) (hfill _ _))) (.same s)

theorem execVideoDelivery_keeps (channel : Nat) (payload : List Byte) :
    answers Keeps s (execVideoDelivery channel payload s) := by
  unfold execVideoDelivery
  split
  · exact .same s
  · exact .ite (.ite (.next s.countFeedError_keeps) (.ite (.next (.ite ((s.handOverMarked_keeps _ _).trans
      (State.modChan_keeps _ _ fun _ => id)) (s.handOverMarked_keeps _ _))) (.same s))) (.same s)

theorem execDemandExpiry_keeps (c : Chan) (station : Nat) : answers Keeps s (execDemandExpiry c station s) := by
  unfold execDemandExpiry
  split
  · exact .same s
  · exact .next (((s.reach_keeps _).trans (State.modChan_keeps _ c (f := fun x => x.dropDemand station) fun _ => id)).trans
      (State.carryDecision_keeps _))

/-- A channel that is given a state in which it does not send. -/
theorem Channel.assign_carried (x : Channel) (cfg : ChannelConfig) (st : ChanState) (le : Option Time) :
    (x.assign cfg st le).carried = sends st := by
  obtain ⟨_, _, _, h⟩ := x.assign_frame cfg st le
  rw [h]
  rfl

theorem execLingerEnd_keeps (c : Chan) : answers Keeps s (execLingerEnd c s) := by
  unfold execLingerEnd
  split
  · exact .ite (.next ((((s.reach_keeps _).trans (State.modChan_keeps _ c fun x h => by
      rw [Channel.assign_carried] at h
      exact absurd h Bool.false_ne_true)).trans (State.sendCarry_keeps _)).trans (State.carryDecision_keeps _))) (.same s)
  · exact .same s

theorem execShadowEnd_keeps (c : Chan) : answers Keeps s (execShadowEnd c s) := by
  unfold execShadowEnd
  split
  · exact .next ((((s.reach_keeps _).trans (State.modChan_keeps _ c fun _ h => by
      exact absurd h Bool.false_ne_true)).trans (State.sendCarry_keeps _)).trans (State.carryDecision_keeps _))
  · exact .same s

/-! ### Announcements and the panel -/

theorem execEntryLost_keeps (id : AnnId) : answers Keeps s (execEntryLost id s) := by
  have hcount : ∀ (t : State) (c : Counter), Keeps t { t with voice := { t.voice with lost := c } } := fun t _ =>
    t.setVoice_keeps fun ht => ht
  unfold execEntryLost
  split
  · exact .same s
  · exact .next (((s.reach_keeps _).trans (hcount _ _)).trans (State.endEntry_keeps _ _ _))

theorem execPendingWaitLimit_keeps (p : Port) (id : AnnId) : answers Keeps s (execPendingWaitLimit p id s) := by
  unfold execPendingWaitLimit
  split
  · exact .same s
  · exact .next ((((s.reach_keeps _).trans (State.leavePending_keeps _ p id)).trans (State.fix_keeps _ id p _)).trans
      (State.showCard_keeps _ id p))

theorem execBeginAnn_keeps (cls a b c d e : Nat) : answers Keeps s (execBeginAnn cls a b c d e s) := by
  unfold execBeginAnn
  split
  · exact .same s
  · exact .next (s.refusePanel_keeps _ _)
  · exact .next (s.refusePanel_keeps _ _)
  · exact .next (s.checkBegin_keeps _ _ _ _ _ _)

theorem execPanelAudio_keeps (l : List Sample) : answers Keeps s (execPanelAudio l s) := by
  unfold execPanelAudio
  split
  · exact .same s
  · exact .next (s.refusePanel_keeps _ _)
  · exact .next (s.takePanelAudio_keeps l)
  · exact .next (s.takePanelAudio_keeps l)

theorem execPanelEnd_keeps : answers Keeps s (execPanelEnd s) := by
  unfold execPanelEnd
  split
  · exact .same s
  · exact .next (s.refusePanel_keeps _ _)
  · exact .next s.takePanelEnd_keeps
  · exact .next s.takePanelEnd_keeps

theorem execAbort_keeps : answers Keeps s (execAbort s) := by
  unfold execAbort
  split
  · exact .same s
  · exact .next (s.refusePanel_keeps _ _)
  · exact .next s.takeAbort_keeps
  · exact .next s.takeAbort_keeps

theorem execSetPhase_keeps (phase : Nat) : answers Keeps s (execSetPhase phase s) := by
  unfold execSetPhase
  split
  · exact .same s
  · exact .next (s.refusePanel_keeps _ _)
  · exact .next (s.refusePanel_keeps _ _)
  · split
    · exact .next ((s.notify_keeps _).trans (State.originate_keeps _ _))
    · exact .next (s.refusePanel_keeps _ _)

theorem execPanelFrameError_keeps : answers Keeps s (execPanelFrameError s) := .ite (.next (s.modOrig_keeps _)) (.same s)

theorem execLeadInEvent_keeps : answers Keeps s (execLeadInEvent s) :=
  .ite (.next (((s.reach_keeps _).trans (State.sendAnnounce_keeps _ _)).trans (State.modOrig_keeps _ _))) (.same s)

theorem execLeadInComplete_keeps : answers Keeps s (execLeadInComplete s) := by
  unfold execLeadInComplete
  split
  · exact .next (((s.reach_keeps _).trans (State.notify_keeps _ _)).trans (State.modOrig_keeps _ _))
  · exact .same s

theorem execHoldTimer_keeps : answers Keeps s (execHoldTimer s) := by
  unfold execHoldTimer
  split
  · exact .ite (.next (((s.reach_keeps _).trans (State.sendAnnounce_keeps _ _)).trans (State.modOrig_keeps _ _))) (.same s)
  · exact .same s

theorem execPanelLost_keeps : answers Keeps s (execPanelLost s) := by
  unfold execPanelLost
  split
  · exact .next ((s.reach_keeps _).trans (State.sendEnd_keeps _ _))
  · exact .same s

theorem execWindowEnd_keeps : answers Keeps s (execWindowEnd s) := by
  unfold execWindowEnd
  split
  · split
    · exact .next ((s.reach_keeps _).trans (State.closeCollection_keeps _ _))
    · exact .same s
  · exact .same s

/-! ### Seat links -/

/-- A link whose queues stand. -/
theorem State.modLink_keeps_of_queues (p : Port) {f : Link → Link} (h : ∀ l, (f l).control = l.control ∧ (f l).video = l.video ∧
    (f l).waiting = l.waiting ∧ (f l).faults = l.faults) : Keeps s (s.modLink p f) :=
  s.modLink_keeps p fun l hl => by
    obtain ⟨hc, hv, hw, hf⟩ := h l
    simpa [Link.bounded, hc, hv, hw, hf] using hl

theorem execStatus_keeps (p : Port) (headset ready : Bool) : answers Keeps s (execStatus p headset ready s) := by
  have hlink : ∀ f : Link → Link, (∀ l, (f l).control = l.control ∧ (f l).video = l.video ∧ (f l).waiting = l.waiting ∧
      (f l).faults = l.faults) → Keeps s (s.modLink p f) := fun f => s.modLink_keeps_of_queues p
  unfold execStatus
  refine .ite ?_ (.same s)
  dsimp only
  split
  · exact .ite (.next ((hlink (fun x => { x with lastGood := some s.now }) fun _ => ⟨rfl, rfl, rfl, rfl⟩).trans (State.takeHeadset_keeps _ p _))) (.same s)
  · exact .ite (.same s) (.ite (.ite (.next (hlink _ fun _ => ⟨rfl, rfl, rfl, rfl⟩)) (.next (s.bringUp_keeps p _)))
      (.next (hlink _ fun _ => ⟨rfl, rfl, rfl, rfl⟩)))
  · exact .same s
  · exact .same s

theorem execGoodCountTimeout_keeps (p : Port) : answers Keeps s (execGoodCountTimeout p s) := by
  unfold execGoodCountTimeout
  dsimp only
  split
  · exact .ite (.next ((s.reach_keeps _).trans (State.modLink_keeps_of_queues _ p fun _ => ⟨rfl, rfl, rfl, rfl⟩))) (.same s)
  · exact .same s

theorem execStatusWatchExpiry_keeps (p : Port) : answers Keeps s (execStatusWatchExpiry p s) := by
  unfold execStatusWatchExpiry
  dsimp only
  split
  · exact .next (((s.reach_keeps _).trans (State.leaveUp_keeps _ p _)).trans
      (State.modLink_keeps_of_queues _ p fun _ => ⟨rfl, rfl, rfl, rfl⟩))
  · exact .same s

theorem execHoldFrame_keeps (p : Port) : answers Keeps s (execHoldFrame p s) := by
  refine .ite (.next (s.modLink_keeps_of_queues p fun l => ?_)) (.same s)
  split <;> exact ⟨rfl, rfl, rfl, rfl⟩

theorem execResume_keeps (p : Port) : answers Keeps s (execResume p s) :=
  .ite (.next (s.modLink_keeps p fun l hl => Link.kick_bounded { l with hold := none } hl)) (.same s)

theorem execCaptionAck_keeps (p : Port) (caption : Nat) (action : CardAction) :
    answers Keeps s (execCaptionAck p caption action s) :=
  .ite (.ite (.next (s.modLink_keeps p fun l => l.releaseCard_bounded _)) (.next (s.modLinkCounters_keeps p _))) (.same s)

theorem execLinkFault_keeps (p : Port) : answers Keeps s (execLinkFault p s) := by
  unfold execLinkFault
  split
  · exact .next ((s.reach_keeps _).trans (State.fault_keeps _ p))
  · exact .same s

theorem execHoldOffEnd_keeps (p : Port) : answers Keeps s (execHoldOffEnd p s) := by
  unfold execHoldOffEnd
  split
  · exact .same s
  · refine .next ((s.reach_keeps _).trans (State.modLink_keeps_of_queues _ p fun l => ?_))
    split
    · split <;> exact ⟨rfl, rfl, rfl, rfl⟩
    · exact ⟨rfl, rfl, rfl, rfl⟩

theorem execCaptionAckTimeout_keeps (p : Port) : answers Keeps s (execCaptionAckTimeout p s) := by
  unfold execCaptionAckTimeout
  split
  · exact .same s
  · exact .next ((s.reach_keeps _).trans (State.modLink_keeps _ p fun l hl => Link.releaseCard_bounded _ _ hl))

/-- The end of a frame keeps a link's capacities. -/
theorem Link.frameSent_bounded (l : Link) (now : Time) (h : l.bounded = true) : (l.frameSent now).bounded = true := by
  unfold Link.frameSent
  split
  · exact h
  · refine Link.kick_bounded _ ?_
    split
    · split <;> exact h
    · exact h

theorem execInactivityExpiry_keeps (p : Port) : answers Keeps s (execInactivityExpiry p s) := by
  unfold execInactivityExpiry
  split
  · exact .ite (.next (((s.reach_keeps _).trans (State.modBerth_keeps _ p Berth.rest_inRange)).trans
      (State.recompute_keeps _ p))) (.same s)
  · exact .same s

theorem execRequest_keeps (p : Port) (frame : List Byte) : answers Keeps s (execRequest p frame s) := by
  unfold execRequest
  split
  · exact .next (s.frameError_keeps p _)
  · exact .next (s.takeRequest_keeps p _)

/-! ### The trunk -/

theorem execTrunkPacketDiscarded_keeps (carrier : List Byte) : answers Keeps s (execTrunkPacketDiscarded carrier s) := by
  unfold execTrunkPacketDiscarded
  refine .ite ?_ (.same s)
  dsimp only
  split
  · exact .next s.carrierEnds_keeps
  · exact .next (s.carrierEnds_keeps.trans (State.modTrunk_keeps _ id))
  · exact .next (s.carrierEnds_keeps.trans (State.countHeaderError_keeps _))
  · exact .next (s.carrierEnds_keeps.trans (State.takeGood_keeps _ _))

theorem execCarrierDefer_keeps (duration : Nat) : answers Keeps s (execCarrierDefer duration s) :=
  .ite (.next (s.modTrunk_keeps id)) (.same s)

theorem execAttemptStart_keeps : answers Keeps s (execAttemptStart s) := by
  unfold execAttemptStart
  split
  · exact .next ((s.reach_keeps _).trans (State.modTrunk_keeps _ id))
  · exact .same s

theorem execCollision_keeps : answers Keeps s (execCollision s) := by
  unfold execCollision
  split
  · exact .same s
  · next c _ =>
    have hcollide : Keeps s (s.modTrunk fun t => t.collide s.now c) := s.modTrunk_keeps (Trunk.collide_bounded _ _ c)
    split
    · exact .same s
    · exact .ite (.next (hcollide.trans (State.restartNow_keeps _))) (.next hcollide)

theorem execPacketSent_keeps : answers Keeps s (execPacketSent s) := by
  have hfree : ∀ t : State, Keeps t (t.modTrunk fun u => Trunk.take { u with idleFrom := t.now, failures := 0, current := none }) :=
    fun t => t.modTrunk_keeps fun ht => Trunk.take_bounded _ <| by
      rw [Trunk.bounded_iff] at *
      obtain ⟨ha, hb, hc, -⟩ := ht
      exact ⟨ha, hb, hc, Nat.succ_pos 63⟩
  unfold execPacketSent
  split
  · exact .same s
  · split
    · exact .same s
    · have hloop := fun a p => ((s.reach_keeps a).trans (hfree _)).trans (State.loopBack_keeps _ p)
      exact .next (.ite ((hloop _ _).trans (State.restartNow_keeps _)) (hloop _ _))

theorem execStale_keeps : answers Keeps s (execStale s) := by
  unfold execStale
  split
  · exact .same s
  · exact .next ((s.reach_keeps _).trans (State.modTrunk_keeps _ (Trunk.discardStale_bounded _)))

theorem execBackedOffEnd_keeps : answers Keeps s (execBackedOffEnd s) := by
  unfold execBackedOffEnd
  split
  · exact .same s
  · exact .next ((s.reach_keeps _).trans (State.modTrunk_keeps _ fun h => Trunk.take_bounded _ h))

/-! ### All of them -/

/-- The commands that start the node or end its load. -/
def startsOrLoads (i : Instr) : Bool :=
  match i with
  | .powerOn _ => true
  | .resetNLow => true
  | .resetNHigh _ => true
  | .configurationLoadEnd _ => true
  | .loadTimeout => true
  | _ => false

/-- A command that brings a packet from the trunk hands it to the receive side. -/
theorem exec_of_receivedPacket {i : Instr} {p : Packet} (h : receivedPacket i = some p) : exec i s = .next (s.receive p) := by
  cases i <;> cases h <;> rfl

/-- The passenger request that a command brings from a port. -/
def passengerRequest (i : Instr) : Option (Port × PassengerRequest) :=
  match i with
  | .select p q => some (p, .select q)
  | .volume p v => some (p, .volume v)
  | .mute p on => some (p, .mute on)
  | .language p v => some (p, .language v)
  | .stop p v w => some (p, .stop v w)
  | .dnd p on => some (p, .dnd on)
  | .screen p on => some (p, .screen on)
  | .brightness p v => some (p, .brightness v)
  | .skip p => some (p, .skip)
  | _ => none

/-- A command that brings a passenger request hands it to the Berth Controller. -/
theorem exec_of_passengerRequest {i : Instr} {p : Port} {r : PassengerRequest} (h : passengerRequest i = some (p, r)) :
    exec i s = .next (s.takeRequest p r) := by
  cases i <;> cases h <;> rfl

/-- A start and the end of a load keep every bound. -/
theorem exec_staysBounded_of_start {i : Instr} (h : startsOrLoads i = true) : answers StaysBounded s (exec i s) := by
  cases i with
  | powerOn straps => exact execPowerOn_staysBounded s straps
  | resetNLow => exact execResetNLow_staysBounded s
  | resetNHigh straps => exact execResetNHigh_staysBounded s straps
  | configurationLoadEnd image => exact execConfigurationLoadEnd_staysBounded s image
  | loadTimeout => exact execLoadTimeout_staysBounded s
  | _ => cases h

/-- Every other command keeps every bound, and no epoch goes back. -/
theorem exec_keeps {i : Instr} (h : startsOrLoads i = false) : answers Keeps s (exec i s) := by
  by_cases hpacket : ∃ p, receivedPacket i = some p
  · obtain ⟨p, hp⟩ := hpacket
    exact ⟨_, exec_of_receivedPacket s hp, s.receive_keeps p⟩
  by_cases hrequest : ∃ x, passengerRequest i = some x
  · obtain ⟨⟨p, r⟩, hr⟩ := hrequest
    exact ⟨_, exec_of_passengerRequest s hr, s.takeRequest_keeps p r⟩
  cases i with
  | listeningEnd => exact execListeningEnd_keeps s
  | softRestart => exact .next s.restartNow_keeps
  | restartPendingTimeout => exact execRestartPendingTimeout_keeps s
  | trunkPacketDiscarded carrier => exact execTrunkPacketDiscarded_keeps s carrier
  | carrierDefer duration => exact execCarrierDefer_keeps s duration
  | attemptStart => exact execAttemptStart_keeps s
  | collision => exact execCollision_keeps s
  | packetSent => exact execPacketSent_keeps s
  | stale => exact execStale_keeps s
  | backedOffEnd => exact execBackedOffEnd_keeps s
  | presencePeriod => exact execPresencePeriod_keeps s
  | peerExpiry station => exact execPeerExpiry_keeps s station
  | catalogueExpiry program => exact execCatalogueExpiry_keeps s program
  | wantPeriod => exact execWantPeriod_keeps s
  | starvedTimeout program => exact execStarvedTimeout_keeps s program
  | blockEvent => exact execBlockEvent_keeps s
  | feedEvent => exact execFeedEvent_keeps s
  | levelWindowEnd c => exact .next (s.modChan_keeps c fun x h => by rwa [Channel.endWindow_carried] at h)
  | audioDelivery channel begins frames check => exact execAudioDelivery_keeps s channel begins frames check
  | videoDelivery channel payload => exact execVideoDelivery_keeps s channel payload
  | demandExpiry c station => exact execDemandExpiry_keeps s c station
  | lingerEnd c => exact execLingerEnd_keeps s c
  | shadowEnd c => exact execShadowEnd_keeps s c
  | carryPeriod => exact execCarryPeriod_keeps s
  | entryLost id => exact execEntryLost_keeps s id
  | pendingWaitLimit p id => exact execPendingWaitLimit_keeps s p id
  | inactivityExpiry p => exact execInactivityExpiry_keeps s p
  | status p headset ready => exact execStatus_keeps s p headset ready
  | goodCountTimeout p => exact execGoodCountTimeout_keeps s p
  | statusWatchExpiry p => exact execStatusWatchExpiry_keeps s p
  | request p frame => exact execRequest_keeps s p frame
  | holdFrame p => exact execHoldFrame_keeps s p
  | resume p => exact execResume_keeps s p
  | captionAck p caption action => exact execCaptionAck_keeps s p caption action
  | seatFrameError p cause => exact .next (s.frameError_keeps p cause)
  | linkFault p => exact execLinkFault_keeps s p
  | holdOffEnd p => exact execHoldOffEnd_keeps s p
  | captionAckTimeout p => exact execCaptionAckTimeout_keeps s p
  | linkFrameSent p => exact .next (s.modLink_keeps p fun l => l.frameSent_bounded _)
  | beginAnn cls first last stop language caption => exact execBeginAnn_keeps s cls first last stop language caption
  | panelAudio samples => exact execPanelAudio_keeps s samples
  | panelEnd => exact execPanelEnd_keeps s
  | abort => exact execAbort_keeps s
  | setPhase phase => exact execSetPhase_keeps s phase
  | panelFrameError => exact execPanelFrameError_keeps s
  | leadInEvent => exact execLeadInEvent_keeps s
  | leadInComplete => exact execLeadInComplete_keeps s
  | holdTimer => exact execHoldTimer_keeps s
  | panelLost => exact execPanelLost_keeps s
  | windowEnd => exact execWindowEnd_keeps s
  | phasePeriod => exact execPhasePeriod_keeps s
  | powerOn | resetNLow | resetNHigh | configurationLoadEnd | loadTimeout => cases h
  | select | volume | mute | language | stop | dnd | screen | brightness | skip => exact absurd ⟨_, rfl⟩ hrequest
  | _ => exact absurd ⟨_, rfl⟩ hpacket

/-- Every command answers a next state and keeps every bound. -/
theorem exec_staysBounded (i : Instr) : answers StaysBounded s (exec i s) := by
  cases h : startsOrLoads i with
  | true => exact exec_staysBounded_of_start s h
  | false => exact (exec_keeps s h).mono fun _ => Keeps.toStaysBounded

/-- What a command answers stays bounded. -/
theorem StaysBounded.of_exec {i : Instr} {s t : State} (h : exec i s = .next t) : StaysBounded s t := by
  obtain ⟨u, hu, hb⟩ := exec_staysBounded s i
  rw [h] at hu
  cases hu
  exact hb

/-- A step keeps what every command keeps and the passing of time does not touch: the trunk, the links, the berths, the
Voice Arbiter. -/
theorem step_keeps_of_exec {P : State → Prop} (hquiet : ∀ (s : State) (n : Time) (f : Nat) (l : List Instr),
      P s → P { s with now := n, free := f, pending := l })
    (hexec : ∀ s t : State, StaysBounded s t → P s → P t) {s t : State} (hs : P s) (h : step s = .next t) : P t := by
  unfold step at h
  split at h
  · exact hexec _ _ (StaysBounded.of_exec h) (hquiet s s.now s.free _ hs)
  · cases h
    obtain ⟨-, hidle⟩ | ⟨c, -, hidle⟩ := s.idle_cases
    · rw [hidle]
      exact hquiet s _ s.free s.pending hs
    · rw [hidle]
      exact hquiet s s.now _ _ hs

/-- Settles O2: every command answers a next state, keeps the queue, and turns no time back. -/
theorem commandsGoOnAndKeepTheQueue : Obligations.CommandsGoOnAndKeepTheQueue := by
  intro i s
  obtain ⟨t, ht, hb⟩ := exec_staysBounded s i
  exact ⟨t, ht, hb.pending, hb.now⟩

/-- Settles O3: every step keeps the capacities of the transmit queues. -/
theorem transmitQueuesStayBounded : Obligations.TransmitQueuesStayBounded := fun _ _ =>
  step_keeps_of_exec (P := fun s => s.trunk.bounded = true) (fun _ _ _ _ => id) fun _ _ h => h.trunk

/-- Settles O4: every step keeps the capacities of each link's queues. -/
theorem linkQueuesStayBounded : Obligations.LinkQueuesStayBounded := by
  have hiff : ∀ s : State, s.linksBounded = true ↔ ∀ p : Port, s.links[p].bounded = true := fun s => by
    simp [State.linksBounded, allPorts]
  intro s t
  rw [hiff, hiff]
  exact step_keeps_of_exec (P := fun s => ∀ p : Port, s.links[p].bounded = true) (fun _ _ _ _ => id)
    fun _ _ h hs p => h.links p (hs p)

/-- Settles O5: every step keeps the ranges of each berth record. -/
theorem berthRecordsStayInRange : Obligations.BerthRecordsStayInRange := by
  have hiff : ∀ s : State, s.berthsInRange = true ↔ ∀ p : Port, (s.berth p).inRange = true := fun s => by
    simp [State.berthsInRange, allPorts]
  intro s t
  rw [hiff, hiff]
  exact step_keeps_of_exec (P := fun s => ∀ p : Port, (s.berth p).inRange = true) (fun _ _ _ _ => id)
    fun _ _ h hs p => h.berths p (hs p)

/-- Settles O6: every step keeps the capacities of the Voice Arbiter's lists. -/
theorem voiceListsStayBounded : Obligations.VoiceListsStayBounded := fun _ _ =>
  step_keeps_of_exec (P := fun s => s.voice.bounded = true) (fun _ _ _ _ => id) fun _ _ h => h.voice

/-- Settles O8: no command but a start or the end of a load puts an earlier epoch in force. -/
theorem phaseEpochNeverGoesBack : Obligations.PhaseEpochNeverGoesBack := by
  intro i s t hpower hlow hhigh hend htimeout h
  have hstart : startsOrLoads i = false := by
    unfold startsOrLoads
    split <;> simp_all
  obtain ⟨u, hu, hk⟩ := exec_keeps s hstart
  rw [h] at hu
  cases hu
  exact hk.epoch

end Sys2Proof.Machine
end

section
/-! Bodies handed to class C one after the other (R164, R165, R167): what the trunk makes of the list, as the statements say it. -/

namespace Sys2Proof.Machine

/-- The trunk takes a packet handed over: it joins its queue, and a free transmitter takes the next. -/
def Trunk.fed (t : Trunk) (x : TxPacket) : Trunk := (t.enqueue x).1.take

/-- In RUNNING a hand-over feeds the trunk, and changes nothing else. -/
theorem State.handOver_of_running {s : State} (hrun : s.running = true) (b : Body) :
    s.handOver b = { s with trunk := s.trunk.fed (handedBy s s b) } :=
  congrArg Prod.fst (State.handOverTold_of_running hrun b)

section
variable {t : Trunk} {x : TxPacket}

/-- A class C packet with room joins what the trunk holds. -/
theorem Trunk.fed_classC_of_room (hx : accessClass x.packet.body = .c) (hroom : t.queueC.length < 32) :
    t.fed x = { t with queueC := t.queueC ++ [x] }.take := by
  rw [Trunk.fed, t.enqueue_classC hx, if_pos hroom]

/-- A class C packet with no room is refused and counted. -/
theorem Trunk.fed_classC_of_full (hx : accessClass x.packet.body = .c) (hfull : 32 ≤ t.queueC.length) :
    t.fed x = { t with refusalC := bump t.refusalC }.take := by
  rw [Trunk.fed, t.enqueue_classC hx, if_neg (Nat.not_lt.mpr hfull)]

/-- Taking a packet lengthens no queue. -/
theorem Trunk.take_queueC_length_le (t : Trunk) : t.take.queueC.length ≤ t.queueC.length := by
  unfold Trunk.take
  split
  · split <;> simp [*]
  · exact Nat.le_refl _

/-- One packet lengthens the class C queue by one at most. -/
theorem Trunk.fed_queueC_length_le (hx : accessClass x.packet.body = .c) (hroom : t.queueC.length < 32) :
    (t.fed x).queueC.length ≤ t.queueC.length + 1 := by
  rw [Trunk.fed_classC_of_room hx hroom]
  exact (Trunk.take_queueC_length_le _).trans_eq (by simp)

theorem Trunk.held_fed_classC (hx : accessClass x.packet.body = .c) (hroom : t.queueC.length < 32) :
    (t.fed x).held = t.held ++ [x] := by
  rw [Trunk.fed_classC_of_room hx hroom, Trunk.take_held]
  exact (List.append_assoc _ _ _).symm

/-- What feeds the trunk does not free a transmitter that takes none. -/
theorem Trunk.takesNone_fed (h : t.takesNone) : (t.fed x).takesNone ∧ t.fed x = (t.enqueue x).1 := by
  have hstill := (t.takesNone_enqueue_iff x).mpr h
  rw [Trunk.fed, Trunk.take_of_takesNone hstill]
  exact ⟨hstill, rfl⟩

end

/-- With room for all, the trunk holds all of them beside what it held. -/
theorem Trunk.held_foldl_fed (l : List TxPacket) (hl : ∀ x ∈ l, accessClass x.packet.body = .c) (t : Trunk)
    (hroom : l.length ≤ 32 - t.queueC.length) : (l.foldl Trunk.fed t).held = t.held ++ l := by
  induction l generalizing t with
  | nil => simp
  | cons x l ih =>
    have hx := hl x List.mem_cons_self
    rw [List.length_cons] at hroom
    have hlt : t.queueC.length < 32 := by omega
    have hlen := Trunk.fed_queueC_length_le hx hlt
    rw [List.foldl_cons, ih (fun y hy => hl y (List.mem_cons_of_mem x hy)) _ (by omega), Trunk.held_fed_classC hx hlt,
      List.append_assoc, List.singleton_append]

/-- While the transmitter takes none, those that there is room for join the tail, and each of the rest is refused and
counted. -/
theorem Trunk.foldl_fed_of_takesNone (l : List TxPacket) (hl : ∀ x ∈ l, accessClass x.packet.body = .c) (t : Trunk)
    (hnone : t.takesNone) :
    (l.foldl Trunk.fed t).queueC = t.queueC ++ l.take (32 - t.queueC.length) ∧
      (l.foldl Trunk.fed t).refusalC = bumpBy (l.length - (32 - t.queueC.length)) t.refusalC := by
  induction l generalizing t with
  | nil => simp
  | cons x l ih =>
    have hx := hl x List.mem_cons_self
    obtain ⟨hstill, hfed⟩ := Trunk.takesNone_fed (x := x) hnone
    obtain ⟨hqueue, hrefusal⟩ := ih (fun y hy => hl y (List.mem_cons_of_mem x hy)) _ hstill
    rw [List.foldl_cons, hqueue, hrefusal, hfed, t.enqueue_classC hx]
    split
    · next hroom =>
      obtain ⟨m, hm⟩ : ∃ m, 32 - t.queueC.length = m + 1 := ⟨31 - t.queueC.length, by omega⟩
      have hm' : 32 - (t.queueC ++ [x]).length = m := by rw [List.length_append, List.length_singleton]; omega
      simp only [hm, hm', List.take_succ_cons, List.length_cons]
      exact ⟨by simp, by rw [Nat.add_sub_add_right]⟩
    · next hfull =>
      have hm : 32 - t.queueC.length = 0 := by omega
      simp [hm, bumpBy_bump]

/-- Class C bodies that have fed the trunk one after the other. -/
theorem queuedInC_of_fed {s t : State} {l : List Body} (hl : ∀ b ∈ l, accessClass b = .c)
    (h : t.trunk = (l.map (handedBy s t)).foldl Trunk.fed s.trunk) : queuedInC s t l := by
  have hc : ∀ x ∈ l.map (handedBy s t), accessClass x.packet.body = .c := fun x hx => by
    obtain ⟨b, hb, rfl⟩ := List.mem_map.mp hx
    exact hl b hb
  refine ⟨fun hroom => ?_, fun hnone => ?_⟩
  · rw [h, Trunk.held_foldl_fed _ hc _ (by rwa [List.length_map])]
  · rw [h]
    have hqueued := Trunk.foldl_fed_of_takesNone _ hc _ hnone
    rwa [List.length_map] at hqueued

/-- A class C body that has fed the trunk. -/
theorem queuedC_of_fed {s t : State} {b : Body} (hb : accessClass b = .c) (h : t.trunk = s.trunk.fed (handedBy s t b)) :
    queuedC s t b := by
  have hx : accessClass (handedBy s t b).packet.body = .c := hb
  refine ⟨fun hroom => ⟨?_, fun hnone => ?_⟩, fun hfull => ?_⟩
  · rw [h, Trunk.held_fed_classC hx hroom]
  · rw [h, (Trunk.takesNone_fed hnone).2, Trunk.enqueue_classC _ hx, if_pos hroom]
  · rw [h, Trunk.fed_classC_of_full hx hfull]
    refine ⟨.of_eq (Trunk.take_held _), Trunk.take_refusalC _, fun hnone => ?_⟩
    rw [Trunk.take_of_takesNone (by exact hnone)]

end Sys2Proof.Machine
end

section
/-! The carry decision at each channel (R75, R76), the CARRY records about it (R77, R80 to R82) and the WANT records before it
(R72): O39. -/

namespace Sys2Proof.Machine

/-! ## What the decision reads, by channels -/

/-- The channels with demand that a decision reads. -/
def State.seekers (u : State) : List Chan := allChans.filter fun c => u.reads c && !(u.chan c).demand.isEmpty

/-- The channels without demand that sent. -/
def State.lingerers (u : State) : List Chan :=
  allChans.filter fun c => u.reads c && (u.chan c).demand.isEmpty && ((u.chan c).state == .carried || (u.chan c).state == .linger)

section
variable (u : State)

theorem State.wanted_standings : wanted u.standings = u.seekers.map u.standing := by
  rw [wanted, State.standings_eq, List.filter_map, List.filter_filter, State.seekers]
  congr 1
  refine List.filter_congr fun c _ => ?_
  cases hd : (u.chan c).demand <;> simp [State.standing, hd]

theorem State.lingering_standings : lingering u.standings = u.lingerers.map u.standing := by
  rw [lingering, State.standings_eq, List.filter_map, List.filter_filter, State.lingerers]
  congr 1
  refine List.filter_congr fun c _ => ?_
  rw [Bool.eq_iff_iff]
  cases hd : (u.chan c).demand <;> cases hs : (u.chan c).state <;> simp [State.standing, hd, hs]

/-- How many lingering channels the decision stops. -/
def State.stops : Nat := min u.lingerers.length (u.seekers.length + u.lingerers.length - u.image.carryBudget)

/-- How many candidates it has room for. -/
def State.room : Nat := u.image.carryBudget - (u.lingerers.length - u.stops)

theorem State.stopCount_standings : stopCount u.image.carryBudget u.standings = u.stops := by
  rw [stopCount, u.wanted_standings, u.lingering_standings, List.length_map, List.length_map]
  rfl

theorem State.roomLeft_standings : roomLeft u.image.carryBudget u.standings = u.room := by
  rw [roomLeft, u.stopCount_standings, u.lingering_standings, List.length_map]
  rfl

/-- Standings counted are channels counted. -/
theorem length_filter_map_standing (l : List Chan) (f : Standing → Bool) :
    ((l.map u.standing).filter f).length = (l.filter fun d => f (u.standing d)).length := by
  rw [List.filter_map, List.length_map]
  rfl

end

/-! ## What the decision leaves at a channel -/

section
variable {u : State} {c : Chan}

/-- The frame of a decision at any channel. -/
theorem State.decided_chan_frame (u : State) (c : Chan) : ∃ st le trim mode window, u.decided.chan c =
    { u.chan c with state := st, lingerEnd := le, trim := trim, mode := mode, window := window } := by
  cases hreads : u.reads c with
  | false => exact ⟨_, _, _, _, _, State.decided_chan_of_not_reads hreads⟩
  | true =>
    obtain ⟨o, ho, rfl⟩ := State.order_of_reads u.image.carryBudget hreads
    obtain ⟨trim, mode, window, h⟩ := (u.chan o.chan).assign_frame (u.chanConfig o.chan) o.state o.lingerEnd
    exact ⟨_, _, _, _, _, (State.decided_chan_of_order ho).trans h⟩

theorem State.decided_demand (u : State) (c : Chan) : (u.decided.chan c).demand = (u.chan c).demand := by
  obtain ⟨_, _, _, _, _, h⟩ := u.decided_chan_frame c
  rw [h]

/-- A channel that an order makes send keeps its level window, trim and mode; another that is read has no window left. -/
theorem State.decided_window (hreads : u.reads c = true) :
    ((u.decided.chan c).carried = true → (u.decided.chan c).window = (u.chan c).window ∧
      (u.decided.chan c).trim = (u.chan c).trim ∧ (u.decided.chan c).mode = (u.chan c).mode) ∧
    ((u.decided.chan c).carried = false → (u.decided.chan c).window = none) := by
  obtain ⟨o, ho, rfl⟩ := State.order_of_reads u.image.carryBudget hreads
  rw [State.decided_chan_of_order ho]
  cases hs : sends o.state with
  | true =>
    rw [Channel.assign_of_sends _ _ hs]
    exact ⟨fun _ => ⟨rfl, rfl, rfl⟩, fun h => absurd (hs.symm.trans h) (by decide)⟩
  | false =>
    obtain ⟨_, _, h⟩ := (u.chan o.chan).assign_of_not_sends (u.chanConfig o.chan) hs o.lingerEnd
    rw [h]
    exact ⟨fun h' => absurd (hs.symm.trans h') (by decide), fun _ => rfl⟩

/-- A channel with an order has its state and linger end. -/
theorem State.decided_of_order {o : Order} (ho : o ∈ u.carryOrders) :
    (u.decided.chan o.chan).state = o.state ∧ (u.decided.chan o.chan).lingerEnd = o.lingerEnd := by
  obtain ⟨_, _, _, h⟩ := (u.chan o.chan).assign_frame (u.chanConfig o.chan) o.state o.lingerEnd
  rw [State.decided_chan_of_order ho, h]
  exact ⟨rfl, rfl⟩

/-- Of the standing, the parts that do not depend on lingering. -/
theorem State.standing_demand_eq_zero (u : State) (c : Chan) :
    (u.standing c).demand = 0 ↔ (u.chan c).demand.isEmpty = true := by
  simp [State.standing, List.isEmpty_iff]

/-- A candidate is CARRIED within the room and REFUSED below it. -/
theorem State.decided_of_seeker (hapart : u.image.feedsApart = true) (hc : c ∈ u.seekers) :
    (u.decided.chan c).lingerEnd = none ∧ (u.decided.chan c).state =
      if (u.seekers.filter fun d => ranksBefore (u.standing d) (u.standing c)).length < u.room then .carried else .refused := by
  obtain ⟨-, hc⟩ := List.mem_filter.mp hc
  obtain ⟨hreads, hd⟩ := (Bool.and_eq_true _ _).mp hc
  have hpos : 0 < (u.standing c).demand := Nat.pos_of_ne_zero fun h => by
    rw [(u.standing_demand_eq_zero c).mp h] at hd
    cases hd
  have ho := order_of_wanted u.image.carryBudget (State.standings_programsApart hapart) (State.standing_mem hreads) hpos
  rw [u.wanted_standings, length_filter_map_standing, u.roomLeft_standings] at ho
  exact (State.decided_of_order ho).symm

/-- A lingering channel is stopped when it is among the first to stop, and lingers on otherwise. -/
theorem State.decided_of_lingerer (hapart : u.image.feedsApart = true) (hc : c ∈ u.lingerers) :
    let stops := (u.lingerers.filter fun d => stopsBefore (u.standing d) (u.standing c)).length < u.stops
    (stops → (u.decided.chan c).state = .idle ∧ (u.decided.chan c).lingerEnd = none) ∧
    (¬stops → (u.decided.chan c).state = .linger ∧ (u.decided.chan c).lingerEnd =
      if (u.chan c).state = .carried then some (u.now + ms 2000) else (u.chan c).lingerEnd) := by
  obtain ⟨-, hc⟩ := List.mem_filter.mp hc
  simp only [Bool.and_eq_true, Bool.or_eq_true, beq_iff_eq] at hc
  obtain ⟨⟨hreads, hd⟩, hs⟩ := hc
  have hlinger : (u.standing c).state = .linger := by
    obtain hs | hs := hs <;> simp [State.standing, hs, hd]
  have hend : (u.standing c).lingerEnd = if (u.chan c).state = .carried then some (u.now + ms 2000) else (u.chan c).lingerEnd := by
    simp [State.standing, hd]
  have ho : (if ((lingering u.standings).filter fun y => stopsBefore y (u.standing c)).length <
      stopCount u.image.carryBudget u.standings then ⟨c, .idle, none⟩ else ⟨c, .linger, (u.standing c).lingerEnd⟩ : Order) ∈
      u.carryOrders :=
    order_of_lingering u.image.carryBudget (State.standings_programsApart hapart) (State.standing_mem hreads)
      ((u.standing_demand_eq_zero c).mpr hd) hlinger
  rw [u.lingering_standings, length_filter_map_standing, u.stopCount_standings] at ho
  refine ⟨fun h => ?_, fun h => ?_⟩
  · rw [if_pos h] at ho
    exact State.decided_of_order ho
  · rw [if_neg h, hend] at ho
    have hobeyed := State.decided_of_order ho
    exact hobeyed

/-- Any other channel that is read is IDLE. -/
theorem State.decided_of_idler (hreads : u.reads c = true) (hs : c ∉ u.seekers) (hl : c ∉ u.lingerers) :
    (u.decided.chan c).state = .idle ∧ (u.decided.chan c).lingerEnd = none := by
  have hd : (u.chan c).demand.isEmpty = true := by
    by_contra hd
    exact hs (List.mem_filter.mpr ⟨List.mem_finRange c, by simp [hreads, hd]⟩)
  have hne : (u.standing c).state ≠ .linger := fun h => hl (List.mem_filter.mpr ⟨List.mem_finRange c, by
    cases hst : (u.chan c).state <;> simp_all [State.standing]⟩)
  exact State.decided_of_order (order_of_unwanted u.image.carryBudget (State.standing_mem hreads)
    ((u.standing_demand_eq_zero c).mpr hd) hne)

end

/-! ## The decision as the statements say it -/

/-- What an event has done to a channel by the time the decision runs: its buffers and sequences stand, and its linger end and
level window too, unless the event stopped it and left it no demand. -/
def Channel.readied (x y : Channel) : Prop :=
  (y.filling = x.filling ∧ y.ready = x.ready ∧ y.audioSeq = x.audioSeq ∧ y.videoSeq = x.videoSeq) ∧
    ((y.lingerEnd = x.lingerEnd ∧ y.window = x.window ∧ y.trim = x.trim ∧ y.mode = x.mode) ∨
      (y.demand = [] ∧ sends y.state = false ∧ y.state ≠ x.state))

/-- A channel that an event leaves but for its demand set, or for its state and shadow end. -/
theorem Channel.readied_of_eq {x y : Channel} (h : y = { x with demand := y.demand, state := y.state, shadowEnd := y.shadowEnd }) :
    x.readied y := by
  rw [h]
  exact ⟨⟨rfl, rfl, rfl, rfl⟩, .inl ⟨rfl, rfl, rfl, rfl⟩⟩

/-- In RUNNING, the decision on a state that an event made of another. -/
theorem carryDecided_of_decided {s u t : State} (himage : u.image = s.image) (hapart : s.image.feedsApart = true)
    (hready : ∀ c, (s.chan c).readied (u.chan c)) (hchan : ∀ c, t.chan c = u.decided.chan c) (hnow : t.now = u.now) :
    carryDecided s t fun c => (u.chan c).state := by
  have hdemand : ∀ c, (t.chan c).demand = (u.chan c).demand := fun c => by rw [hchan, u.decided_demand]
  have hreads : ∀ c, (s.inUse c && (u.chan c).state != .shadowed) = u.reads c := fun c => by
    rw [State.reads, State.inUse, State.inUse, himage]
  have hprogram : ∀ c, s.chanProgram c = u.chanProgram c := fun c => by rw [State.chanProgram, State.chanProgram, himage]
  have hkept : ∀ c, sends (u.chan c).state = true → (u.chan c).lingerEnd = (s.chan c).lingerEnd := fun c hs => by
    obtain ⟨-, h | h⟩ := hready c
    · exact h.1
    · exact absurd (h.2.1.symm.trans hs) (by decide)
  have hends : ∀ c ∈ u.lingerers, (u.standing c).stopsAt =
      (if (u.chan c).state = .carried then some (t.now + ms 2000) else (s.chan c).lingerEnd).getD 0 := fun c hc => by
    obtain ⟨-, hc⟩ := List.mem_filter.mp hc
    simp only [Bool.and_eq_true] at hc
    obtain ⟨⟨-, hd⟩, hs⟩ := hc
    simp [Standing.stopsAt, State.standing, hd, hnow, hkept c hs]
  have hapart' : u.image.feedsApart = true := himage ▸ hapart
  unfold carryDecided
  simp only [hdemand, hreads, ← himage]
  change ∀ c, (c ∈ u.seekers → _) ∧ (c ∈ u.lingerers → _) ∧ (u.reads c = true → c ∉ u.seekers → c ∉ u.lingerers → _) ∧ _
  intro c
  rw [hchan c]
  refine ⟨fun hc => ?seeker, fun hc => ?lingerer, State.decided_of_idler, fun hc => ?unread, fun hc => ?sending, fun hc => ?stopped, ?frame⟩
  case seeker =>
    obtain ⟨hend, hstate⟩ := State.decided_of_seeker hapart' hc
    refine ⟨hend, hstate.trans (ite_congr (congrArg (· < u.room) (congrArg List.length ?_)) (fun _ => rfl) fun _ => rfl)⟩
    refine List.filter_congr fun d hd => ?_
    have hsame : ∀ e ∈ u.seekers, (u.standing e).state = (u.chan e).state := fun e he => by
      obtain ⟨-, he⟩ := List.mem_filter.mp he
      have := ((Bool.and_eq_true _ _).mp he).2
      simp_all [State.standing]
    simp only [ranksBefore, Standing.incumbent, hsame c hc, hsame d hd, hprogram]
    rfl
  case lingerer =>
    obtain ⟨hstops, hlingers⟩ := State.decided_of_lingerer hapart' hc
    have hcount : (u.lingerers.filter fun d => stopsBefore (u.standing d) (u.standing c)) =
        u.lingerers.filter fun d => decide
          (((if (u.chan d).state = .carried then some (t.now + ms 2000) else (s.chan d).lingerEnd).getD 0 <
              (if (u.chan c).state = .carried then some (t.now + ms 2000) else (s.chan c).lingerEnd).getD 0) ∨
            ((if (u.chan d).state = .carried then some (t.now + ms 2000) else (s.chan d).lingerEnd).getD 0 =
              (if (u.chan c).state = .carried then some (t.now + ms 2000) else (s.chan c).lingerEnd).getD 0 ∧
              s.chanProgram c < s.chanProgram d)) := by
      refine List.filter_congr fun d hd => ?_
      rw [Bool.eq_iff_iff, stopsBefore_iff, hends d hd, hends c hc, decide_eq_true_iff, hprogram, hprogram]
      rfl
    rw [hcount] at hstops hlingers
    refine ⟨hstops, fun h => ?_⟩
    obtain ⟨hstate, hend⟩ := hlingers h
    obtain ⟨-, hc⟩ := List.mem_filter.mp hc
    rw [hend, hnow, hkept c ((Bool.and_eq_true _ _).mp hc).2]
    exact ⟨hstate, rfl⟩
  case unread =>
    rw [State.decided_chan_of_not_reads hc]
    refine ⟨rfl, fun hwas => ?_⟩
    obtain ⟨-, h | h⟩ := hready c
    · exact h.1
    · exact absurd hwas h.2.2
  case sending =>
    have hwindow : (u.decided.chan c).window = (u.chan c).window ∧ (u.decided.chan c).trim = (u.chan c).trim ∧
        (u.decided.chan c).mode = (u.chan c).mode := by
      cases hr : u.reads c with
      | true => exact (State.decided_window hr).1 hc
      | false => rw [State.decided_chan_of_not_reads hr]; exact ⟨rfl, rfl, rfl⟩
    obtain ⟨-, ⟨-, hw, ht, hm⟩ | ⟨hd, hs, -⟩⟩ := hready c
    · rw [hwindow.1, hwindow.2.1, hwindow.2.2, hw, ht, hm]
      exact ⟨rfl, rfl, rfl⟩
    · exact absurd hc (by
        rw [Channel.carried_eq]
        cases hr : u.reads c with
        | true =>
          have hidle := State.decided_of_idler hr (fun h => by simp [State.seekers, hd] at h) fun h => by
            obtain ⟨-, h⟩ := List.mem_filter.mp h
            exact absurd (hs.symm.trans ((Bool.and_eq_true _ _).mp h).2) (by decide)
          rw [hidle.1]
          decide
        | false =>
          rw [State.decided_chan_of_not_reads hr, hs]
          decide)
  case stopped => exact (State.decided_window hc).2
  case frame =>
    obtain ⟨⟨hf, hr, ha, hv⟩, -⟩ := hready c
    obtain ⟨_, _, _, _, _, h⟩ := u.decided_chan_frame c
    rw [h]
    exact ⟨hf, hr, ha, hv⟩

end Sys2Proof.Machine
end

section
/-! The CARRY records that events and carry decisions have sent (R77, R80 to R82), and the WANT records (R72): O39. -/

namespace Sys2Proof.Machine

/-! ## CARRY records -/

/-- In RUNNING a CARRY record feeds the trunk, and its period starts (R79, R80). -/
theorem State.sendCarry_of_running {s : State} (hrun : s.running = true) : s.sendCarry =
    { s with trunk := s.trunk.fed (handedBy s s (.carry s.carryList)),
             carry := { s.carry with carryDue := if s.carryList = [] then none else some (s.now + ms 250) } } := by
  rw [State.sendCarry, if_pos hrun, State.handOver_of_running hrun]

theorem State.sendCarry_chan {s : State} (hrun : s.running = true) (c : Chan) : s.sendCarry.chan c = s.chan c := by
  rw [State.sendCarry_of_running hrun]
  rfl

/-- The list depends on the image and the channels' states alone. -/
theorem State.carryList_congr {s t : State} (himage : t.image = s.image) (h : ∀ c, (t.chan c).state = (s.chan c).state) :
    t.carryList = s.carryList :=
  List.filterMap_congr fun c _ => by
    simp only [State.listed, State.inUse, State.chanProgram, himage, h]
    rfl

/-- The list, as the statements write it. -/
theorem State.carryList_eq {s u : State} (himage : u.image = s.image) :
    ((List.finRange 8).filterMap fun c =>
      if s.image.channels[c].program = 0 then none
      else match (u.chan c).state with
        | .idle => some { program := s.image.channels[c].program, kind := s.image.channels[c].kind, status := .idle }
        | .carried => some { program := s.image.channels[c].program, kind := s.image.channels[c].kind, status := .carried }
        | .linger => some { program := s.image.channels[c].program, kind := s.image.channels[c].kind, status := .carried }
        | .refused => some { program := s.image.channels[c].program, kind := s.image.channels[c].kind, status := .refused }
        | .unused => none
        | .shadowed => none) = u.carryList := by
  refine List.filterMap_congr fun c _ => ?_
  simp only [State.listed, State.inUse, State.chanProgram, himage]
  by_cases hp : s.image.channels[c].program = 0
  · rw [if_pos hp, if_neg (by simp only [hp, bne_self_eq_false, Bool.false_eq_true, not_false_eq_true])]
    rfl
  · rw [if_neg hp, if_pos (by simp only [bne_iff_ne, ne_eq, hp, not_false_eq_true])]
    cases (u.chan c).state <;> rfl

/-- A decision changes the channels alone. -/
theorem State.decided_carry (s : State) : s.decided.carry = { s.carry with channels := s.decided.carry.channels } := by
  rw [State.decided, State.applyDecision_eq]
  have key : ∀ (l : List Order) (u : State), (l.foldl (fun u o => u.obey s.image o) u).carry =
      { u.carry with channels := (l.foldl (fun u o => u.obey s.image o) u).carry.channels } := by
    intro l
    induction l with
    | nil => exact fun _ => rfl
    | cons o l ih =>
      intro u
      rw [List.foldl_cons, ih]
      rfl
  exact key _ s

/-! ## The decision in RUNNING -/

section
variable {u : State} (hrun : u.running = true)
include hrun

theorem State.decided_running : u.decided.running = true := by
  rw [State.running, u.decided_only.startup rfl]
  exact hrun

/-- In RUNNING the decision is carried out, and a record follows when a listed status changes. -/
theorem State.carryDecision_of_running : u.carryDecision =
    if u.decided.carryList = u.carryList then u.decided else u.decided.sendCarry := if_pos hrun

theorem State.carryDecision_chan (c : Chan) : u.carryDecision.chan c = u.decided.chan c := by
  rw [State.carryDecision_of_running hrun]
  split
  · rfl
  · rw [State.sendCarry_of_running (State.decided_running hrun)]
    rfl

omit hrun in
theorem State.carryDecision_image : u.carryDecision.image = u.image :=
  congrArg Startup.image (u.carryDecision_only.startup rfl)

theorem State.carryDecision_carryList : u.carryDecision.carryList = u.decided.carryList :=
  State.carryList_congr (State.carryDecision_image.trans u.decided_image.symm) fun c => by
    rw [State.carryDecision_chan hrun]

/-- The decision leaves the node within the carry budget. -/
theorem State.carryDecision_within : u.carryDecision.sendingChannels.length ≤ u.image.carryBudget := by
  have h : u.carryDecision.sendingChannels = u.decided.sendingChannels := by
    simp only [State.sendingChannels, State.inUse, State.carryDecision_chan hrun, State.carryDecision_image, u.decided_image]
  rw [h]
  exact u.decided_sendingChannels_length_le

theorem State.carryDecision_demand (c : Chan) : (u.carryDecision.chan c).demand = (u.chan c).demand := by
  rw [State.carryDecision_chan hrun, State.decided_demand]

/-- A decision that changes a listed status feeds the trunk one record of the new list. -/
theorem State.carryDecision_of_changed (h : u.carryDecision.carryList ≠ u.carryList) :
    u.carryDecision.trunk = u.trunk.fed (handedBy u u.carryDecision (.carry u.carryDecision.carryList)) ∧
      u.carryDecision.carry.carryDue =
        if u.carryDecision.carryList = [] then none else some (u.carryDecision.now + ms 250) := by
  have hnow : u.carryDecision.now = u.now := u.carryDecision_only.now rfl
  rw [State.carryDecision_carryList hrun] at h ⊢
  rw [handedBy, hnow, State.carryDecision_of_running hrun, if_neg h, State.sendCarry_of_running (State.decided_running hrun),
    handedBy]
  simp only [u.decided_only.trunk rfl, u.decided_only.startup rfl, u.decided_only.now rfl, and_self]

/-- A decision that changes none sends no record. -/
theorem State.carryDecision_of_unchanged (h : u.carryDecision.carryList = u.carryList) :
    u.carryDecision.trunk = u.trunk ∧ u.carryDecision.carry.carryDue = u.carry.carryDue := by
  rw [State.carryDecision_carryList hrun] at h
  rw [State.carryDecision_of_running hrun, if_pos h, u.decided_carry, u.decided_only.trunk rfl]
  exact ⟨rfl, rfl⟩

/-- One record at most, as the statements say it. -/
theorem State.statusRecordSent_carryDecision : statusRecordSent u u.carryDecision := by
  refine ⟨fun h => ?_, fun h => ?_⟩
  · obtain ⟨htrunk, hdue⟩ := State.carryDecision_of_changed hrun h
    exact ⟨queuedC_of_fed rfl htrunk, hdue⟩
  · obtain ⟨htrunk, hdue⟩ := State.carryDecision_of_unchanged hrun h
    exact ⟨by rw [htrunk], by rw [htrunk], hdue⟩

/-- A record, the decision, and one more record when it changes a listed status. -/
theorem State.recordThenDecision_sendCarry {s : State} (hstation : u.startup = s.startup) (htrunk : u.trunk = s.trunk)
    (hready : ∀ c, (s.chan c).readied (u.chan c)) :
    recordThenDecision s u.sendCarry.carryDecision fun c => (u.chan c).state := by
  have himage : u.image = s.image := congrArg Startup.image hstation
  have hsend := State.sendCarry_of_running hrun
  have hrun' : u.sendCarry.running = true := by rw [hsend]; exact hrun
  have hlist : u.sendCarry.carryList = u.carryList := by rw [hsend]; rfl
  have hchan : ∀ c, u.sendCarry.chan c = u.chan c := State.sendCarry_chan hrun
  have htrunk' : u.sendCarry.trunk = s.trunk.fed (handedBy u u (.carry u.carryList)) := by rw [hsend, ← htrunk]
  have hnow : u.sendCarry.carryDecision.now = u.now :=
    (u.sendCarry.carryDecision_only.now rfl).trans (by rw [hsend])
  have hstart : u.sendCarry.startup = s.startup := by rw [hsend, ← hstation]
  have hhanded : ∀ b, handedBy u u b = handedBy s u.sendCarry.carryDecision b := fun b => by
    rw [handedBy, handedBy, hnow, hstation]
  unfold recordThenDecision
  dsimp only
  generalize hlist' : List.filterMap (_ : Chan → Option CarryEntry) (List.finRange 8) = listed
  obtain rfl : u.carryList = listed := (State.carryList_eq himage).symm.trans hlist'
  refine ⟨queuedInC_of_fed ?_ ?_, ?_, fun hapart => ?_⟩
  · intro b hb
    split at hb <;> simp at hb
    · rw [hb]; rfl
    · obtain rfl | rfl := hb <;> rfl
  · split
    · next h =>
      rw [(State.carryDecision_of_unchanged hrun' (h.trans hlist.symm)).1, htrunk', hhanded]
      rfl
    · next h =>
      rw [(State.carryDecision_of_changed hrun' (hlist ▸ h)).1, htrunk', hhanded]
      simp only [List.map_cons, List.map_nil, List.foldl_cons, List.foldl_nil]
      congr 1
      rw [handedBy, handedBy, hstart]
  · by_cases h : u.sendCarry.carryDecision.carryList = u.carryList
    · rw [(State.carryDecision_of_unchanged hrun' (h.trans hlist.symm)).2, h, hnow, hsend]
    · exact (State.carryDecision_of_changed hrun' (hlist ▸ h)).2
  · have hdecided := carryDecided_of_decided (s := s) (u := u.sendCarry) (t := u.sendCarry.carryDecision)
      (congrArg Startup.image hstart) hapart (fun c => (hchan c).symm ▸ hready c) (State.carryDecision_chan hrun')
      (u.sendCarry.carryDecision_only.now rfl)
    simpa only [hchan] using hdecided

end

/-! ## WANT records at the demand sets -/

/-- A filter that passes the inserted member and no other. -/
theorem filter_insertBefore_of_only {α : Type} (b : α → α → Bool) (f : α → Bool) (x : α) (l : List α) (hx : f x = true)
    (hl : ∀ y ∈ l, f y = false) : (insertBefore b x l).filter f = [x] := by
  induction l with
  | nil => simp [insertBefore, hx]
  | cons y ys ih =>
    have hy := hl y List.mem_cons_self
    have hys : ∀ z ∈ ys, f z = false := fun z hz => hl z (List.mem_cons_of_mem y hz)
    unfold insertBefore
    split
    · have hnone : ys.filter f = [] := List.filter_eq_nil_iff.mpr fun z hz => by simp [hys z hz]
      rw [List.filter_cons_of_pos hx, List.filter_cons_of_neg (by simp [hy]), hnone]
    · rw [List.filter_cons, hy]
      exact ih hys

/-- A filter that does not pass the inserted member. -/
theorem filter_insertBefore_of_not {α : Type} (b : α → α → Bool) (f : α → Bool) (x : α) (l : List α) (hx : f x = false) :
    (insertBefore b x l).filter f = l.filter f := by
  induction l with
  | nil => simp [insertBefore, hx]
  | cons y ys ih =>
    unfold insertBefore
    split
    · simp [List.filter_cons, hx]
    · simp only [List.filter_cons, ih]

section
variable (x : Channel) (station : Nat) (expiry : Time)

theorem Channel.addDemand_own : (x.addDemand station expiry).demand.filter (fun d => d.1 == station) = [(station, expiry)] :=
  filter_insertBefore_of_only _ _ _ _ (beq_self_eq_true _) fun y hy => by simpa using (List.mem_filter.mp hy).2

theorem Channel.addDemand_others : ((x.addDemand station expiry).demand.filter fun d => d.1 ≠ station) =
    x.demand.filter fun d => d.1 ≠ station := by
  rw [Channel.addDemand, filter_insertBefore_of_not _ _ _ _ (by simp), List.filter_filter]
  simp

theorem Channel.dropDemand_own : (x.dropDemand station).demand.filter (fun d => d.1 == station) = [] := by
  simp [Channel.dropDemand, List.filter_filter, List.filter_eq_nil_iff]

theorem Channel.dropDemand_others : ((x.dropDemand station).demand.filter fun d => d.1 ≠ station) =
    x.demand.filter fun d => d.1 ≠ station := by
  simp [Channel.dropDemand, List.filter_filter]

/-- Whether a station is in a set, by the entries of that station. -/
theorem Channel.wantedBy_eq (y : Channel) (o : Nat) : y.wantedBy o = !(y.demand.filter fun d => d.1 == o).isEmpty := by
  rw [Channel.wantedBy, Bool.eq_iff_iff]
  simp [List.filter_eq_nil_iff]

/-- Sets with the same entries of the other stations hold the same other stations. -/
theorem Channel.wantedBy_congr {y : Channel} {o : Nat} (ho : o ≠ station)
    (h : (y.demand.filter fun d => d.1 ≠ station) = x.demand.filter fun d => d.1 ≠ station) : y.wantedBy o = x.wantedBy o := by
  have hkeep : ∀ z : Channel, (z.demand.filter fun d => d.1 == o) =
      (z.demand.filter fun d => d.1 ≠ station).filter fun d => d.1 == o := fun z => by
    rw [List.filter_filter]
    refine List.filter_congr fun d _ => ?_
    by_cases hd : d.1 = o <;> simp [hd, ho]
  rw [Channel.wantedBy_eq, Channel.wantedBy_eq, hkeep y, hkeep x, h]

end

/-- What a WANT record makes of one channel. -/
def State.wanting (s : State) (station : Nat) (programs : List Nat) (c : Chan) : Channel :=
  if s.reads c then
    if s.chanProgram c ∈ programs then (s.chan c).addDemand station (s.now + ms 350) else (s.chan c).dropDemand station
  else s.chan c

/-- One channel's turn changes that channel alone. -/
theorem State.wantAt_chan (s : State) (station : Nat) (programs : List Nat) (c d : Chan) :
    (s.wantAt station programs c).chan d = if d = c then s.wanting station programs c else s.chan d := by
  unfold State.wantAt State.wanting State.reads
  split
  · split <;> rw [State.modChan_get]
  · split
    · next h => rw [h]
    · rfl

/-- The turns of several channels. -/
theorem State.foldl_wantAt_chan (station : Nat) (programs : List Nat) (l : List Chan) (hl : l.Nodup) (s : State) (d : Chan) :
    (l.foldl (fun t c => t.wantAt station programs c) s).chan d =
      if d ∈ l then s.wanting station programs d else s.chan d := by
  induction l generalizing s with
  | nil => rfl
  | cons c l ih =>
    rw [List.nodup_cons] at hl
    obtain ⟨hc, hl⟩ := hl
    have honly := s.wantAt_only station programs c
    rw [List.foldl_cons, ih hl]
    by_cases hd : d ∈ l
    · have hne : d ≠ c := fun e => hc (e ▸ hd)
      rw [if_pos hd, if_pos (List.mem_cons_of_mem c hd)]
      simp only [State.wanting, State.reads, State.inUse, State.chanProgram, State.image, honly.startup rfl, honly.now rfl,
        State.wantAt_chan, if_neg hne]
      rfl
    · rw [if_neg hd, State.wantAt_chan]
      by_cases he : d = c
      · rw [if_pos he, if_pos (he ▸ List.mem_cons_self), he]
      · rw [if_neg he, if_neg (by simp [he, hd])]

/-- The sets once a WANT record is taken. -/
def State.wanted (s : State) (station : Nat) (programs : List Nat) : State :=
  allChans.foldl (fun t c => t.wantAt station programs c) s

theorem State.wanted_chan (s : State) (station : Nat) (programs : List Nat) (c : Chan) :
    (s.wanted station programs).chan c = s.wanting station programs c := by
  rw [State.wanted, allChans, State.foldl_wantAt_chan _ _ _ (List.nodup_finRange 8), if_pos (List.mem_finRange c)]

/-- A turn changes the channels alone. -/
theorem State.wantAt_only_channels (s : State) (station : Nat) (programs : List Nat) (c : Chan) :
    Only { carry := true } s (s.wantAt station programs c) ∧ (s.wantAt station programs c).carry.carryDue = s.carry.carryDue := by
  unfold State.wantAt
  split
  · split
    · exact ⟨s.modChan_only c _, rfl⟩
    · exact ⟨s.modChan_only c _, rfl⟩
  · exact ⟨.refl _ _, rfl⟩

theorem State.wanted_only (s : State) (station : Nat) (programs : List Nat) : Only { carry := true } s (s.wanted station programs) :=
  .foldl (fun t c => (t.wantAt_only_channels station programs c).1) _ s

theorem State.wanted_carryDue (s : State) (station : Nat) (programs : List Nat) :
    (s.wanted station programs).carry.carryDue = s.carry.carryDue := by
  have key : ∀ (l : List Chan) (u : State),
      (l.foldl (fun t c => t.wantAt station programs c) u).carry.carryDue = u.carry.carryDue := by
    intro l
    induction l with
    | nil => exact fun _ => rfl
    | cons c l ih => exact fun u => (ih _).trans (u.wantAt_only_channels station programs c).2
  rw [State.wanted]
  exact key allChans s

/-- A WANT record changes the demand sets alone. -/
theorem State.wanting_frame (s : State) (station : Nat) (programs : List Nat) (c : Chan) :
    s.wanting station programs c = { s.chan c with demand := (s.wanting station programs c).demand } := by
  unfold State.wanting
  split
  · split <;> rfl
  · rfl

/-- A set changes when the station joins or leaves it. -/
theorem State.wanting_wantedBy (s : State) (station : Nat) (programs : List Nat) {c : Chan} (h : s.reads c = true) :
    (s.wanting station programs c).wantedBy station = decide (s.chanProgram c ∈ programs) := by
  rw [State.wanting, if_pos h, Channel.wantedBy_eq]
  split
  · next hp => rw [Channel.addDemand_own]; simp [hp]
  · next hp => rw [Channel.dropDemand_own]; simp [hp]

/-- In RUNNING a WANT record is taken whole, and the decision runs when a set changes (R72). -/
theorem State.takeWant_of_running {s : State} (hrun : s.running = true) (station : Nat) (programs : List Nat) :
    s.takeWant station programs =
      if ∃ c : Chan, s.reads c = true ∧ (s.chan c).wantedBy station ≠ decide (s.chanProgram c ∈ programs)
      then (s.wanted station programs).carryDecision else s.wanted station programs := by
  rw [State.takeWant, if_pos hrun]
  refine ite_congr (propext ?_) (fun _ => rfl) fun _ => rfl
  change allChans.any (fun c => ((s.wanted station programs).chan c).wantedBy station != (s.chan c).wantedBy station) = true ↔ _
  simp only [List.any_eq_true, bne_iff_ne, State.wanted_chan]
  refine ⟨fun ⟨c, _, hc⟩ => ?_, fun ⟨c, hr, hc⟩ => ⟨c, List.mem_finRange c, ?_⟩⟩
  · cases hr : s.reads c with
    | true => exact ⟨c, hr, fun h => hc (by rw [s.wanting_wantedBy station programs hr, h])⟩
    | false => exact absurd (by rw [State.wanting, if_neg (by simp [hr])]) hc
  · rw [s.wanting_wantedBy station programs hr]
    exact hc.symm

end Sys2Proof.Machine
end

section
/-! The carry budget (O39): no step breaks it, and each event after which the carry decision runs keeps the node within it. -/

namespace Sys2Proof.Machine

/-- No order shadows a channel. -/
theorem order_state_ne_shadowed {b : Nat} {l : List Standing} {o : Order} (h : o ∈ (decideCarry b l).orders) :
    o.state ≠ .shadowed := by
  simp only [Decided.orders, List.mem_append, List.mem_map] at h
  obtain ((⟨_, _, rfl⟩ | ⟨_, _, rfl⟩) | ⟨_, _, rfl⟩) | ⟨_, _, rfl⟩ := h <;> nofun

/-- A decision leaves a channel that is not SHADOWED so, with its shadow end. -/
theorem State.decided_ne_shadowed {u : State} {c : Chan} (h : (u.chan c).state ≠ .shadowed) :
    (u.decided.chan c).state ≠ .shadowed := by
  cases hreads : u.reads c with
  | false =>
    rw [State.decided_chan_of_not_reads hreads]
    exact h
  | true =>
    obtain ⟨o, ho, rfl⟩ := State.order_of_reads u.image.carryBudget hreads
    rw [(State.decided_of_order ho).1]
    exact order_state_ne_shadowed ho

theorem State.decided_shadowEnd (u : State) (c : Chan) : (u.decided.chan c).shadowEnd = (u.chan c).shadowEnd := by
  obtain ⟨_, _, _, _, _, h⟩ := u.decided_chan_frame c
  rw [h]

/-- An IDLE channel without demand stays so. -/
theorem State.decided_of_idle {u : State} {c : Chan} (hstate : (u.chan c).state = .idle) (hend : (u.chan c).lingerEnd = none)
    (hdemand : (u.chan c).demand = []) : (u.decided.chan c).state = .idle ∧ (u.decided.chan c).lingerEnd = none := by
  cases hreads : u.reads c with
  | false =>
    rw [State.decided_chan_of_not_reads hreads]
    exact ⟨hstate, hend⟩
  | true =>
    refine State.decided_of_idler hreads (fun h => ?_) fun h => ?_
    · simpa [hdemand] using (List.mem_filter.mp h).2
    · simpa [hstate] using (List.mem_filter.mp h).2

/-! ## After one channel's change -/

section
variable {s : State} (hrun : s.running = true) (t0 : Time) (c : Chan) (f : Channel → Channel)

/-- A change of one channel at a time. -/
def State.changed (s : State) (t0 : Time) (c : Chan) (f : Channel → Channel) : State := (s.reach t0).modChan c f

theorem State.changed_chan (e : Chan) : (s.changed t0 c f).chan e = if e = c then f (s.chan c) else s.chan e :=
  State.modChan_get ..

theorem State.changed_only : Only { now := true, carry := true } s (s.changed t0 c f) :=
  ((s.reach_only t0).widen rfl).trans ((State.modChan_only _ c f).widen rfl)

include hrun

theorem State.changed_running : (s.changed t0 c f).running = true := by
  rw [State.running, (s.changed_only t0 c f).startup rfl]
  exact hrun

omit hrun in
/-- The parts that a decision after one channel's change can touch. -/
theorem State.carryDecision_changed_eq :
    (s.changed t0 c f).carryDecision =
      { s with now := max s.now t0, carry := (s.changed t0 c f).carryDecision.carry,
               trunk := (s.changed t0 c f).carryDecision.trunk } := by
  have h := ((s.changed_only t0 c f).widen rfl).trans ((State.carryDecision_only (s := s.changed t0 c f)).widen
    (g := { now := true, carry := true, trunk := true }) rfl)
  have hnow : (s.changed t0 c f).carryDecision.now = max s.now t0 := (State.carryDecision_only _).now rfl
  exact h.eq.trans (by rw [hnow]; rfl)

/-- A demand expiry (R73). -/
theorem exec_demandExpiry_holds {st : Nat} {d : Nat × Time} (hd : (s.chan c).demand.find? (fun x => x.1 == st) = some d) :
    ∃ t, exec (.demandExpiry c st) s = .next t ∧ t.sendingChannels.length ≤ s.image.carryBudget ∧
      (t.chan c).demand = (s.chan c).demand.filter (fun x => x.1 ≠ st) ∧ (∀ e, e ≠ c → (t.chan e).demand = (s.chan e).demand) ∧
      (s.image.feedsApart = true → carryDecided s t fun e => (s.chan e).state) ∧ statusRecordSent s t ∧
      t = { s with now := max s.now d.2, carry := t.carry, trunk := t.trunk } := by
  have hu := State.changed_running hrun d.2 c (fun x => x.dropDemand st)
  have hchan := s.changed_chan d.2 c fun x => x.dropDemand st
  have hstate : ∀ e, ((s.changed d.2 c fun x => x.dropDemand st).chan e).state = (s.chan e).state := fun e => by
    rw [hchan]
    split
    · next h => rw [h]; rfl
    · rfl
  have hready : ∀ e, (s.chan e).readied ((s.changed d.2 c fun x => x.dropDemand st).chan e) := fun e => by
    rw [hchan]
    split
    · next h => rw [h]; exact Channel.readied_of_eq rfl
    · exact Channel.readied_of_eq rfl
  have hlist : (s.changed d.2 c fun x => x.dropDemand st).carryList = s.carryList := State.carryList_congr rfl hstate
  refine ⟨(s.changed d.2 c fun x => x.dropDemand st).carryDecision, by simp only [exec, execDemandExpiry, hd]; rfl,
    State.carryDecision_within hu, ?_, fun e he => ?_, fun hapart => ?_, ?_, State.carryDecision_changed_eq d.2 c _⟩
  · rw [State.carryDecision_demand hu, hchan, if_pos rfl]
    rfl
  · rw [State.carryDecision_demand hu, hchan, if_neg he]
  · have h := carryDecided_of_decided (s := s) (u := s.changed d.2 c fun x => x.dropDemand st) rfl hapart hready (State.carryDecision_chan hu) ((State.carryDecision_only _).now rfl)
    simpa only [hstate] using h
  · have h := State.statusRecordSent_carryDecision hu
    rw [statusRecordSent, hlist] at h
    exact h

/-- A channel that an event puts to IDLE, for the record, the decision and one more record. -/
theorem carryDecision_sendCarry_changed (hstate : (f (s.chan c)).state = .idle) (hdemand : (f (s.chan c)).demand = (s.chan c).demand)
    (hready : (s.chan c).readied (f (s.chan c))) :
    let t := (s.changed t0 c f).sendCarry.carryDecision
    t.sendingChannels.length ≤ s.image.carryBudget ∧ (∀ e, (t.chan e).demand = (s.chan e).demand) ∧
      (∀ e, t.chan e = (s.changed t0 c f).sendCarry.decided.chan e) ∧
      recordThenDecision s t (fun e => if e = c then .idle else (s.chan e).state) ∧
      t = { s with now := max s.now t0, carry := t.carry, trunk := t.trunk } := by
  have hu := State.changed_running hrun t0 c f
  have hchan := s.changed_chan t0 c f
  have hsend := State.sendCarry_of_running hu
  have hrun' : (s.changed t0 c f).sendCarry.running = true := by rw [hsend]; exact hu
  have hwas : (fun e => ((s.changed t0 c f).chan e).state) = fun e => if e = c then .idle else (s.chan e).state := by
    funext e
    rw [hchan]
    split
    · exact hstate
    · rfl
  have hreadied : ∀ e, (s.chan e).readied ((s.changed t0 c f).chan e) := fun e => by
    rw [hchan]
    split
    · next h => rw [h]; exact hready
    · exact Channel.readied_of_eq rfl
  refine ⟨?_, fun e => ?_, State.carryDecision_chan hrun', hwas ▸ State.recordThenDecision_sendCarry hu rfl rfl hreadied, ?_⟩
  · have h := State.carryDecision_within hrun'
    rw [hsend] at h ⊢
    exact h
  · have hkept : ((s.changed t0 c f).sendCarry.chan e) = (s.changed t0 c f).chan e := State.sendCarry_chan hu e
    rw [State.carryDecision_demand hrun', hkept, hchan]
    split
    · next h => rw [h]; exact hdemand
    · rfl
  · have h := (((s.changed_only t0 c f).widen rfl).trans ((State.sendCarry_only (s := s.changed t0 c f)).widen rfl)).trans
      ((State.carryDecision_only (s := (s.changed t0 c f).sendCarry)).widen
        (g := { now := true, carry := true, trunk := true }) rfl)
    have hnow : (s.changed t0 c f).sendCarry.carryDecision.now = max s.now t0 :=
      ((State.carryDecision_only _).now rfl).trans ((State.sendCarry_only _).now rfl)
    exact h.eq.trans (by rw [hnow]; rfl)

/-- A linger end (R77). -/
theorem exec_lingerEnd_holds (hlinger : (s.chan c).state = .linger) (hend : (s.chan c).lingerEnd = some t0)
    (hdemand : (s.chan c).demand = []) :
    ∃ t, exec (.lingerEnd c) s = .next t ∧ t.sendingChannels.length ≤ s.image.carryBudget ∧
      (t.chan c).state = .idle ∧ (t.chan c).lingerEnd = none ∧ (∀ e, (t.chan e).demand = (s.chan e).demand) ∧
      recordThenDecision s t (fun e => if e = c then .idle else (s.chan e).state) ∧
      t = { s with now := max s.now t0, carry := t.carry, trunk := t.trunk } := by
  obtain ⟨trim, mode, hassign⟩ := (s.chan c).assign_of_not_sends s.image.channels[c] (st := .idle) rfl none
  obtain ⟨hwithin, hkept, hchan, hrecords, heq⟩ := carryDecision_sendCarry_changed hrun t0 c
    (fun x => x.assign s.image.channels[c] .idle none) (by rw [hassign]) (by rw [hassign])
    (by rw [hassign]; exact ⟨⟨rfl, rfl, rfl, rfl⟩, .inr ⟨hdemand, rfl, by rw [hlinger]; nofun⟩⟩)
  have hself : ((s.changed t0 c fun x => x.assign s.image.channels[c] .idle none).sendCarry.chan c) =
      (s.chan c).assign s.image.channels[c] .idle none := by
    rw [State.sendCarry_chan (State.changed_running hrun t0 c _), State.changed_chan, if_pos rfl]
  obtain ⟨hidle, hnone⟩ := State.decided_of_idle (u := (s.changed t0 c _).sendCarry) (c := c)
    (by rw [hself, hassign]) (by rw [hself, hassign]) (by rw [hself, hassign]; exact hdemand)
  exact ⟨_, by simp only [exec, execLingerEnd, hlinger, hend, if_pos hdemand]; rfl, hwithin, by rw [hchan]; exact hidle,
    by rw [hchan]; exact hnone, hkept, hrecords, heq⟩

/-- A shadow end (R82). -/
theorem exec_shadowEnd_holds (hshadowed : (s.chan c).state = .shadowed) (hend : (s.chan c).shadowEnd = some t0) :
    ∃ t, exec (.shadowEnd c) s = .next t ∧ t.sendingChannels.length ≤ s.image.carryBudget ∧
      (t.chan c).state ≠ .shadowed ∧ (t.chan c).shadowEnd = none ∧ (∀ e, (t.chan e).demand = (s.chan e).demand) ∧
      recordThenDecision s t (fun e => if e = c then .idle else (s.chan e).state) ∧
      t = { s with now := max s.now t0, carry := t.carry, trunk := t.trunk } := by
  obtain ⟨hwithin, hkept, hchan, hrecords, heq⟩ := carryDecision_sendCarry_changed hrun t0 c
    (fun x => { x with state := .idle, shadowEnd := none }) rfl rfl (Channel.readied_of_eq rfl)
  have hself : ((s.changed t0 c fun x => { x with state := .idle, shadowEnd := none }).sendCarry.chan c) =
      { s.chan c with state := .idle, shadowEnd := none } := by
    rw [State.sendCarry_chan (State.changed_running hrun t0 c _), State.changed_chan, if_pos rfl]
  refine ⟨_, by simp only [exec, execShadowEnd, hshadowed, hend]; rfl, hwithin, ?_, ?_, hkept, hrecords, heq⟩
  · rw [hchan]
    exact State.decided_ne_shadowed (by rw [hself]; nofun)
  · rw [hchan, State.decided_shadowEnd, hself]

end

/-! ## WANT records -/

/-- A WANT record of another station is taken in the state that has heard it. -/
theorem exec_want_of_takesFrom {s : State} {source : Nat} {programs : List Nat} (h : s.takesFrom source = true) :
    exec (.want source programs) s = .next ((s.heard source).takeWant source programs) :=
  congrArg Host.Outcome.next (State.receive_of_takesFrom (b := .want programs) h rfl)

/-- Hearing a station changes the trunk alone. -/
theorem State.heard_only (s : State) (source : Nat) : Only trunkFoot s (s.heard source) :=
  (State.modTrunk_only s _).trans (State.refreshPeer_only _ source)

/-- Hearing a station changes no part of the trunk that a record sent is told by. -/
theorem statusRecordSent_of_heard {s u t : State} {source : Nat} (hu : Only { carry := true } (s.heard source) u)
    (hlist : u.carryList = s.carryList) (hdue : u.carry.carryDue = s.carry.carryDue) (h : statusRecordSent u t) :
    statusRecordSent s t := by
  have htrunk : u.trunk = (s.heard source).trunk := hu.trunk rfl
  have hstartup : u.startup = s.startup := hu.startup rfl
  simp only [statusRecordSent, queuedC, handedBy, htrunk, hstartup, hlist, hdue] at h
  exact h

/-- The sets once a WANT record of a station heard is taken. -/
theorem State.running_wanted_heard {s : State} (hrun : s.running = true) (source : Nat) (programs : List Nat) :
    ((s.heard source).wanted source programs).running = true := by
  rw [State.running, ((s.heard source).wanted_only source programs).startup rfl]
  exact hrun

/-- A WANT record (R72, R73). -/
theorem exec_want_holds {s : State} (hrun : s.running = true) {source : Nat} (programs : List Nat)
    (hsource : s.takesFrom source = true) :
    ∃ t, exec (.want source programs) s = .next t ∧ t = { s with carry := t.carry, trunk := t.trunk } ∧
        (∀ c : Chan, s.inUse c = true → (s.chan c).state ≠ .shadowed →
          ((t.chan c).wantedBy source = true ↔ s.chanProgram c ∈ programs) ∧
          (∀ o, o ≠ source → (t.chan c).wantedBy o = (s.chan c).wantedBy o) ∧
          ((t.chan c).demand.filter fun d => d.1 == source) =
            (if s.chanProgram c ∈ programs then [(source, s.now + ms 350)] else []) ∧
          ((t.chan c).demand.filter fun d => d.1 ≠ source) = (s.chan c).demand.filter fun d => d.1 ≠ source) ∧
        (∀ c : Chan, (s.inUse c = false ∨ (s.chan c).state = .shadowed) → (t.chan c).demand = (s.chan c).demand) ∧
        let changes : Prop := ∃ c : Chan, s.inUse c = true ∧ (s.chan c).state ≠ .shadowed ∧
          (s.chan c).wantedBy source ≠ decide (s.chanProgram c ∈ programs)
        (changes → t.sendingChannels.length ≤ s.image.carryBudget ∧
          (s.image.feedsApart = true → carryDecided s t fun e => (s.chan e).state) ∧ statusRecordSent s t) ∧
        (¬changes → t.trunk = (s.heard source).trunk ∧
          ∀ c : Chan, t.chan c = { s.chan c with demand := (t.chan c).demand }) := by
  have hrun' : (s.heard source).running = true := hrun
  have hu := State.running_wanted_heard hrun source programs
  have hchan : ∀ c, ((s.heard source).wanted source programs).chan c = s.wanting source programs c :=
    (s.heard source).wanted_chan source programs
  have honly := (s.heard source).wanted_only source programs
  have htake := State.takeWant_of_running hrun' source programs
  have hreads : ∀ c, s.reads c = true ↔ s.inUse c = true ∧ (s.chan c).state ≠ .shadowed := fun c => by
    simp [State.reads]
  have hdemand : ∀ c, (((s.heard source).takeWant source programs).chan c).demand = (s.wanting source programs c).demand :=
    fun c => by
      rw [htake]
      split
      · rw [State.carryDecision_demand hu, hchan]
      · rw [hchan]
  refine ⟨_, exec_want_of_takesFrom hsource, ?_, fun c huse hshadow => ?_, fun c hc => ?_, fun hchanges => ?_, fun hchanges => ?_⟩
  · exact (((s.heard_only source).widen (g := carryFoot) rfl).trans ((s.heard source).takeWant_only source programs)).eq
  · have hr := (hreads c).mpr ⟨huse, hshadow⟩
    have hothers : ((s.wanting source programs c).demand.filter fun d => d.1 ≠ source) =
        (s.chan c).demand.filter fun d => d.1 ≠ source := by
      rw [State.wanting, if_pos hr]
      split
      · exact Channel.addDemand_others ..
      · exact Channel.dropDemand_others ..
    have hwanted : ∀ o, (((s.heard source).takeWant source programs).chan c).wantedBy o =
        (s.wanting source programs c).wantedBy o := fun o => by rw [Channel.wantedBy_eq, Channel.wantedBy_eq, hdemand]
    refine ⟨?_, fun o ho => ?_, ?_, by rw [hdemand]; exact hothers⟩
    · rw [hwanted, s.wanting_wantedBy source programs hr, decide_eq_true_iff]
    · rw [hwanted]
      exact Channel.wantedBy_congr (s.chan c) source ho hothers
    · rw [hdemand, State.wanting, if_pos hr]
      split
      · exact Channel.addDemand_own ..
      · exact Channel.dropDemand_own ..
  · have hr : ¬s.reads c = true := fun h => by
      obtain ⟨huse, hshadow⟩ := (hreads c).mp h
      exact hc.elim (fun e => by rw [e] at huse; cases huse) hshadow
    rw [hdemand, State.wanting, if_neg hr]
  · obtain ⟨c, huse, hshadow, hc⟩ := hchanges
    have heq : (s.heard source).takeWant source programs = ((s.heard source).wanted source programs).carryDecision :=
      htake.trans (if_pos ⟨c, (hreads c).mpr ⟨huse, hshadow⟩, hc⟩)
    have hstate : ∀ e, (((s.heard source).wanted source programs).chan e).state = (s.chan e).state := fun e => by
      rw [hchan, State.wanting_frame]
    have himage : ((s.heard source).wanted source programs).image = s.image := congrArg Startup.image (honly.startup rfl)
    rw [heq]
    refine ⟨himage ▸ State.carryDecision_within hu, fun hapart => ?_, ?_⟩
    · have h := carryDecided_of_decided (s := s) (u := (s.heard source).wanted source programs) himage hapart
        (fun e => by rw [hchan, State.wanting_frame]; exact Channel.readied_of_eq rfl) (State.carryDecision_chan hu)
        ((State.carryDecision_only _).now rfl)
      simpa only [hstate] using h
    · exact statusRecordSent_of_heard honly (State.carryList_congr himage hstate)
        ((s.heard source).wanted_carryDue source programs) (State.statusRecordSent_carryDecision hu)
  · have heq : (s.heard source).takeWant source programs = (s.heard source).wanted source programs :=
      htake.trans (if_neg fun ⟨c, hr, hc⟩ => hchanges ⟨c, ((hreads c).mp hr).1, ((hreads c).mp hr).2, hc⟩)
    rw [heq]
    refine ⟨honly.trunk rfl, fun c => ?_⟩
    rw [hchan]
    exact State.wanting_frame ..

/-- Settles O39: a step keeps the budget as one of its invariants, and each event runs the decision in its own way. -/
theorem carryBudgetHolds : Obligations.CarryBudgetHolds := by
  refine ⟨fun _ _ => step_keeps_of_exec (P := fun s => s.sendingChannels.length ≤ s.image.carryBudget) (fun _ _ _ _ => id)
      fun _ _ h => h.budget,
    fun _ _ => step_keeps_of_exec (P := fun s => s.image.feedsApart = true) (fun _ _ _ _ => id) fun _ _ h => h.feeds,
    fun s hrun => ⟨fun c st d => exec_demandExpiry_holds hrun c, fun c t0 => exec_lingerEnd_holds hrun t0 c,
      fun c t0 => exec_shadowEnd_holds hrun t0 c, fun source programs => exec_want_holds hrun programs⟩⟩

end Sys2Proof.Machine
end

section
/-! The starts and the load (R179 to R183): O7, O9 and O10. -/

namespace Sys2Proof.Machine

/-- Settles O7: every invariant of the reset state is evaluated. -/
theorem resetMeetsTheInvariants : Obligations.ResetMeetsTheInvariants := by
  refine ⟨rfl, ?_, ?_, rfl, ?_, ?_⟩ <;> decide

/-! ## The entry to LOADING -/

/-- A strap fault is straps 0 or 31 (R179). -/
theorem strapsBad_eq (straps : BitVec 5) : strapsBad straps = decide (straps.toNat = 0 ∨ straps.toNat = 31) := by
  rw [strapsBad, Bool.eq_iff_iff]
  simp only [Bool.or_eq_true, beq_iff_eq, decide_eq_true_iff, ← BitVec.toNat_inj]
  rfl

theorem strapsBad_eq_false {straps : BitVec 5} (hlow : 1 ≤ straps.toNat) (hhigh : straps.toNat ≤ 30) : strapsBad straps = false := by
  rw [strapsBad_eq, decide_eq_false_iff_not]
  omega

/-- The load begins with good straps (R179, R180). -/
theorem State.readStraps_of_good {s : State} {straps : BitVec 5} (h : strapsBad straps = false) :
    s.readStraps straps = { s with
      startup := { s.startup with straps := straps, station := straps.toNat, strapFault := false, loadSince := some s.now },
      trunk := { s.trunk with seed := straps.toNat } } := by
  simp [State.readStraps, h]

section
variable (n : Time) (free : Nat) (pending : List Instr) (resetN : Bool) (im : Image)

/-- Every block is at its power-on column. -/
theorem State.atPowerOn_port (p : Port) :
    (State.atPowerOn n free pending resetN im).links[p] = Link.initial ∧
      (State.atPowerOn n free pending resetN im).berth p = Berth.initial (if resetN then .counting n else .held 0) :=
  ⟨Vector.getElem_replicate .., Vector.getElem_replicate ..⟩

theorem State.atPowerOn_everyCounter :
    (State.atPowerOn n free pending resetN im).everyCounter.all (fun c => c == 0) = true := by
  cases resetN <;> rfl

end

/-- Settles O9, one clause for each of the three start commands. -/
theorem startsReachLoading : Obligations.StartsReachLoading := by
  refine ⟨fun straps s hhigh => ?_, fun straps s n hlow hhigh => ?_⟩
  · refine ⟨_, by simp only [exec, execPowerOn, hhigh, if_true]; rfl, ?_, ?_, ?_⟩
    · rw [← strapsBad_eq]
      rfl
    · rw [← strapsBad_eq]
      simp [State.faultAsserted, State.loading, State.readStraps, State.atPowerOn, Startup.initial]
    · simp [State.secondsSinceStart, State.readStraps, State.atPowerOn, Startup.initial]
  · refine ⟨State.atPowerOn s.now s.free s.pending false s.image, rfl, rfl, rfl, rfl, rfl, rfl, rfl, rfl,
      fun p => State.atPowerOn_port .., State.atPowerOn_everyCounter .., rfl, rfl, rfl, fun p => ?_, ?_⟩
    · exact congrArg (fun b : Berth => b.timer.value n) (State.atPowerOn_port s.now s.free s.pending false s.image p).2
    · refine congrArg Host.Outcome.next ((if_pos rfl).trans ?_)
      rw [State.readStraps_of_good (strapsBad_eq_false hlow hhigh)]
      rfl

/-! ## The end of the load -/

/-- What the end of the load leaves (R179, R181, R131, R64). -/
theorem loadEnded_endLoad (s u : State) (hu : u = { s with now := u.now }) (im : Image) (defaulted adjusted : Bool) :
    loadEnded s (u.endLoad im defaulted adjusted) im defaulted adjusted := by
  have hstartup : u.startup = s.startup := by rw [hu]
  refine ⟨rfl, rfl, rfl, rfl, by rw [← hstartup]; rfl, fun hbad => ?_, fun hbad => ?_, fun c => ?_, rfl, rfl, ?_⟩
  · simp [State.endLoad, hstartup, hbad]
  · simp [State.endLoad, hstartup, hbad, State.faultAsserted]
  · simp [State.endLoad, State.chan, Channel.allInitial, Channel.initial]
  · rw [hu]
    rfl

/-- The default image feeds no program. -/
theorem defaultImage_program (c : Chan) : defaultImage.channels[c].program = 0 := by
  revert c
  decide

/-- Settles O10. -/
theorem loadEndsByImageOrTimeout : Obligations.LoadEndsByImageOrTimeout := by
  refine ⟨fun s bytes t0 hload hnow hlength => ?_, fun s t0 hload => ?_⟩
  · have htake : bytes.take imageLength = bytes := List.take_of_length_le hlength.le
    have hexec : exec (.configurationLoadEnd bytes) s = .next (s.loadBytes bytes) := by
      simp only [exec, execConfigurationLoadEnd, hload]
      exact if_pos ⟨hlength.ge, hnow⟩
    refine ⟨_, hexec, ?_, fun hgood => ?_, fun hbad => ?_⟩
    · rw [State.loadBytes]
      split <;> rfl
    · rw [State.loadBytes, htake, if_pos hgood]
      exact loadEnded_endLoad _ _ rfl ..
    · rw [State.loadBytes, htake, if_neg (by simp [hbad])]
      exact loadEnded_endLoad _ _ rfl ..
  · refine ⟨(s.reach (t0 + ms 50)).endLoad defaultImage true false, by simp only [exec, execLoadTimeout, hload], rfl, loadEnded_endLoad _ _ rfl .., ?_, rfl, rfl, fun c => ?_⟩
    · simp [State.faultAsserted, State.endLoad]
    · exact bne_eq_false_iff_eq.mpr (defaultImage_program c)

end Sys2Proof.Machine
end

section
/-! What a step does when no command waits, and the timers that are armed: O1. -/

namespace Sys2Proof.Machine

/-! ## The earliest deadline -/

/-- The earlier of a deadline and the earliest before it. -/
def earlier (acc : Option Time) (x : Time × Instr) : Option Time :=
  match acc with
  | none => some x.1
  | some t => some (min t x.1)

/-- The earliest of a list of timers, and of a deadline before them. -/
theorem foldl_earlier_some (l : List (Time × Instr)) (t0 : Time) :
    ∃ t, l.foldl earlier (some t0) = some t ∧ t ≤ t0 ∧ (∀ x ∈ l, t ≤ x.1) ∧ (t = t0 ∨ ∃ x ∈ l, t = x.1) := by
  induction l generalizing t0 with
  | nil => exact ⟨t0, rfl, le_rfl, nofun, .inl rfl⟩
  | cons y l ih =>
    obtain ⟨t, ht, hle, hall, hwhich⟩ := ih (min t0 y.1)
    refine ⟨t, ht, hle.trans (min_le_left ..), fun x hx => ?_, ?_⟩
    · obtain rfl | hx := List.mem_cons.mp hx
      · exact hle.trans (min_le_right ..)
      · exact hall x hx
    · obtain rfl | ⟨x, hx, hx'⟩ := hwhich
      · obtain h | h := min_choice t0 y.1
        · exact .inl h
        · exact .inr ⟨y, List.mem_cons_self, h⟩
      · exact .inr ⟨x, List.mem_cons_of_mem y hx, hx'⟩

/-- The timers that time has reached. -/
def State.reached (s : State) : List (Time × Instr) := s.timers.filter fun x => decide (x.1 ≤ s.now)

theorem State.mem_reached {s : State} {x : Time × Instr} : x ∈ s.reached ↔ x ∈ s.timers ∧ x.1 ≤ s.now := by
  simp [State.reached]

theorem State.earliest_eq (s : State) : s.earliest = s.reached.foldl earlier none := rfl

/-- No command is due while time has reached no timer. -/
theorem State.dueCommands_of_none {s : State} (h : ∀ x ∈ s.timers, s.now < x.1) : s.dueCommands = [] := by
  have hnone : s.reached = [] := List.filter_eq_nil_iff.mpr fun x hx => by simpa using h x hx
  rw [State.dueCommands, State.earliest_eq, hnone]
  rfl

/-- The commands due are those of the timers that ran out first. -/
theorem State.dueCommands_of_some {s : State} (h : ∃ x ∈ s.timers, x.1 ≤ s.now) :
    s.dueCommands ≠ [] ∧ ∀ c ∈ s.dueCommands, ∃ x ∈ s.timers, x.1 ≤ s.now ∧ (∀ y ∈ s.timers, x.1 ≤ y.1) ∧ x.2 = c := by
  obtain ⟨x0, hx0, hnow0⟩ := h
  obtain ⟨t, ht, hall, hwhich⟩ : ∃ t, s.earliest = some t ∧ (∀ x ∈ s.reached, t ≤ x.1) ∧ ∃ x ∈ s.reached, t = x.1 := by
    have hmem := State.mem_reached.mpr ⟨hx0, hnow0⟩
    rw [State.earliest_eq]
    cases hl : s.reached with
    | nil => rw [hl] at hmem; cases hmem
    | cons y l =>
      obtain ⟨t, ht, hle, hall, hwhich⟩ := foldl_earlier_some l y.1
      refine ⟨t, ht, fun x hx => ?_, ?_⟩
      · obtain rfl | hx := List.mem_cons.mp hx
        · exact hle
        · exact hall x hx
      · obtain h | ⟨x, hx, hx'⟩ := hwhich
        · exact ⟨y, List.mem_cons_self, h⟩
        · exact ⟨x, List.mem_cons_of_mem y hx, hx'⟩
  obtain ⟨x, hx, rfl⟩ := hwhich
  obtain ⟨hx, hxnow⟩ := State.mem_reached.mp hx
  have hdue : s.dueCommands = (s.timers.filter fun y => y.1 == x.1).map fun y => y.2 := by rw [State.dueCommands, ht]
  refine ⟨fun hnil => ?_, fun c hc => ?_⟩
  · rw [hdue, List.map_eq_nil_iff, List.filter_eq_nil_iff] at hnil
    exact hnil x hx (beq_self_eq_true _)
  · rw [hdue] at hc
    obtain ⟨y, hy, rfl⟩ := List.mem_map.mp hc
    obtain ⟨hy, hyx⟩ := List.mem_filter.mp hy
    rw [beq_iff_eq] at hyx
    refine ⟨y, hy, hyx ▸ hxnow, fun z hz => ?_, rfl⟩
    rw [hyx]
    by_cases hznow : z.1 ≤ s.now
    · exact hall z (State.mem_reached.mpr ⟨hz, hznow⟩)
    · exact hxnow.trans (not_le.mp hznow).le

/-! ## The armed timers -/

theorem mem_timer_self {d : Option Time} {t0 : Time} {i : Instr} : (t0, i) ∈ timer d i ↔ d = some t0 := by
  cases d with
  | none => simp [timer]
  | some t => simp [timer, eq_comm]

theorem onlyIf_eq_some {b : Bool} {d : Option Time} {t0 : Time} : onlyIf b d = some t0 ↔ b = true ∧ d = some t0 := by
  cases b <;> simp [onlyIf]

/-- Each block's timers are among the node's. -/
theorem State.mem_timers {s : State} {x : Time × Instr} : x ∈ s.timers ↔
    x ∈ s.startTimers ∨ x ∈ s.trunkTimers ∨ x ∈ s.tapTimers ∨ x ∈ s.carryTimers ∨ x ∈ s.origTimers ∨
      (∃ e ∈ s.voice.table, (e.lastPacket + ms 300, Instr.entryLost e.desc.id) = x) ∨ ∃ p, x ∈ s.portTimers p := by
  simp [State.timers, allPorts]

section
variable {s : State} {t0 : Time}

/-! Start-up, the clocks and the periods. -/

theorem State.startTimers_armed :
    (∀ t0, s.startup.loadSince = some t0 → (t0 + ms 50, Instr.loadTimeout) ∈ s.startTimers) ∧
    (∀ t0, s.startup.state = .listening → s.startup.listenEnd = some t0 → (t0, Instr.listeningEnd) ∈ s.startTimers) ∧
    (∀ t0, s.startup.restart = some t0 → (t0, Instr.restartPendingTimeout) ∈ s.startTimers) ∧
    (∀ t0, s.running = true → s.phase.phaseDue = some t0 → (t0, Instr.phasePeriod) ∈ s.startTimers) := by
  simp only [State.startTimers, List.mem_append, mem_timer_self, onlyIf_eq_some, Option.map_eq_some_iff, beq_iff_eq]
  exact ⟨fun t0 h => .inl (.inl (.inl ⟨t0, h, rfl⟩)), fun t0 h h' => .inl (.inl (.inr ⟨h, h'⟩)),
    fun t0 h => .inl (.inr h), fun t0 h h' => .inr ⟨h, h'⟩⟩

/-- The attempt of the current packet is due at the end of its wait, but for a stale first attempt (R166, R168). -/
theorem State.attemptDue_of_waiting {c : Current} {w : Time} (hc : s.trunk.current = some c) (hw : c.stage = .waiting w)
    (h : c.tx.cls ≠ .b ∨ 0 < c.attempts ∨ max s.now (s.trunk.idleFrom + w) ≤ c.tx.handed + ms 2) :
    s.attemptDue = some (s.trunk.idleFrom + w) := by
  have hat : s.trunk.attemptAt = some (s.trunk.idleFrom + w) := by simp only [Trunk.attemptAt, hc, hw]
  simp only [State.attemptDue, hc, hat]
  refine if_neg fun ⟨hb, hnone, hstale⟩ => ?_
  obtain h | h | h := h
  · exact h hb
  · exact absurd hnone h.ne'
  · exact absurd h (not_le.mpr hstale)

theorem State.trunkTimers_armed :
    (∀ t0, s.attemptDue = some t0 → (t0, Instr.attemptStart) ∈ s.trunkTimers) ∧
    (∀ x r, s.trunk.current = none → s.trunk.queueB = x :: r → (x.handed + ms 2, Instr.stale) ∈ s.trunkTimers) ∧
    (∀ t0, s.trunk.mode = .backedOff t0 → (t0, Instr.backedOffEnd) ∈ s.trunkTimers) ∧
    (∀ t0, s.running = true → s.trunk.presenceDue = some t0 → (t0, Instr.presencePeriod) ∈ s.trunkTimers) ∧
    (∀ q ∈ s.trunk.peers, (q.heard + ms 3000, Instr.peerExpiry q.station) ∈ s.trunkTimers) := by
  simp only [State.trunkTimers, List.mem_append, mem_timer_self, onlyIf_eq_some, Option.map_eq_some_iff, List.mem_map]
  refine ⟨fun t0 h => .inl (.inl (.inl (.inl h))), fun x r h h' => .inl (.inl (.inl (.inr ⟨x, ?_, rfl⟩))),
    fun t0 h => .inl (.inl (.inr ?_)), fun t0 h h' => .inl (.inr ⟨h, h'⟩), fun q hq => .inr ⟨q, hq, rfl⟩⟩
  · simp only [Trunk.oldestB, h, h', List.head?_cons]
  · simp only [h]

theorem State.tapTimers_armed :
    (∀ t0, s.running = true → s.taps.wantDue = some t0 → (t0, Instr.wantPeriod) ∈ s.tapTimers) ∧
    (∀ e ∈ s.taps.catalogue, (e.listed + ms 1000, Instr.catalogueExpiry e.program) ∈ s.tapTimers) ∧
    (∀ x ∈ s.taps.taps, x.state = .starved → (x.lastKept + ms 300, Instr.starvedTimeout x.program) ∈ s.tapTimers) := by
  simp only [State.tapTimers, List.mem_append, mem_timer_self, onlyIf_eq_some, List.mem_map, List.mem_filter, beq_iff_eq]
  exact ⟨fun t0 h h' => .inl (.inl ⟨h, h'⟩), fun e he => .inl (.inr ⟨e, he, rfl⟩),
    fun x hx h => .inr ⟨x, ⟨hx, h⟩, rfl⟩⟩

theorem State.channelTimers_armed (c : Chan) :
    (∀ d ∈ (s.chan c).demand, (d.2, Instr.demandExpiry c d.1) ∈ s.channelTimers c) ∧
    (∀ t0, (s.chan c).state = .linger → (s.chan c).demand = [] → (s.chan c).lingerEnd = some t0 →
      (t0, Instr.lingerEnd c) ∈ s.channelTimers c) ∧
    (∀ t0, (s.chan c).state = .shadowed → (s.chan c).shadowEnd = some t0 → (t0, Instr.shadowEnd c) ∈ s.channelTimers c) ∧
    (∀ w, (s.chan c).window = some w → 1000 ≤ w.count → (s.now, Instr.levelWindowEnd c) ∈ s.channelTimers c) := by
  simp only [State.channelTimers, List.mem_append, mem_timer_self, onlyIf_eq_some, List.mem_map, beq_iff_eq, Bool.and_eq_true,
    List.isEmpty_iff]
  refine ⟨fun d hd => .inl (.inl (.inr ⟨d, hd, rfl⟩)), fun t0 h h' h'' => .inl (.inr ⟨⟨h, h'⟩, h''⟩),
    fun t0 h h' => .inr ⟨h, h'⟩, fun w h h' => .inl (.inl (.inl ?_))⟩
  simp [h, h']

theorem State.carryTimers_armed :
    (∀ t0, s.mixer.nextBlock = some t0 → (t0, Instr.blockEvent) ∈ s.carryTimers) ∧
    (∀ t0, s.carry.nextFeed = some t0 → (t0, Instr.feedEvent) ∈ s.carryTimers) ∧
    (∀ t0, s.running = true → s.carry.carryDue = some t0 → (t0, Instr.carryPeriod) ∈ s.carryTimers) ∧
    (∀ c x, x ∈ s.channelTimers c → x ∈ s.carryTimers) := by
  simp only [State.carryTimers, List.mem_append, mem_timer_self, onlyIf_eq_some, List.mem_flatMap]
  exact ⟨fun t0 h => .inl (.inl (.inl h)), fun t0 h => .inl (.inl (.inr h)),
    fun t0 h h' => .inl (.inr ⟨h, h'⟩), fun c x hx => .inr ⟨c, List.mem_finRange c, hx⟩⟩

theorem State.origTimers_armed :
    (s.orig.state = .leadIn → (s.orig.leadIns < 20 → (s.orig.accepted + ms (10 * s.orig.leadIns), Instr.leadInEvent) ∈ s.origTimers) ∧
      (s.orig.desc.isSome = true → (s.orig.accepted + ms 200, Instr.leadInComplete) ∈ s.origTimers)) ∧
    (s.orig.state = .speech → (s.orig.lastAudio + ms 5000, Instr.panelLost) ∈ s.origTimers ∧
      (∀ t0, s.orig.nextHold = some t0 → t0 < s.orig.lastAudio + ms 5000 → (t0, Instr.holdTimer) ∈ s.origTimers)) ∧
    (∀ a w, s.orig.state = .collecting → s.orig.ackTable = some a → a.windowEnd = some w → (w, Instr.windowEnd) ∈ s.origTimers) := by
  refine ⟨fun h => ?_, fun h => ?_, fun a w h ha hw => ?_⟩
  · simp only [State.origTimers, h, List.mem_append, mem_timer_self, onlyIf_eq_some]
    exact ⟨fun h' => .inl ⟨decide_eq_true h', trivial⟩, fun h' => .inr ⟨h', trivial⟩⟩
  · simp only [State.origTimers, h, List.mem_append, mem_timer_self, onlyIf_eq_some]
    exact ⟨.inr trivial, fun t0 h' h'' => .inl ⟨by simp [h', h''], h'⟩⟩
  · simp only [State.origTimers, h, mem_timer_self, ha]
    exact hw

theorem State.portTimers_armed (p : Port) :
    (∀ t0, s.inService p = true → (s.berth p).attention = .awake → (s.berth p).timer = .counting t0 →
      (t0 + sec 600, Instr.inactivityExpiry p) ∈ s.portTimers p) ∧
    (∀ t0, s.links[p].state = .down → 0 < s.links[p].goodCount → s.links[p].lastGood = some t0 →
      (t0 + ms 100, Instr.goodCountTimeout p) ∈ s.portTimers p) ∧
    (∀ t0, s.links[p].state = .up → (s.links[p].lastGood = some t0 → (t0 + ms 100, Instr.statusWatchExpiry p) ∈ s.portTimers p) ∧
      (s.links[p].hold = some t0 → (t0 + ms 50, Instr.linkFault p) ∈ s.portTimers p)) ∧
    (∀ t0, s.links[p].holdOff = some t0 → (t0, Instr.holdOffEnd p) ∈ s.portTimers p) ∧
    (∀ o t0, s.links[p].outstanding = some o → o.sending = .sent t0 → (t0 + ms 200, Instr.captionAckTimeout p) ∈ s.portTimers p) ∧
    (∀ x ∈ (s.berthVoice p).pending, (x.2 + ms 20000, Instr.pendingWaitLimit p x.1) ∈ s.portTimers p) := by
  simp only [State.portTimers, List.mem_append, mem_timer_self, onlyIf_eq_some, Option.map_eq_some_iff, List.mem_map, beq_iff_eq,
    Bool.and_eq_true, decide_eq_true_iff]
  refine ⟨fun t0 h h' h'' => ?_, fun t0 h h' h'' => ?_, fun t0 h => ⟨fun h' => ?_, fun h' => ?_⟩, fun t0 h => ?_,
    fun o t0 h h' => ?_, fun x hx => ?_⟩
  · exact .inl (.inl (.inl (.inl (.inl (.inl (by simp [h, h', h'', onlyIf, inactivityLimit]))))))
  · exact .inl (.inl (.inl (.inl (.inl (.inr ⟨⟨h, h'⟩, t0, h'', rfl⟩)))))
  · exact .inl (.inl (.inl (.inl (.inr ⟨h, t0, h', rfl⟩))))
  · exact .inl (.inl (.inl (.inr ⟨h, t0, h', rfl⟩)))
  · exact .inl (.inl (.inr h))
  · exact .inl (.inr (by simp only [Link.cardDeadline, h, h']))
  · exact .inr ⟨x, hx, rfl⟩

end

/-- Every timer of every block is armed with its deadline. -/
theorem State.armedTimers_holds (s : State) : armedTimers s := by
  have hstart : ∀ {x}, x ∈ s.startTimers → x ∈ s.timers := fun h => State.mem_timers.mpr (.inl h)
  have htrunk : ∀ {x}, x ∈ s.trunkTimers → x ∈ s.timers := fun h => State.mem_timers.mpr (.inr (.inl h))
  have htaps : ∀ {x}, x ∈ s.tapTimers → x ∈ s.timers := fun h => State.mem_timers.mpr (.inr (.inr (.inl h)))
  have hcarry : ∀ {x}, x ∈ s.carryTimers → x ∈ s.timers := fun h => State.mem_timers.mpr (.inr (.inr (.inr (.inl h))))
  have horig : ∀ {x}, x ∈ s.origTimers → x ∈ s.timers := fun h => State.mem_timers.mpr (.inr (.inr (.inr (.inr (.inl h)))))
  have hport : ∀ {x} p, x ∈ s.portTimers p → x ∈ s.timers := fun p h =>
    State.mem_timers.mpr (.inr (.inr (.inr (.inr (.inr (.inr ⟨p, h⟩))))))
  obtain ⟨hload, hlisten, hrestart, hphase⟩ := State.startTimers_armed (s := s)
  obtain ⟨hattempt, hstale, hback, hpresence, hpeers⟩ := State.trunkTimers_armed (s := s)
  obtain ⟨hwant, hcatalogue, hstarved⟩ := State.tapTimers_armed (s := s)
  obtain ⟨hblock, hfeed, hrecord, hchannels⟩ := State.carryTimers_armed (s := s)
  obtain ⟨hlead, hspeech, hwindow⟩ := State.origTimers_armed (s := s)
  refine ⟨fun t0 h => hstart (hload t0 h), fun t0 h h' => hstart (hlisten t0 h h'), fun t0 h => hstart (hrestart t0 h),
    fun t0 h => hcarry (hblock t0 h), fun t0 h => hcarry (hfeed t0 h),
    fun t0 h => ⟨fun h' => hstart (hphase t0 h h'), fun h' => htrunk (hpresence t0 h h'), fun h' => htaps (hwant t0 h h'),
      fun h' => hcarry (hrecord t0 h h')⟩,
    fun c w hc hw h => htrunk (hattempt _ (State.attemptDue_of_waiting hc hw h)), fun x r h h' => htrunk (hstale x r h h'),
    fun t0 h => htrunk (hback t0 h), fun q hq => htrunk (hpeers q hq), fun e he => htaps (hcatalogue e he),
    fun x hx h => htaps (hstarved x hx h), fun c => ?_,
    fun e he => State.mem_timers.mpr (.inr (.inr (.inr (.inr (.inr (.inl ⟨e, he, rfl⟩)))))),
    fun h => ⟨fun h' => horig ((hlead h).1 h'), fun h' => horig ((hlead h).2 h')⟩,
    fun h => ⟨horig (hspeech h).1, fun t0 h' h'' => horig ((hspeech h).2 t0 h' h'')⟩,
    fun a w h ha hw => horig (hwindow a w h ha hw), fun p => ?_⟩
  · obtain ⟨hdemand, hlinger, hshadow, hlevel⟩ := State.channelTimers_armed (s := s) c
    exact ⟨fun d hd => hcarry (hchannels c _ (hdemand d hd)), fun t0 h h' h'' => hcarry (hchannels c _ (hlinger t0 h h' h'')),
      fun t0 h h' => hcarry (hchannels c _ (hshadow t0 h h')), fun w h h' => hcarry (hchannels c _ (hlevel w h h'))⟩
  · obtain ⟨hinactive, hgood, hup, hoff, hcard, hpending⟩ := State.portTimers_armed (s := s) p
    exact ⟨fun t0 h h' h'' => hport p (hinactive t0 h h' h''), fun t0 h h' h'' => hport p (hgood t0 h h' h''),
      fun t0 h => ⟨fun h' => hport p ((hup t0 h).1 h'), fun h' => hport p ((hup t0 h).2 h')⟩, fun t0 h => hport p (hoff t0 h),
      fun o t0 h h' => hport p (hcard o t0 h h'), fun x hx => hport p (hpending x hx)⟩

/-- Settles O1: the front command, the idle step, and the timers block by block. -/
theorem stepRunsTheFrontCommand : Obligations.StepRunsTheFrontCommand := by
  refine ⟨fun s c r h => by rw [step, h], fun s h => ⟨fun hnone => ?_, fun hsome => ?_⟩, State.armedTimers_holds⟩
  · have hdue := State.dueCommands_of_none hnone
    obtain ⟨-, hidle⟩ | ⟨c, hc, -⟩ := s.idle_cases
    · simp only [step, h, hidle]
    · rw [hdue] at hc
      cases hc
  · obtain ⟨hne, hall⟩ := State.dueCommands_of_some hsome
    obtain ⟨hnil, -⟩ | ⟨c, hc, hidle⟩ := s.idle_cases
    · exact absurd hnil hne
    · obtain ⟨x, hx, hnow, hfirst, rfl⟩ := hall c hc
      refine ⟨x, hx, hnow, hfirst, ?_⟩
      simp only [step, h, hidle]

end Sys2Proof.Machine
end

section
/-! Lists searched by a key: the peer list, the catalogue, the taps, the announcement table. -/

namespace Sys2Proof.Machine

section
variable {α κ : Type} [DecidableEq κ] (key : α → κ) (k k' : κ) (f : α → α) (l : List α)

/-- The member of a key after the members of a key are changed. -/
theorem find_modify (hf : ∀ x, key (f x) = key x) :
    (l.map fun x => if key x = k then f x else x).find? (fun x => key x == k') =
      if k' = k then (l.find? fun x => key x == k).map f else l.find? fun x => key x == k' := by
  induction l with
  | nil => simp
  | cons y l ih =>
    rw [List.map_cons]
    by_cases hy : key y = k
    · rw [if_pos hy]
      by_cases hk : k' = k
      · rw [if_pos hk, List.find?_cons_of_pos (by simp [hf, hy, hk]), List.find?_cons_of_pos (by simp [hy])]
        rfl
      · have hne : ¬k = k' := fun h => hk h.symm
        rw [if_neg hk, List.find?_cons_of_neg (by simp [hf, hy, hne]), ih, if_neg hk, List.find?_cons_of_neg (by simp [hy, hne])]
    · rw [if_neg hy]
      by_cases hk' : key y = k'
      · have hk : ¬k' = k := fun h => hy (hk'.trans h)
        rw [if_neg hk, List.find?_cons_of_pos (by simp [hk']), List.find?_cons_of_pos (by simp [hk'])]
      · rw [List.find?_cons_of_neg (by simp [hk']), ih, List.find?_cons_of_neg (by simp [hy]),
          List.find?_cons_of_neg (by simp [hk'])]

/-- The member of a key after the members of a key are removed. -/
theorem find_remove :
    (l.filter fun x => decide (key x ≠ k)).find? (fun x => key x == k') =
      if k' = k then none else l.find? fun x => key x == k' := by
  rw [List.find?_filter]
  by_cases hk : k' = k
  · rw [if_pos hk, List.find?_eq_none]
    intro x _
    simp [hk]
  · rw [if_neg hk]
    congr 1
    funext x
    by_cases hx : key x = k'
    · simp [hx, hk]
    · simp [hx]

/-- No member of a key. -/
theorem key_ne_of_find {l : List α} (h : l.find? (fun x => key x == k) = none) : ∀ x ∈ l, key x ≠ k := fun x hx => by
  simpa using List.find?_eq_none.mp h x hx

/-- The member found has the key. -/
theorem key_of_find {l : List α} {x : α} (h : l.find? (fun x => key x == k) = some x) : key x = k := by
  simpa using List.find?_some h

end

/-- A change that keeps the keys keeps their order. -/
theorem pairwise_map_of_key {α : Type} (key : α → Nat) (f : α → α) (hf : ∀ x, key (f x) = key x) {l : List α}
    (h : l.Pairwise fun x y => key x < key y) : (l.map f).Pairwise fun x y => key x < key y := by
  rw [List.pairwise_map]
  simpa only [hf] using h

/-- A member with a new key joins a list in the order of its keys. -/
theorem pairwise_insert_of_key {α : Type} (key : α → Nat) {l : List α} {x : α} (hx : ∀ y ∈ l, key y ≠ key x)
    (h : l.Pairwise fun x y => key x < key y) :
    (insertBefore (fun a b => decide (key a < key b)) x l).Pairwise fun x y => key x < key y := by
  have hp := insertBefore_pairwise (fun a b => decide (key a < key b)) (fun a b c hab hbc => by
    simp only [decide_eq_true_iff] at hab hbc ⊢
    exact hab.trans hbc) x l (by simpa using h) fun y hy => by
      simpa using (Nat.lt_or_gt_of_ne (hx y hy)).symm
  simpa using hp

end Sys2Proof.Machine
end

section
/-! The transmitter's attempts, ages and collisions (R166 to R170): O22 and O23. -/

namespace Sys2Proof.Machine

/-! ## A free transmitter takes the head of its queues -/

/-- A transmitter that was free holds, once it has taken, no packet or one that waits. -/
theorem Trunk.take_waiting {t : Trunk} (h : t.current = none) :
    t.take.current = none ∨ ∃ x, t.take.current = some (.fresh x) := by
  unfold Trunk.take
  split
  · split
    · exact .inr ⟨_, rfl⟩
    · exact .inr ⟨_, rfl⟩
    · exact .inr ⟨_, rfl⟩
    · exact .inl h
  · exact .inl h

section
variable {t : Trunk} {x : TxPacket} {r : List TxPacket} (hmode : t.mode = .enabled) (hfree : t.current = none)
include hmode hfree

theorem Trunk.take_of_queueA (hA : t.queueA = x :: r) : t.take = { t with queueA := r, current := some (.fresh x) } := by
  simp only [Trunk.take, hmode, hfree, hA]

theorem Trunk.take_of_queueB (hA : t.queueA = []) (hB : t.queueB = x :: r) :
    t.take = { t with queueB := r, current := some (.fresh x) } := by
  simp only [Trunk.take, hmode, hfree, hA, hB]

theorem Trunk.take_of_queueC (hA : t.queueA = []) (hB : t.queueB = []) (hC : t.queueC = x :: r) :
    t.take = { t with queueC := r, current := some (.fresh x) } := by
  simp only [Trunk.take, hmode, hfree, hA, hB, hC]

end

/-! ## The oldest class B packet -/

section
variable {t : Trunk} {c : Current}

/-- The transmitter holds no class B packet before its first attempt. -/
theorem Trunk.oldestB_of_other (hc : t.current = some c) (h : c.tx.cls ≠ .b ∨ 0 < c.attempts ∨ ∃ t1, c.stage = .sending t1) :
    t.oldestB = t.queueB.head? ∧ t.discardStale = { t with stale := bump t.stale, queueB := t.queueB.drop 1 } := by
  simp only [Trunk.oldestB, Trunk.discardStale, hc]
  split
  · next hcls hattempts hstage =>
    obtain h | h | ⟨t1, h⟩ := h
    · exact absurd hcls h
    · omega
    · rw [hstage] at h
      cases h
  · exact ⟨rfl, rfl⟩

theorem Trunk.oldestB_of_free (hc : t.current = none) :
    t.oldestB = t.queueB.head? ∧ t.discardStale = { t with stale := bump t.stale, queueB := t.queueB.drop 1 } := by
  simp only [Trunk.oldestB, Trunk.discardStale, hc, and_self]

theorem Trunk.oldestB_of_own (hc : t.current = some c) (hcls : c.tx.cls = .b) (hattempts : c.attempts = 0) {w : Time}
    (hstage : c.stage = .waiting w) :
    t.oldestB = some c.tx ∧ t.discardStale = Trunk.take { t with stale := bump t.stale, current := none } := by
  simp only [Trunk.oldestB, Trunk.discardStale, hc, hcls, hattempts, hstage, and_self]

end

/-- The oldest queued class B packet is removed as stale. -/
theorem exec_stale_of_queued {s : State} {x : TxPacket} {r : List TxPacket} (hB : s.trunk.queueB = x :: r)
    (h : s.trunk.oldestB = s.trunk.queueB.head? ∧
      s.trunk.discardStale = { s.trunk with stale := bump s.trunk.stale, queueB := s.trunk.queueB.drop 1 }) :
    exec .stale s = .next { s with now := max s.now (x.handed + ms 2),
                                   trunk := { s.trunk with queueB := r, stale := bump s.trunk.stale } } := by
  obtain ⟨holdest, hdiscard⟩ := h
  rw [hB] at holdest hdiscard
  simp only [exec, execStale, holdest, List.head?_cons]
  rw [State.modTrunk, State.reach, hdiscard]
  rfl

/-- Settles O22. -/
theorem transmitterWaitsAndAges : Obligations.TransmitterWaitsAndAges := by
  refine ⟨fun s => ⟨fun d hlistens => if_pos hlistens, fun c w hc hw h => ?_⟩, fun s => ⟨fun x r hfree hB => ?_,
    fun c w hc hcls hattempts hstage => ?_, fun c x r hc h hB => ?_, fun t0 hmode hfree => ?_⟩⟩
  · simp only [exec, execAttemptStart, hc, State.attemptDue_of_waiting hc hw h]
    rfl
  · exact exec_stale_of_queued hB (Trunk.oldestB_of_free hfree)
  · obtain ⟨holdest, hdiscard⟩ := Trunk.oldestB_of_own hc hcls hattempts hstage
    exact ⟨(s.reach (c.tx.handed + staleAge)).modTrunk Trunk.discardStale, by simp only [exec, execStale, holdest], rfl, hdiscard⟩
  · exact exec_stale_of_queued hB (Trunk.oldestB_of_other hc h)
  · have hnow : (s.reach t0).trunk = s.trunk := rfl
    refine ⟨_, by simp only [exec, execBackedOffEnd, hmode]; rfl, rfl, ?_, fun x r hA => ?_, fun x r hA hB => ?_,
      fun x r hA hB hC => ?_⟩
    · exact congrArg Trunk.mode (Trunk.take_frame { s.trunk with mode := .enabled })
    · rw [State.modTrunk_trunk, hnow, Trunk.take_of_queueA (t := { s.trunk with mode := .enabled }) rfl hfree hA]
      exact ⟨rfl, _, rfl, rfl, rfl⟩
    · rw [State.modTrunk_trunk, hnow, Trunk.take_of_queueB (t := { s.trunk with mode := .enabled }) rfl hfree hA hB]
      exact ⟨rfl, _, rfl, rfl, rfl⟩
    · rw [State.modTrunk_trunk, hnow, Trunk.take_of_queueC (t := { s.trunk with mode := .enabled }) rfl hfree hA hB hC]
      exact ⟨rfl, _, rfl, rfl, rfl⟩

/-! ## Collisions -/

section
variable {s : State} {c : Current} {t0 : Time} (hc : s.trunk.current = some c) (hstage : c.stage = .sending t0)
include hc hstage

/-- A collision of the attempt in progress (R168). -/
theorem exec_collision_of_sending : exec .collision s =
    .next (if !c.leaving && decide (16 ≤ c.attempts) && c.tx.restartReply
      then (s.modTrunk fun t => t.collide s.now c).restartNow else s.modTrunk fun t => t.collide s.now c) := by
  simp only [exec, execCollision, hc, hstage]
  split <;> rfl

/-- Where no restart waits for the packet, a collision is the transmitter's alone. -/
theorem exec_collision_of_no_restart (h : c.tx.restartReply = false ∨ s.startup.restart = none) :
    exec .collision s = .next (s.modTrunk fun t => t.collide s.now c) := by
  rw [exec_collision_of_sending hc hstage]
  split
  · next hreply =>
    obtain h | h := h
    · simp [h] at hreply
    · exact congrArg Host.Outcome.next (if_neg (by rw [State.modTrunk_startup, h]; nofun))
  · rfl

end

/-- At the attempt limit the packet is dropped (R168). -/
theorem Trunk.collide_of_limit (t : Trunk) (now : Time) {c : Current} (hleaving : c.leaving = false) (hhigh : 16 ≤ c.attempts) :
    t.collide now c = Trunk.take (Trunk.dropCurrent { t with collision := bump t.collision, idleFrom := now + jam } now) := by
  rw [Trunk.collide, if_neg (by simp [hleaving]), if_pos hhigh]

/-- The soft restart that a dropped reply lets begin finds the transmitter free. -/
theorem softRestart_of_collision {s : State} {c : Current} (hleaving : c.leaving = false) (hhigh : 16 ≤ c.attempts) :
    (s.modTrunk fun t => t.collide s.now c).softRestart.trunk.current = none := by
  have hfree : ((s.trunk.collide s.now c).current = none) ∨ ∃ x, (s.trunk.collide s.now c).current = some (.fresh x) := by
    rw [Trunk.collide_of_limit _ _ hleaving hhigh]
    refine Trunk.take_waiting ?_
    rw [Trunk.dropCurrent]
    split <;> rfl
  show (Trunk.softRestart (s.trunk.collide s.now c) _).current = none
  rw [Trunk.softRestart]
  obtain h | ⟨x, h⟩ := hfree
  · simp only [h]
  · simp only [h, Current.fresh]

/-- Settles O23. -/
theorem collisionBacksOff : Obligations.CollisionBacksOff := by
  intro s c t0 hc hstage
  have hexec := exec_collision_of_sending hc hstage
  refine ⟨fun hleaving hlow => ⟨Config.backoffDraw s.trunk.seed s.trunk.draws % 2 ^ min c.attempts 5,
    Nat.mod_lt _ (Nat.two_pow_pos _), ?_⟩, fun hleaving hhigh hno => ⟨fun hfew => ?_, fun hmany => ?_⟩,
    fun hleaving hhigh hreply hrestart => ?_, fun hleaving => ?_⟩
  · rw [hexec, if_neg (by simp [hlow]), State.modTrunk, Trunk.collide, if_neg (by simp [hleaving]), if_neg (by omega)]
    rfl
  · rw [exec_collision_of_no_restart hc hstage hno, State.modTrunk, Trunk.collide_of_limit _ _ hleaving hhigh, Trunk.dropCurrent,
      if_neg (Nat.not_le.mpr hfew)]
    rfl
  · rw [exec_collision_of_no_restart hc hstage hno, State.modTrunk, Trunk.collide_of_limit _ _ hleaving hhigh, Trunk.dropCurrent,
      if_pos hmany, Trunk.take_backedOff _ (s.now + ms 1000) rfl]
    rfl
  · refine ⟨(s.modTrunk fun t => t.collide s.now c).softRestart, hexec.trans (congrArg Host.Outcome.next ?_), rfl, rfl, rfl, rfl, rfl, softRestart_of_collision hleaving hhigh⟩
    rw [if_pos (by simp [hleaving, hhigh, hreply])]
    exact if_pos hrestart
  · rw [hexec, if_neg (by simp [hleaving]), State.modTrunk, Trunk.collide, if_pos hleaving]
    rfl

end Sys2Proof.Machine
end

section
/-! The packet sent, the periodic records, the entries that age out and the peer list: O24, O25, O26 and O20. -/

namespace Sys2Proof.Machine

/-! ## The packet sent -/

section
variable {s : State} {c : Current} {t0 : Time} (hc : s.trunk.current = some c) (hstage : c.stage = .sending t0)

/-- The node as its own packet is looped back. -/
def State.packetSent (s : State) (c : Current) (t0 : Time) : State :=
  { s with now := max s.now (t0 + occupancy c.tx.packet),
           trunk := Trunk.take { s.trunk with idleFrom := max s.now (t0 + occupancy c.tx.packet), failures := 0, current := none } }

include hc hstage in
/-- The attempt has reached the end of its packet (R169). -/
theorem exec_packetSent_of_sending : exec .packetSent s =
    .next (if c.tx.restartReply && !c.leaving then ((s.packetSent c t0).loopBack c.tx.packet).restartNow
      else (s.packetSent c t0).loopBack c.tx.packet) := by
  simp only [exec, execPacketSent, hc, hstage]
  rfl

end

/-- A SERVICE_REPLY is passed over by the node's own blocks. -/
theorem State.loopBack_serviceReply (s : State) {p : Packet} {k : ServiceKind} {r : ServiceResult} {pl : Payload}
    (h : p.body = .serviceReply k r pl) : s.loopBack p = s := by
  rw [State.loopBack, if_pos (by rw [h]; rfl), State.deliver, h]

/-- Settles O24. -/
theorem packetSentLoopsBack : Obligations.PacketSentLoopsBack := by
  intro s c t0 hc hstage
  have hexec := exec_packetSent_of_sending hc hstage
  refine ⟨fun hno => ?_, fun hreply hleaving hrestart ⟨k, r, pl, hbody⟩ => ?_⟩
  · rw [if_neg (by obtain h | h := hno <;> simp [h])] at hexec
    refine ⟨fun hgood => hexec.trans ?_, fun hbad => hexec.trans ?_⟩
    · rw [State.loopBack, if_pos hgood]
      rfl
    · rw [State.loopBack, if_neg (by simp [hbad])]
      rfl
  · rw [if_pos (by simp [hreply, hleaving]), State.loopBack_serviceReply _ hbody] at hexec
    exact ⟨(s.packetSent c t0).softRestart, hexec.trans (congrArg Host.Outcome.next (if_pos hrestart)), rfl, rfl, rfl⟩

/-! ## The periodic records -/

/-- Taking a packet lengthens no queue. -/
theorem Trunk.take_queueA_length_le (t : Trunk) : t.take.queueA.length ≤ t.queueA.length := by
  unfold Trunk.take
  split
  · split <;> simp [*]
  · exact Nat.le_refl _

/-- A class A packet with room joins what the trunk holds. -/
theorem Trunk.held_fed_classA {t : Trunk} {x : TxPacket} (hx : accessClass x.packet.body = .a) (hroom : t.queueA.length < 8) :
    (t.fed x).held.Perm (t.held ++ [x]) ∧ (t.fed x).queueA.length ≤ t.queueA.length + 1 ∧
      (t.current.isSome = true → (t.fed x).queueA = t.queueA ++ [x] ∧ (t.fed x).current.isSome = true) := by
  have hfed : t.fed x = { t with queueA := t.queueA ++ [x] }.take := by
    rw [Trunk.fed, t.enqueue_classA hx, pushDropOldest_of_length_lt hroom]
    rfl
  refine ⟨?_, ?_, fun hbusy => ?_⟩
  · rw [hfed, Trunk.take_held]
    simp only [Trunk.held, List.append_assoc]
    refine .append_left _ (.append_left _ ?_)
    rw [← List.append_assoc t.queueB]
    exact List.perm_append_comm
  · rw [hfed]
    refine (Trunk.take_queueA_length_le _).trans ?_
    simp
  · rw [hfed, Trunk.take_busy _ (by exact hbusy)]
    exact ⟨rfl, hbusy⟩

/-- A class A body that has fed the trunk. -/
theorem queuedA_of_fed {s t : State} {b : Body} (hb : accessClass b = .a) (h : t.trunk = s.trunk.fed (handedBy s t b)) :
    queuedA s t b := by
  have hx : accessClass (handedBy s t b).packet.body = .a := hb
  refine ⟨fun hroom => ⟨?_, fun hnone => ?_⟩, fun hfull => ⟨?_, fun hnone => ?_⟩⟩
  · rw [h]
    exact (Trunk.held_fed_classA hx hroom).1
  all_goals rw [Trunk.fed, Trunk.enqueue_classA _ hx] at h
  · rw [pushDropOldest_of_length_lt hroom] at h
    rw [h, Trunk.take_of_takesNone (by exact hnone)]
  · rw [pushDropOldest_of_length_eq hfull] at h
    rw [h, Trunk.take_frame]
    rfl
  · rw [pushDropOldest_of_length_eq hfull] at h
    rw [h, Trunk.take_of_takesNone (by exact hnone)]

/-- Settles O25: each period's end is one hand-over, from whose moment the period starts anew. -/
theorem periodicRecords : Obligations.PeriodicRecords := by
  intro s t0 hrun
  have hrun' : (s.reach t0).running = true := hrun
  refine ⟨fun hdue => ?_, fun hdue => ?_, fun hdue => ?_, fun hdue => ?_⟩
  · refine ⟨(s.reach t0).sendPresence, by simp only [exec, execPresencePeriod, hdue, hrun, if_true], ?_, ?_, ?_⟩
    · rw [State.sendPresence, State.handOver_of_running hrun']
      rfl
    · rw [State.sendPresence, State.handOver_of_running hrun']
    · have h : queuedC s ((s.reach t0).handOver (.presence s.presenceRecord)) (.presence s.presenceRecord) :=
        queuedC_of_fed rfl (by rw [State.handOver_of_running hrun']; rfl)
      exact h
  · refine ⟨(s.reach t0).sendWant, by simp only [exec, execWantPeriod, hdue, hrun, if_true], ?_, ?_, ?_⟩
    · rw [State.sendWant, State.handOver_of_running hrun']
      rfl
    · rw [State.sendWant, State.handOver_of_running hrun']
      rfl
    · exact queuedC_of_fed rfl (by rw [State.sendWant, State.handOver_of_running hrun']; rfl)
  · have hsend := State.sendCarry_of_running hrun'
    refine ⟨(s.reach t0).sendCarry, by simp only [exec, execCarryPeriod, hdue, hrun, if_true], ?_, ?_, ?_⟩
    · rw [hsend]
      rfl
    · rw [hsend]
      rfl
    · exact queuedC_of_fed rfl (by rw [hsend]; rfl)
  · refine ⟨(s.reach t0).sendPhase, by simp only [exec, execPhasePeriod, hdue, hrun, if_true], ?_, ?_⟩
    · rw [State.sendPhase, if_pos hrun', State.handOver_of_running hrun']
      rfl
    · exact queuedA_of_fed rfl (by rw [State.sendPhase, if_pos hrun', State.handOver_of_running hrun']; rfl)

/-! ## Entries that age out -/

/-- Settles O26: the entry of a key is removed or changed, and every other stands. -/
theorem entriesAgeOut : Obligations.EntriesAgeOut := by
  refine fun s => ⟨fun st q hq => ?_, fun program e he => ?_, fun program x hx hstarved => ?_⟩
  · have hfind := fun o => find_remove Peer.station st o s.trunk.peers
    exact ⟨(s.reach (q.heard + ms 3000)).modTrunk fun t =>
        { t with peers := t.peers.filter fun x => x.station ≠ st, peerExpiry := bump t.peerExpiry },
      by simp only [exec, execPeerExpiry, hq], rfl, (hfind st).trans (if_pos rfl), fun o ho => (hfind o).trans (if_neg ho)⟩
  · have hfind := fun o => find_remove CatEntry.program program o s.taps.catalogue
    exact ⟨(s.reach (e.listed + ms 1000)).modTaps fun t => { t with catalogue := t.catalogue.filter fun x => x.program ≠ program },
      by simp only [exec, execCatalogueExpiry, he], rfl, (hfind program).trans (if_pos rfl),
      fun o ho => (hfind o).trans (if_neg ho)⟩
  · have hfind := fun o => find_modify Tap.program program o
      (fun x => { x with state := .waiting, expected := none, queue := [] }) s.taps.taps fun _ => rfl
    refine ⟨(s.reach (x.lastKept + ms 300)).modTap program fun x => { x with state := .waiting, expected := none, queue := [] },
      by simp only [exec, execStarvedTimeout, hx, hstarved, if_true], rfl, ?_, fun o ho => (hfind o).trans (if_neg ho)⟩
    refine (hfind program).trans ((if_pos rfl).trans ?_)
    rw [show s.taps.taps.find? (fun x => x.program == program) = some x from hx]
    rfl

/-! ## The peer list -/

/-- A list of peers once a station has been heard (R174). -/
def peersHeard (l : List Peer) (station : Nat) (now : Time) : List Peer :=
  match l.find? fun q => q.station == station with
  | none => insertBefore (fun a b => decide (a.station < b.station)) (Peer.fresh station now) l
  | some _ => l.map fun q => if q.station = station then { q with heard := now } else q

theorem State.heard_peers (s : State) (source : Nat) : (s.heard source).trunk.peers = peersHeard s.trunk.peers source s.now := rfl

/-- The entry of a station heard has age 0 and its fields, or none; every other stands. -/
theorem find_peersHeard (l : List Peer) (source st : Nat) (now : Time) :
    (peersHeard l source now).find? (fun q => q.station == st) =
      if st = source then some { (l.find? fun q => q.station == source).getD (Peer.fresh source now) with heard := now }
      else l.find? fun q => q.station == st := by
  rw [peersHeard]
  cases h : l.find? fun q => q.station == source with
  | none =>
    by_cases hst : st = source
    · rw [if_pos hst, hst]
      exact find_insertBefore_self _ (fun q : Peer => q.station == source) _ _ (beq_self_eq_true _) fun y hy => by
        simpa using key_ne_of_find Peer.station source h y hy
    · rw [if_neg hst]
      exact find_insertBefore_other _ _ _ _ (by simpa [Peer.fresh] using fun e => hst e.symm)
  | some q =>
    rw [find_modify Peer.station source st (fun q => { q with heard := now }) _ fun _ => rfl, h]
    rfl

/-- Hearing a station keeps the order of the list. -/
theorem peersHeard_pairwise {l : List Peer} (source : Nat) (now : Time) (h : l.Pairwise fun x y => x.station < y.station) :
    (peersHeard l source now).Pairwise fun x y => x.station < y.station := by
  rw [peersHeard]
  split
  · next hnone => exact pairwise_insert_of_key Peer.station (key_ne_of_find Peer.station source hnone) h
  · exact pairwise_map_of_key Peer.station _ (fun x => by split <;> rfl) h

/-- What is bad of a PRESENCE record (R174). -/
theorem presenceBad_iff (r : Presence) : presenceBad r = true ↔
    (¬(1 ≤ r.first ∧ r.first ≤ r.last ∧ r.last ≤ 240) ∧ ¬(r.first = 0 ∧ r.last = 0)) ∨ 12 < r.berthsUp ∨
      r.feeds = .neither ∨ r.panel = .neither := by
  have hrange : (presenceRange r).isNone = !decide (1 ≤ r.first ∧ r.first ≤ r.last ∧ r.last ≤ 240) := by
    rw [presenceRange]
    split <;> simp [*]
  simp only [presenceBad, hrange, Bool.or_eq_true, Bool.and_eq_true, Bool.not_eq_true', decide_eq_false_iff_not,
    decide_eq_true_iff, beq_iff_eq, Bool.and_eq_false_iff, beq_eq_false_iff_ne, or_assoc, not_and_or]

/-- A PRESENCE record of another station sets its entry's fields, and is counted once when one is bad (R174). -/
theorem State.takePresence_of_other {s : State} {source : Nat} (h : source ≠ s.startup.station) (r : Presence) :
    s.takePresence source r = { s with trunk := { s.trunk with
      peers := s.trunk.peers.map fun q => if q.station = source then q.present r else q,
      headerError := if presenceBad r then bump s.trunk.headerError else s.trunk.headerError } } := by
  rw [State.takePresence, if_neg h]
  split <;> rfl

/-- Settles O20. -/
theorem peerListTakesRecords : Obligations.PeerListTakesRecords := by
  intro s source r hsource inOrder
  have hheard := fun st => find_peersHeard s.trunk.peers source st s.now
  refine ⟨?_, ?_⟩
  · have hexec : exec (.presence source r) s = .next ((s.heard source).takePresence source r) :=
      congrArg Host.Outcome.next (State.receive_of_takesFrom (b := .presence r) hsource rfl)
    rw [State.takePresence_of_other (by exact (State.takesFrom_iff.mp hsource).2.2)] at hexec
    have hfind := fun st => find_modify Peer.station source st (fun q => q.present r) (peersHeard s.trunk.peers source s.now)
      fun _ => rfl
    refine ⟨_, _, hexec, rfl, (hfind source).trans ((if_pos rfl).trans (by rw [hheard, if_pos rfl]; rfl)), rfl, rfl, rfl, rfl,
      rfl, rfl, fun st hst => (hfind st).trans ((if_neg hst).trans ((hheard st).trans (if_neg hst))), fun horder => ?_, ?_⟩
    · exact pairwise_map_of_key Peer.station _ (fun x => by split <;> rfl) (peersHeard_pairwise source s.now horder)
    · simp only [presenceBad_iff]
      rfl
  · refine ⟨s.heard source, _, congrArg Host.Outcome.next (State.receive_of_takesFrom (b := .serviceReply .status .accepted .none)
      hsource rfl), rfl, (hheard source).trans (if_pos rfl), rfl, fun old hold => ?_, fun hnone => ?_,
      fun st hst => (hheard st).trans (if_neg hst), peersHeard_pairwise source s.now⟩
    · rw [show s.trunk.peers.find? (fun q => q.station == source) = some old from hold]
      rfl
    · rw [show s.trunk.peers.find? (fun q => q.station == source) = none from hnone]
      rfl

end Sys2Proof.Machine
end

section
/-! The service requests and the soft restart: O37, O16, O17, O14, O13 and O19. -/

namespace Sys2Proof.Machine

/-! ## Level windows -/

/-- The trim's move at the end of a window (R84). -/
theorem movedTrim_eq (cfg : ChannelConfig) (trim : Int) (peak : Nat) :
    movedTrim cfg trim peak = max cfg.trimMin (min cfg.trimMax (trim + trimChange peak)) := by
  simp only [movedTrim, trimChange, and_comm]

section
variable {x : Channel} (cfg : ChannelConfig) {w : LevelWindow}

theorem Channel.endWindow_of_none (h : x.window = none) : x.endWindow cfg = x := by
  simp only [Channel.endWindow, h]

/-- A window that has not counted its blocks runs on (R84). -/
theorem Channel.endWindow_of_running (h : x.window = some w) (hcount : w.count < 1000) : x.endWindow cfg = x := by
  simp only [Channel.endWindow, h, if_pos hcount]

/-- A window that has counted its 1,000 blocks moves the trim (R84). -/
theorem Channel.endWindow_of_full (h : x.window = some w) (hcount : 1000 ≤ w.count) : x.endWindow cfg =
    { x with trim := movedTrim cfg x.trim w.peak, window := none, mode := if x.mode = .oneShot then .manual else x.mode } := by
  simp only [Channel.endWindow, h, if_neg (Nat.not_lt.mpr hcount), movedTrim_eq]

end

/-- Settles O37. -/
theorem levelWindowMovesTheTrim : Obligations.LevelWindowMovesTheTrim := by
  intro s c w hw
  have hexec : exec (.levelWindowEnd c) s = .next (s.modChan c fun x => x.endWindow s.image.channels[c]) := rfl
  refine ⟨fun hfull => ⟨_, hexec, ?_, fun d hd => ?_, rfl⟩, fun hrunning => ?_⟩
  · rw [State.modChan_self]
    exact Channel.endWindow_of_full _ hw hfull
  · rw [State.modChan_get, if_neg hd]
  · rw [hexec, State.modChan, Channel.endWindow_of_running _ (by exact hw) hrunning]
    simp

/-! ## Requests for the own station -/

section
variable {s : State} {source : Nat}

/-- A reply that feeds the trunk, in the state that the request has left (R189). -/
theorem State.reply_of_running {u : State} (hrun : u.running = true) (k : ServiceKind) (r : ServiceResult) (pl : Payload) :
    (u.reply k r pl).1 = { u with trunk := u.trunk.fed (handedBy u u (.serviceReply k r pl)) } :=
  State.handOver_of_running hrun _

/-- The reply to a station heard, as the statements say it. -/
theorem queuedC_reply {u : State} (hrun : u.running = true) (htrunk : u.trunk = (s.heard source).trunk)
    (hstartup : u.startup = s.startup) (k : ServiceKind) (r : ServiceResult) (pl : Payload) :
    queuedC s (u.reply k r pl).1 (.serviceReply k r pl) := by
  have h : queuedC (s.heard source) (u.reply k r pl).1 (.serviceReply k r pl) := queuedC_of_fed rfl (by
    rw [State.reply_of_running hrun, htrunk, handedBy, hstartup]
    rfl)
  exact h

variable (hsource : s.takesFrom source = true) (hrun : s.running = true)
include hsource

/-- A request to the own station is taken in RUNNING in the state that has heard the requester. -/
theorem exec_request {i : Instr} {target argument : Nat} {k : ServiceKind}
    (hi : receivedPacket i = some { source := source, body := .serviceRequest target k argument }) :
    exec i s = .next ((s.heard source).takeService target k argument) := by
  rw [exec_of_receivedPacket s hi]
  exact congrArg Host.Outcome.next (State.receive_of_takesFrom (b := .serviceRequest target k argument) hsource rfl)

include hrun

/-- What a request to the own station is served with in RUNNING. -/
theorem exec_own_request {i : Instr} {k : ServiceKind} {argument : Nat} {t : State}
    (hi : receivedPacket i = some { source := source, body := .serviceRequest s.startup.station k argument })
    (ht : (s.heard source).running = true → (s.heard source).takeService s.startup.station k argument = t) : exec i s = .next t :=
  (exec_request hsource hi).trans (congrArg Host.Outcome.next (ht hrun))

end

/-! ## RESTART -/

/-- A hand-over in RUNNING, marked or not. -/
theorem State.handOverMarked_of_running {u : State} (hrun : u.running = true) (b : Body) (mark : Bool) :
    u.handOverMarked b mark =
      ({ u with trunk := u.trunk.fed { handedBy u u b with restartReply := mark } },
        (u.trunk.enqueue { handedBy u u b with restartReply := mark }).2) := if_pos hrun

/-- The first RESTART is pending, and begins at once when its reply is refused (R191). -/
theorem State.serveRestart_of_none {u : State} (hrun : u.running = true) (hnone : u.startup.restart = none) :
    let v : State := { u with startup := { u.startup with restart := some (u.now + ms 2000) },
                              trunk := u.trunk.fed { handedBy u u (.serviceReply .restart .accepted .none) with restartReply := true } }
    u.serveRestart = if u.trunk.queueC.length < 32 then v else v.softRestart := by
  have hhand := State.handOverMarked_of_running
    (u := { u with startup := { u.startup with restart := some (u.now + ms 2000) } }) hrun
    (.serviceReply .restart .accepted .none) true
  rw [State.serveRestart, if_neg (by simp [hnone])]
  dsimp only
  rw [hhand, Trunk.enqueue_classC _ rfl]
  split
  · rfl
  · rfl

/-- Settles O16. -/
theorem restartWaitsForItsReply : Obligations.RestartWaitsForItsReply := by
  intro s source hsource hrun
  refine ⟨(s.heard source).serveRestart, exec_own_request (k := .restart) (argument := 0) hsource hrun rfl fun hrun => if_pos ⟨hrun, rfl⟩, fun hnone hroom => ?_, fun hsome => ?_, fun hnone hfull => ?_⟩
  · rw [State.serveRestart_of_none (u := s.heard source) hrun hnone, if_pos (by exact hroom)]
    exact ⟨rfl, .of_eq (Trunk.held_fed_classC rfl hroom)⟩
  · rw [show (s.heard source).serveRestart = ((s.heard source).reply .restart .accepted .none).1 from if_pos hsome]
    refine ⟨?_, queuedC_reply (u := s.heard source) hrun rfl rfl _ _ _⟩
    rw [State.reply_of_running (by exact hrun)]
    rfl
  · rw [State.serveRestart_of_none (u := s.heard source) hrun hnone, if_neg (by exact Nat.not_lt.mpr hfull)]
    exact ⟨rfl, rfl⟩

/-! ## ONE_SHOT -/

/-- A ONE_SHOT request at a channel that runs no full level window (R85). -/
theorem Channel.oneShot_of_running (x : Channel) (cfg : ChannelConfig)
    (h : ∀ w, x.carried = true → x.window = some w → w.count < 1000) :
    x.oneShot cfg = { x with mode := .oneShot, window := if x.carried then none else x.window } := by
  cases hx : x.carried with
  | false => simp [Channel.oneShot, hx]
  | true =>
    have hend : x.endWindow cfg = x := by
      cases hw : x.window with
      | none => exact Channel.endWindow_of_none cfg hw
      | some w => exact Channel.endWindow_of_running cfg hw (h w hx hw)
    simp [Channel.oneShot, Channel.abandon, hx, hend]

/-- A full level window ends first (R84, R85). -/
theorem Channel.oneShot_of_full (x : Channel) (cfg : ChannelConfig) {w : LevelWindow} (hx : x.carried = true)
    (hw : x.window = some w) (hfull : 1000 ≤ w.count) :
    x.oneShot cfg = { x with mode := .oneShot, window := none, trim := movedTrim cfg x.trim w.peak } := by
  simp [Channel.oneShot, Channel.abandon, hx, Channel.endWindow_of_full cfg hw hfull]

/-- Settles O17. -/
theorem oneShotRequest : Obligations.OneShotRequest := by
  intro s source program hsource hrun
  refine ⟨(s.heard source).serveOneShot program, exec_own_request (k := .oneShot) (argument := program) hsource hrun rfl fun hrun => if_pos ⟨hrun, rfl⟩, fun hnone => ?_, fun c hc => ?_⟩
  · have hserve : (s.heard source).serveOneShot program = ((s.heard source).reply .oneShot .notFed .none).1 := by
      rw [State.serveOneShot, show (s.heard source).image.feeder program = none from hnone]
    rw [hserve]
    refine ⟨?_, queuedC_reply (u := s.heard source) hrun rfl rfl _ _ _⟩
    rw [State.reply_of_running (by exact hrun)]
    rfl
  · have hserve : (s.heard source).serveOneShot program =
        (((s.heard source).modChan c fun x => x.oneShot s.image.channels[c]).reply .oneShot .accepted
          (if (s.chan c).carried then .started else .held)).1 := by
      rw [State.serveOneShot, show (s.heard source).image.feeder program = some c from hc]
      rfl
    rw [hserve]
    have hreply := State.reply_of_running (u := (s.heard source).modChan c fun x => x.oneShot s.image.channels[c]) hrun .oneShot
      .accepted (if (s.chan c).carried then .started else .held)
    have hchan : ∀ d, (((s.heard source).modChan c fun x => x.oneShot s.image.channels[c]).reply .oneShot .accepted
        (if (s.chan c).carried then .started else .held)).1.chan d =
          if d = c then (s.chan c).oneShot s.image.channels[c] else s.chan d := fun d => by
      rw [hreply]
      exact State.modChan_get (s.heard source) c d fun x => x.oneShot s.image.channels[c]
    refine ⟨fun hrunning => ?_, fun w hcarried hw hfull => ?_, fun d hd => (hchan d).trans (if_neg hd), ?_, ?_⟩
    · rw [hchan, if_pos rfl, Channel.oneShot_of_running _ _ hrunning]
    · rw [hchan, if_pos rfl, Channel.oneShot_of_full _ _ hcarried hw hfull]
    · rw [hreply]
      rfl
    · exact queuedC_reply (u := (s.heard source).modChan c fun x => x.oneShot s.image.channels[c]) hrun rfl rfl _ _ _

/-! ## STATUS, COUNTERS and ignored requests -/

/-- The STATUS report has its parts in the order of R193. -/
theorem State.reportsStatus_statusReport (s : State) : reportsStatus s s.statusReport := by
  refine ⟨rfl, rfl, fun hhigh => if_pos hhigh, rfl, rfl, rfl, ?_, ?_, rfl, rfl, ?_, rfl, ?_, rfl, rfl, rfl⟩
  · simp [State.statusReport, State.feedsPresent, allChans, State.inUse]
  · cases hm : s.trunk.mode <;> simp [State.statusReport, TxMode.isBackedOff, hm]
  · rfl
  · refine List.map_congr_left fun p _ => ?_
    simp only [State.berthStatus, State.currentId]
    cases (s.berthVoice p).serving <;> rfl

/-- The COUNTERS report has its parts in the order of R194. -/
theorem State.reportsCounters_counterReport (s : State) : reportsCounters s s.counterReport := by
  refine ⟨fun hhigh => if_pos hhigh, ?_, rfl, rfl, fun p => ⟨?_, ?_⟩⟩
  · simp only [State.counterReport, State.nodeCounters]
    cases s.image.panel <;> rfl
  · simp [State.counterReport, allPorts]
    rfl
  · have hget : s.counterReport.links[p.val]? = some (s.portCounters p) := by simp [State.counterReport, allPorts]
    rw [hget]
    by_cases hp : p.val + 1 ≤ s.image.berthCount
    · rw [if_pos hp]
      exact congrArg some (if_pos (decide_eq_true hp))
    · rw [if_neg hp]
      exact congrArg some (if_neg (by simpa [State.inService] using hp))

/-- Settles O14. -/
theorem serviceReportsAndIgnoredRequests : Obligations.ServiceReportsAndIgnoredRequests := by
  refine ⟨fun s source code hsource hrun => ⟨?_, ?_, ?_⟩, fun i s source target argument k hi hsource hno => ?_⟩
  · refine ⟨((s.heard source).reply .status .accepted (.status (s.heard source).statusReport)).1, _,
      exec_own_request (k := .status) (argument := 0) hsource hrun rfl fun hrun => if_pos ⟨hrun, rfl⟩, ?_,
      queuedC_reply (u := s.heard source) hrun rfl rfl _ _ _, State.reportsStatus_statusReport _, ?_⟩
    · rw [State.reply_of_running (by exact hrun)]
      rfl
    · exact beq_iff_eq.mp hrun
  · refine ⟨((s.heard source).reply .counters .accepted (.counters (s.heard source).counterReport)).1, _,
      exec_own_request (k := .counters) (argument := 0) hsource hrun rfl fun hrun => if_pos ⟨hrun, rfl⟩, ?_,
      queuedC_reply (u := s.heard source) hrun rfl rfl _ _ _, State.reportsCounters_counterReport _⟩
    rw [State.reply_of_running (by exact hrun)]
    rfl
  · refine ⟨((s.heard source).reply (.other code) .unknown .none).1,
      exec_own_request (k := .other code) (argument := 0) hsource hrun rfl fun hrun => if_pos ⟨hrun, rfl⟩, ?_,
      queuedC_reply (u := s.heard source) hrun rfl rfl _ _ _⟩
    rw [State.reply_of_running (by exact hrun)]
    rfl
  · have hpacket : receivedPacket i = some { source := source, body := .serviceRequest target k argument } := by
      unfold serviceRequest at hi
      split at hi
      · next h => cases hi; exact h
      · cases hi
    refine (exec_request hsource hpacket).trans (congrArg Host.Outcome.next (if_neg fun ⟨hrun, hown⟩ => ?_))
    obtain h | h := hno
    · exact h hown
    · exact absurd (h.symm.trans hrun) (by decide)

/-! ## The soft restart -/

/-- What the soft restart leaves (R188). -/
theorem State.softRestarted_softRestart {s u : State} (hu : u = { s with now := u.now }) : softRestarted s u.softRestart := by
  have hlinks : ∀ p : Port, u.softRestart.links[p] = s.links[p].softRestart := fun p => by
    rw [hu]
    simp [State.softRestart]
  have hberth : ∀ p : Port, u.softRestart.berth p = (s.berth p).softRestart := fun p => by
    rw [hu]
    simp [State.softRestart, State.berth]
  refine ⟨?_, ?_, by rw [hu]; rfl, rfl, hberth, ?_, fun p => ?_, ?_, rfl, rfl, rfl, rfl, rfl, rfl, rfl, fun h => ?_,
    fun c w h hw => ?_, fun c since h hs => ?_, rfl, rfl, rfl, rfl, rfl, rfl, ?_, rfl, rfl, rfl, rfl, ?_, by rw [hu]; rfl,
    by rw [hu]; rfl⟩
  · rw [hu]
    rfl
  · rw [State.secondsSinceStart]
    split
    · exact (congrArg (min 4294967295) (by simp [State.softRestart, Startup.softRestart])).trans (Nat.min_zero _)
    · rfl
  · exact fun p => Vector.getElem_replicate ..
  · rw [hlinks]
    simp only [Link.softRestart, Link.initial, and_self]
  · have hcounters : ∀ p : Port, u.softRestart.links[p].counters = .zero := fun p => by rw [hlinks]; rfl
    have hflat : (allPorts.flatMap fun p => u.softRestart.links[p].counters.list) = allPorts.flatMap fun _ => LinkCounters.zero.list :=
      by simp only [hcounters]
    rw [State.everyCounter, hflat]
    rfl
  · rw [← h, hu]
    simp only [State.softRestart, Trunk.softRestart, h]
  · rw [hu]
    simp only [State.softRestart, Trunk.softRestart, h, hw]
  · rw [hu]
    simp only [State.softRestart, Trunk.softRestart, h, hs]
  · exact fun p => ⟨by simp [State.currentId, State.berthVoice, State.softRestart, VoiceArb.initial, Serving.current],
      by simp [State.berthVoice, State.softRestart, VoiceArb.initial]⟩
  · intro c
    rw [hu]
    simp [State.softRestart, State.chan, CarryCtl.initial, Channel.allInitial, State.image]

/-- Settles O13. -/
theorem softRestartKeepsAndClears : Obligations.SoftRestartKeepsAndClears := by
  refine fun s t0 => ⟨fun hsome => ⟨?_, ?_⟩, fun hnone => ⟨?_, ?_⟩⟩
  · exact ⟨s.softRestart, congrArg Host.Outcome.next (if_pos (by rw [hsome]; rfl)), rfl, State.softRestarted_softRestart rfl⟩
  · exact ⟨(s.reach t0).softRestart, by simp only [exec, execRestartPendingTimeout, hsome], rfl,
      State.softRestarted_softRestart rfl⟩
  · exact congrArg Host.Outcome.next (if_neg (by rw [hnone]; nofun))
  · simp only [exec, execRestartPendingTimeout, hnone]

end Sys2Proof.Machine
end

section
/-! Bytes, words and the trunk packets that carry them (R196, R197), and what the receive side reads in them (R171, R198): O19 and O27. -/

namespace Sys2Proof.Machine

/-! ## Words -/

theorem byteOf_toNat (n : Nat) : (byteOf n).toNat = n % 256 := BitVec.toNat_ofNat ..

theorem byteOf_toNat_of_lt {n : Nat} (h : n < 256) : (byteOf n).toNat = n := by rw [byteOf_toNat, Nat.mod_eq_of_lt h]

/-- Two bytes of a word give the word. -/
theorem wordOf_bytes (w : BitVec 16) : wordOf (byteOf (w.toNat / 256)) (byteOf w.toNat) = w := by
  have hw := w.isLt
  refine BitVec.eq_of_toNat_eq ?_
  rw [wordOf, BitVec.toNat_ofNat, byteOf_toNat, byteOf_toNat]
  omega

@[simp] theorem wordBytes_length (w : BitVec 16) : (wordBytes w).length = 2 := rfl

@[simp] theorem crcBytes_length (c : BitVec 32) : (crcBytes c).length = 4 := rfl

@[simp] theorem sampleBytes_length (l : List Sample) : (sampleBytes l).length = 2 * l.length := by
  simp [sampleBytes, List.length_flatMap, Nat.mul_comm]

@[simp] theorem frameBytes_length (l : List StereoFrame) : (frameBytes l).length = 4 * l.length := by
  simp [frameBytes, List.length_flatMap, Nat.mul_comm]

/-- Samples sent are read as they were. -/
theorem samplesOf_sampleBytes (l : List Sample) : samplesOf (sampleBytes l) = l := by
  induction l with
  | nil => rfl
  | cons x l ih =>
    change wordOf _ _ :: samplesOf (sampleBytes l) = x :: l
    rw [wordOf_bytes, ih]

/-- Stereo frames sent are read as they were. -/
theorem framesOf_frameBytes (l : List StereoFrame) : framesOf (frameBytes l) = l := by
  induction l with
  | nil => rfl
  | cons x l ih =>
    change StereoFrame.mk (wordOf _ _) (wordOf _ _) :: framesOf (frameBytes l) = x :: l
    rw [wordOf_bytes, wordOf_bytes, ih]

/-! ## A packet and its fill -/

section
variable (kind source : Nat) (body : List Byte)

/-- What the CRC of a packet is computed over: header and body (R196). -/
def packetHead : List Byte := byteOf kind :: byteOf source :: (wordBytes (BitVec.ofNat 16 (body.length + 8)) ++ body)

theorem packetHead_length : (packetHead kind source body).length = body.length + 4 := by
  simp [packetHead]
  omega

theorem packetBytesOf_eq : packetBytesOf kind source body =
    packetHead kind source body ++ crcBytes (crc32 (packetHead kind source body)) := rfl

theorem packetBytesOf_length : (packetBytesOf kind source body).length = body.length + 8 := by
  rw [packetBytesOf_eq, List.length_append, packetHead_length, crcBytes_length]

variable (fill : List Byte)

/-- Kind, source and length stand at the head (R196). -/
theorem packetBytesOf_header : byteAt (packetBytesOf kind source body ++ fill) 0 = kind % 256 ∧
    byteAt (packetBytesOf kind source body ++ fill) 1 = source % 256 ∧
    wordAt (packetBytesOf kind source body ++ fill) 2 = (body.length + 8) % 65536 := by
  have hword : ∀ w : BitVec 16, (byteOf (w.toNat / 256)).toNat * 256 + (byteOf w.toNat).toNat = w.toNat := fun w => by
    rw [byteOf_toNat, byteOf_toNat]
    omega
  exact ⟨byteOf_toNat _, byteOf_toNat _, (hword _).trans (BitVec.toNat_ofNat ..)⟩

/-- Header and body stand before the CRC. -/
theorem packetBytesOf_take : (packetBytesOf kind source body ++ fill).take (body.length + 4) = packetHead kind source body := by
  rw [packetBytesOf_eq, List.append_assoc, List.take_left' (packetHead_length ..)]

/-- The CRC closes the packet. -/
theorem packetBytesOf_drop : ((packetBytesOf kind source body ++ fill).drop (body.length + 4)).take 4 =
    crcBytes (crc32 (packetHead kind source body)) := by
  rw [packetBytesOf_eq, List.append_assoc, List.drop_left' (packetHead_length ..)]
  rfl

/-- The body stands between header and CRC. -/
theorem packetBytesOf_body : ((packetBytesOf kind source body ++ fill).drop 4).take body.length = body := by
  change ((body ++ _) ++ fill).take body.length = body
  rw [List.append_assoc, List.take_left]

end

/-- What the receive side finds in a packet with a good header (R171). -/
theorem receiveBytes_filled {kind source : Nat} {body : List Byte} (hkind : 1 ≤ kind ∧ kind ≤ 10)
    (hsource : 1 ≤ source ∧ source ≤ 30) (hbody : body.length ≤ 1403) :
    receiveBytes (filled (packetBytesOf kind source body)) =
      match readBody kind body with
      | some b => .good { source := source, body := b }
      | none => .headerError := by
  obtain ⟨h0, h1, h2⟩ := packetBytesOf_header kind source body (List.replicate (36 - (packetBytesOf kind source body).length) 0#8)
  have hlength : (filled (packetBytesOf kind source body)).length = max (body.length + 8) 36 := by
    rw [filled, List.length_append, List.length_replicate, packetBytesOf_length]
    omega
  rw [Nat.mod_eq_of_lt (by omega)] at h0 h1 h2
  rw [← filled] at h0 h1 h2
  simp only [receiveBytes, h0, h1, h2, hlength, Nat.add_sub_cancel]
  rw [if_neg (by omega), if_neg, if_neg (not_not.mpr ⟨hkind.1, hkind.2, hsource.1, hsource.2, by omega, by omega, trivial⟩)]
  · rw [filled, packetBytesOf_body] <;> rfl
  · refine not_not.mpr ⟨by omega, by omega, ?_⟩
    rw [show body.length + 8 - 4 = body.length + 4 by omega, filled, packetBytesOf_take, packetBytesOf_drop]

/-! ## Bodies of the kinds that chapter 12 lays out -/

/-- An item of an ACK is read as it was (R197). -/
theorem outcomeOf_outcomeCodes (o : BerthOutcome) :
    outcomeOf (byteOf (outcomeCodes o).1).toNat (byteOf (outcomeCodes o).2).toNat = some o := by
  cases o with
  | declined r => cases r <;> rfl
  | cut r => cases r <;> rfl
  | _ => rfl

theorem readItems_itemBytes {l : List AckItem} (h : ∀ i ∈ l, i.berth ≤ 255) : readItems (l.flatMap itemBytes) = some l := by
  induction l with
  | nil => rfl
  | cons i l ih =>
    have hi : i.berth ≤ 255 := h i List.mem_cons_self
    have hl := ih fun j hj => h j (List.mem_cons_of_mem i hj)
    change readItems (byteOf i.berth :: byteOf (outcomeCodes i.outcome).1 :: byteOf (outcomeCodes i.outcome).2 :: l.flatMap itemBytes) = _
    simp only [readItems, outcomeOf_outcomeCodes, hl, byteOf_toNat_of_lt (Nat.lt_succ_of_le hi)]

/-- The tail of an ANNOUNCE is read as it was (R197, R198). -/
theorem readTail_tailBytes {t : AnnTail} (h : ∀ i l, t = .speech i l → l.length = 48) : readTail (tailBytes t) = some t := by
  cases t with
  | leadIn => rfl
  | hold => rfl
  | fin r => cases r <;> rfl
  | speech i l =>
    have hl : (sampleBytes l).length = 96 := by rw [sampleBytes_length, h i l rfl]
    change (if (sampleBytes l).length = 96 then some (AnnTail.speech (wordOf _ _) (samplesOf (sampleBytes l))) else none) = _
    rw [if_pos hl, wordOf_bytes, samplesOf_sampleBytes]

/-- The descriptor of an ANNOUNCE is read as it was (R197). -/
theorem readDescriptor_descriptorBytes {d : Descriptor} (h : descriptorOk d = true) (hcaption : d.caption ≤ 255) (r : List Byte) :
    readDescriptor (descriptorBytes d ++ r) = some d := by
  obtain ⟨⟨origin, sequence⟩, cls, first, last, stop, language, caption⟩ := d
  simp only [descriptorOk, decide_eq_true_iff] at h hcaption
  have hclass : classOf (byteOf (annClassCode cls)).toNat = some cls := by cases cls <;> rfl
  change (match classOf (byteOf (annClassCode cls)).toNat with
    | none => none
    | some k => some (Descriptor.mk ⟨(byteOf origin).toNat, sequence⟩ k (byteOf first).toNat (byteOf last).toNat
        (byteOf stop).toNat (byteOf language).toNat (byteOf caption).toNat)) = _
  rw [hclass]
  simp only [byteOf_toNat, Option.some.injEq, Descriptor.mk.injEq, AnnId.mk.injEq, and_true, true_and]
  omega

/-- No outcome counts more than the items are. -/
theorem totals_foldl_le (l : List AckItem) (t : Totals) (n : Nat)
    (h : t.audio ≤ n ∧ t.caption ≤ n ∧ t.declined ≤ n ∧ t.cut ≤ n ∧ t.dismissed ≤ n ∧ t.missed ≤ n) :
    let u := l.foldl (fun t i => countOutcome t i.outcome) t
    u.audio ≤ n + l.length ∧ u.caption ≤ n + l.length ∧ u.declined ≤ n + l.length ∧ u.cut ≤ n + l.length ∧
      u.dismissed ≤ n + l.length ∧ u.missed ≤ n + l.length := by
  induction l generalizing t n with
  | nil => simpa using h
  | cons i l ih =>
    have hi := ih (countOutcome t i.outcome) (n + 1) (by cases i.outcome <;> simp only [countOutcome] <;> omega)
    rw [List.foldl_cons, List.length_cons, ← Nat.add_assoc, Nat.add_right_comm]
    exact hi

/-- The body of an encodable packet is read as it was, and fits a packet. -/
theorem readBody_bodyBytes {p : Packet} (h : encodable p = true) :
    readBody (kindCode p.body) (bodyBytes p.body) = some p.body ∧ (bodyBytes p.body).length ≤ 1403 := by
  obtain ⟨source, body⟩ := p
  simp only [encodable, Bool.and_eq_true] at h
  obtain ⟨⟨-, hok⟩, hfields⟩ := h
  cases body with
  | programAudio program trim sequence frames =>
    obtain ⟨hlow, hhigh, hlength⟩ := of_decide_eq_true hok
    have hprogram : program ≤ 255 := of_decide_eq_true hfields
    have htrim : (BitVec.ofInt 8 trim).toInt = trim :=
      BitVec.toInt_ofInt_eq_self (by decide) (by norm_num; omega) (by norm_num; omega)
    have hframes : (frameBytes frames).length = 192 := by rw [frameBytes_length, hlength]
    have hread : readBody 1 (bodyBytes (.programAudio program trim sequence frames)) =
        match (if (frameBytes frames).length = 192 then some (Body.programAudio (byteOf program).toNat (BitVec.ofInt 8 trim).toInt
          (wordOf (byteOf (sequence.toNat / 256)) (byteOf sequence.toNat)) (framesOf (frameBytes frames))) else none) with
        | some b => if bodyOk b then some b else none
        | none => none := rfl
    refine ⟨hread.trans ?_, ?_⟩
    · rw [if_pos hframes, byteOf_toNat_of_lt (Nat.lt_succ_of_le hprogram), htrim, wordOf_bytes, framesOf_frameBytes]
      exact if_pos hok
    · simp [bodyBytes, hlength]
  | announce d t =>
    have hcaption : d.caption ≤ 255 := of_decide_eq_true hfields
    have hd : descriptorOk d = true := by
      cases t <;> simp_all [bodyOk]
    have ht : ∀ i l, t = .speech i l → l.length = 48 := by
      rintro i l rfl
      simpa [bodyOk, hd] using hok
    have hread : readBody 5 (descriptorBytes d ++ tailBytes t) =
        match (match readDescriptor (descriptorBytes d ++ tailBytes t), readTail (tailBytes t) with
          | some d, some t => if 9 ≤ (descriptorBytes d ++ tailBytes t).length then some (Body.announce d t) else none
          | _, _ => none) with
        | some b => if bodyOk b then some b else none
        | none => none := rfl
    refine ⟨hread.trans ?_, ?_⟩
    · have hlength : 9 ≤ (descriptorBytes d ++ tailBytes t).length := by simp [descriptorBytes, tailBytes]
      rw [readDescriptor_descriptorBytes hd hcaption, readTail_tailBytes ht]
      simp only [if_pos hlength]
      exact if_pos hok
    · cases t with
      | speech i l => simp [bodyBytes, descriptorBytes, tailBytes, ht i l rfl]
      | _ => simp [bodyBytes, descriptorBytes, tailBytes]
  | ack id counts items =>
    simp only [bodyOk, Bool.and_eq_true, decide_eq_true_iff] at hok hfields
    obtain ⟨hlength, htotals⟩ := hok
    obtain ⟨horigin, hberths⟩ := hfields
    have hitems := readItems_itemBytes (l := items) (by simpa using hberths)
    have hcounts : counts.audio ≤ 12 ∧ counts.caption ≤ 12 ∧ counts.declined ≤ 12 ∧ counts.cut ≤ 12 ∧ counts.dismissed ≤ 12 ∧
        counts.missed ≤ 12 := by
      have h := totals_foldl_le items totalsZero 0 (by decide)
      rw [← totalsOf, ← htotals] at h
      dsimp only at h
      omega
    have hread : readBody 6 (bodyBytes (.ack id counts items)) =
        match ((readItems (items.flatMap itemBytes)).map fun l => Body.ack ⟨(byteOf id.origin).toNat, id.sequence⟩
          ⟨(byteOf counts.audio).toNat, (byteOf counts.caption).toNat, (byteOf counts.declined).toNat, (byteOf counts.cut).toNat,
            (byteOf counts.dismissed).toNat, (byteOf counts.missed).toNat⟩ l) with
        | some b => if bodyOk b then some b else none
        | none => none := rfl
    refine ⟨hread.trans ?_, ?_⟩
    · rw [hitems, byteOf_toNat_of_lt (by omega), byteOf_toNat_of_lt (by omega), byteOf_toNat_of_lt (by omega),
        byteOf_toNat_of_lt (by omega), byteOf_toNat_of_lt (by omega), byteOf_toNat_of_lt (by omega), byteOf_toNat_of_lt (by omega)]
      exact if_pos (by simp [bodyOk, hlength, htotals])
    · have hflat : (items.flatMap itemBytes).length = 3 * items.length := by
        simp [List.length_flatMap, itemBytes, Nat.mul_comm]
      simp [bodyBytes, totalsBytes, hflat]
      omega
  | _ => cases hfields

/-! ## The kinds that chapter 12 does not lay out -/

/-- A kind without a layout passes by its length alone (R198). -/
theorem readBody_of_free {kind : Nat} (hkind : kind = 2 ∨ kind = 3 ∨ kind = 4 ∨ (7 ≤ kind ∧ kind ≤ 10)) (l : List Byte) :
    readBody kind l = match (if leastLength kind ≤ l.length then readFree kind l else none) with
      | some b => if bodyOk b then some b else none
      | none => none := by
  obtain rfl | rfl | rfl | h := hkind
  · rfl
  · rfl
  · rfl
  · obtain rfl | rfl | rfl | rfl : kind = 7 ∨ kind = 8 ∨ kind = 9 ∨ kind = 10 := by omega
    all_goals rfl

theorem readBody_of_short {kind : Nat} (hkind : kind = 2 ∨ kind = 3 ∨ kind = 4 ∨ (7 ≤ kind ∧ kind ≤ 10)) {l : List Byte}
    (h : l.length < leastLength kind) : readBody kind l = none := by
  rw [readBody_of_free hkind, if_neg (Nat.not_le.mpr h)]

/-- A body long enough holds fields of its kind, free of content (log 5). -/
theorem readBody_of_long {kind : Nat} (hkind : kind = 3 ∨ kind = 4 ∨ (7 ≤ kind ∧ kind ≤ 10)) {l : List Byte}
    (h : leastLength kind ≤ l.length) : ∃ b, readBody kind l = some b ∧ kindCode b = kind := by
  rw [readBody_of_free (.inr hkind), if_pos h]
  obtain rfl | rfl | h := hkind
  · exact ⟨_, rfl, rfl⟩
  · exact ⟨_, rfl, rfl⟩
  · obtain rfl | rfl | rfl | rfl : kind = 7 ∨ kind = 8 ∨ kind = 9 ∨ kind = 10 := by omega
    all_goals exact ⟨_, rfl, rfl⟩

/-- A PROGRAM_VIDEO body of four bytes or more has a payload of all but three (R196). -/
theorem readBody_programVideo {l : List Byte} (hlow : 4 ≤ l.length) (hhigh : l.length ≤ 1403) :
    ∃ program q payload, readBody 2 l = some (.programVideo program q payload) ∧ payload.length = l.length - 3 := by
  rw [readBody_of_free (.inl rfl), if_pos (by exact hlow)]
  refine ⟨_, _, _, if_pos ?_, by rw [List.length_map, List.length_range]⟩
  simp only [bodyOk, List.length_map, List.length_range, decide_eq_true_iff]
  omega

/-- The ten kind codes (R196). -/
theorem kindCode_range (b : Body) : 1 ≤ kindCode b ∧ kindCode b ≤ 10 := by
  cases b <;> exact ⟨Nat.le_of_ble_eq_true rfl, Nat.le_of_ble_eq_true rfl⟩

/-- Settles O27. -/
theorem packetsSurviveTheTrunk : Obligations.PacketsSurviveTheTrunk := by
  refine ⟨fun p hp => ?_, fun p hsource hbody => ?_, fun source program q payload => ?_,
    fun kind source body hlow hhigh hbody => ?_⟩
  · obtain ⟨hread, hlength⟩ := readBody_bodyBytes hp
    have hsource : 1 ≤ p.source ∧ p.source ≤ 30 := by
      simp only [encodable, Bool.and_eq_true, decide_eq_true_iff] at hp
      exact hp.1.1
    rw [packetBytes, receiveBytes_filled (kindCode_range p.body) hsource hlength, hread]
  · intro l
    have hkind : kindCode p.body < 256 := by have := kindCode_range p.body; omega
    have hlength : l.length = (bodyBytes p.body).length + 8 := packetBytes_length p
    obtain ⟨h0, h1, h2⟩ := packetBytesOf_header (kindCode p.body) p.source (bodyBytes p.body) []
    have htake := packetBytesOf_take (kindCode p.body) p.source (bodyBytes p.body) []
    have hdrop := packetBytesOf_drop (kindCode p.body) p.source (bodyBytes p.body) []
    have hdata := packetBytesOf_body (kindCode p.body) p.source (bodyBytes p.body) []
    rw [List.append_nil] at h0 h1 h2 htake hdrop hdata
    refine ⟨by simp [wireBytes, filled, l], ?_, h0.trans (Nat.mod_eq_of_lt hkind), h1.trans (Nat.mod_eq_of_lt (by omega)), ?_, ?_, ?_⟩
    · rw [hlength]
      exact occupancy_eq p
    · rw [hlength]
      exact h2.trans (Nat.mod_eq_of_lt (by omega))
    · rw [hlength, Nat.add_sub_cancel]
      exact hdata
    · rw [hlength, show (bodyBytes p.body).length + 8 - 4 = (bodyBytes p.body).length + 4 by omega]
      refine (congrArg (fun x => crcBytes (crc32 x)) htake).trans (hdrop.symm.trans (List.take_of_length_le ?_))
      rw [List.length_drop, packetBytesOf_length]
      omega
  · rw [packetBytes_length]
    simp [bodyBytes, freeLength]
    omega
  · intro l
    have hreceive := fun hkind : 1 ≤ kind ∧ kind ≤ 10 => receiveBytes_filled (body := body) hkind ⟨hlow, hhigh⟩ hbody
    refine ⟨?_, ?_, fun hkind => ⟨fun h => ?_, fun h => ?_⟩, ?_, ?_, ?_, ?_⟩
    · rintro rfl h
      obtain ⟨program, q, payload, hread, hpayload⟩ := readBody_programVideo h hbody
      exact ⟨program, q, payload, (hreceive (by decide)).trans (by rw [hread]), by omega⟩
    · rintro rfl h
      exact (hreceive (by decide)).trans (by rw [readBody_of_short (.inl rfl) h])
    · obtain ⟨b, hread, hb⟩ := readBody_of_long hkind h
      exact ⟨b, (hreceive (by omega)).trans (by rw [hread]), hb⟩
    · exact (hreceive (by omega)).trans (by rw [readBody_of_short (.inr hkind) h])
    · rintro rfl
      exact leastBytes_le_leastLength 7
    · rintro rfl
      exact leastBytes_le_leastLength 8
    · rintro rfl
      exact leastBytes_le_leastLength 9
    · rintro rfl
      exact leastBytes_le_leastLength 10

/-! ## The checks of the receive side -/

/-- Settles O19. -/
theorem receiveSideChecks : Obligations.ReceiveSideChecks := by
  refine ⟨fun i p s hi => ?_, fun l s hlistens => ?_⟩
  · rw [exec_of_receivedPacket s hi]
    refine ⟨fun hloading => ?_, fun hlistens hbad => ?_, fun hlistens hlow hhigh hok hown => ?_⟩
    · exact congrArg Host.Outcome.next (if_neg (by simp [State.listens, hloading]))
    · rw [State.receive, if_pos hlistens, State.takeGood, if_pos]
      · rfl
      · obtain h | h | h := hbad
        · exact .inl (by omega)
        · exact .inl (by omega)
        · exact .inr h
    · rw [State.receive, if_pos hlistens, State.takeGood, if_neg (by simp [hok]; omega), if_pos (by exact hown)]
      rfl
  · have hexec : exec (.trunkPacketDiscarded l) s = .next (match receiveBytes l with
        | .debris => s.carrierEnds
        | .crcError => s.carrierEnds.modTrunk fun t => { t with crcError := bump t.crcError }
        | .headerError => s.carrierEnds.countHeaderError
        | .good p => s.carrierEnds.takeGood p) := by
      refine (if_pos hlistens).trans ?_
      cases receiveBytes l <;> rfl
    rw [hexec]
    refine ⟨fun h => ?_, fun h hlow hhigh hcrc => ?_, fun h hlow hhigh hcrc hbad => ?_⟩
    · rw [receiveBytes, if_pos h]
      rfl
    · rw [receiveBytes, if_neg (Nat.not_lt.mpr h), if_pos fun hgood => hcrc hgood.2.2]
      rfl
    · rw [receiveBytes, if_neg (Nat.not_lt.mpr h), if_neg (not_not.mpr ⟨hlow, hhigh, hcrc⟩), if_pos (by omega)]
      rfl

end Sys2Proof.Machine
end

section
/-! The frames of the seat links (R199, R200): O28. -/

namespace Sys2Proof.Machine

/-- A frame opens with its kind and closes with the check over kind and body (R199). -/
theorem framed_eq (kind : Byte) (body : List Byte) : ∃ hi lo, framed kind body = kind :: (body ++ [hi, lo]) ∧
    wordOf hi lo = crc16 (kind :: body) :=
  ⟨_, _, rfl, wordOf_bytes _⟩

/-- A REQUEST frame with a good check names a request, or none of the nine kinds (R200). -/
theorem readRequest_requestFrame (kind value flags : Byte) : readRequest (requestFrame kind value flags) =
    match requestOf kind value flags with
    | some r => .inr r
    | none => .inl .unknownKind := by
  change (if wordBytes (crc16 [0x22#8, kind, value, flags]) ≠ wordBytes (crc16 [0x22#8, kind, value, flags]) then _
    else if (0x22#8 : Byte) ≠ 0x22#8 then _ else _) = _
  rw [if_neg (not_not.mpr rfl), if_neg (not_not.mpr rfl)] <;> cases requestOf kind value flags <;> rfl

/-- A request is named by its kind code, 1..9 (R200). -/
theorem requestCode_of_requestOf {kind value flags : Byte} {r : PassengerRequest} (h : requestOf kind value flags = some r) :
    kind.toNat = requestCode (requestKind r) := by
  unfold requestOf at h
  dsimp only at h
  split at h <;> cases h <;> assumption

/-- A kind code outside 1..9 names no request (R200). -/
theorem requestOf_eq_none {kind value flags : Byte} (h : kind.toNat = 0 ∨ 9 < kind.toNat) : requestOf kind value flags = none := by
  cases hr : requestOf kind value flags with
  | none => rfl
  | some r =>
    have hcode := requestCode_of_requestOf hr
    have hrange : 1 ≤ requestCode (requestKind r) ∧ requestCode (requestKind r) ≤ 9 := by
      cases r <;> exact ⟨Nat.le_of_ble_eq_true rfl, Nat.le_of_ble_eq_true rfl⟩
    omega

/-- A byte put in a place of a list is there. -/
theorem mem_set_mod {α : Type} (l : List α) (i : Nat) (x : α) (h : 0 < l.length) : x ∈ l.set (i % l.length) x :=
  List.mem_of_getElem (by rw [List.getElem_set_self]; exact (List.length_set ..).symm ▸ Nat.mod_lt i h)

/-- An ANSWER frame names its request kind by the code of the request (R199). -/
theorem mem_seatBody_answer {kind value flags : Byte} {r : PassengerRequest} (h : requestOf kind value flags = some r) (a : Answer) :
    kind ∈ seatBody (.answer (requestKind r) a) := by
  have hkind : byteOf (requestCode (requestKind r)) = kind := by
    rw [← requestCode_of_requestOf h]
    simp [byteOf]
  have hlength : 0 < (SeatFrame.answer (requestKind r) a).freeBytes.length := by
    have hfields := SeatFrame.freeBytes_length (SeatFrame.answer (requestKind r) a)
    simp only [SeatFrame.fields, List.map_cons, List.map_nil, List.sum_cons, List.sum_nil] at hfields
    omega
  have h := mem_set_mod (SeatFrame.answer (requestKind r) a).freeBytes Config.answerPlace kind hlength
  rw [← hkind] at h ⊢
  exact h

/-- Settles O28. -/
theorem requestFramesAreRead : Obligations.RequestFramesAreRead := by
  intro p kind value flags s
  have hexec : ∀ l, exec (.request p l) s = match readRequest l with
      | .inl cause => .next (s.frameError p cause)
      | .inr r => .next (s.takeRequest p r) := fun l => by
    change execRequest p l s = _
    rw [execRequest] <;> cases readRequest l <;> rfl
  refine ⟨fun r hr => ?_, fun hkind => ?_, fun hi lo hcheck => ?_, fun hkind => ?_, fun hkind => ?_, fun f => framed_eq _ _,
    fun r a hr => mem_seatBody_answer hr a, fun info l => ?_, ⟨_, _, rfl⟩, ⟨_, _, rfl⟩⟩
  · rw [hexec, readRequest_requestFrame, hr]
  · rw [hexec, readRequest_requestFrame, requestOf_eq_none hkind]
  · rw [hexec, show readRequest [0x22#8, kind, value, flags, hi, lo] = .inl .badCheck from if_pos hcheck]
  · rw [hkind]
    rfl
  · rw [hkind]
    rfl
  · exact ⟨_, _, _, rfl, wordOf_bytes info, framesOf_frameBytes l, frameBytes_length l⟩

end Sys2Proof.Machine
end

section
/-! The panel port and the Originator (chapter 5): O54, O53, O52, O51. -/

namespace Sys2Proof.Machine

/-! ## The port's gate (R89) -/

section
variable {s : State}

theorem State.panelGate_of_running (hrun : s.running = true) (hpanel : s.image.panel = true) : s.panelGate = .open_ := by
  rw [State.panelGate, if_pos hpanel, beq_iff_eq.mp hrun]

theorem State.panelGate_of_loading (h : s.loading = true) (hpanel : s.image.panel = true) : s.panelGate = .discard := by
  rw [State.panelGate, if_pos hpanel, beq_iff_eq.mp h]

theorem State.panelGate_of_listening (h : s.startup.state = .listening) (hpanel : s.image.panel = true) : s.panelGate = .listening := by
  rw [State.panelGate, if_pos hpanel, h]

theorem State.panelGate_of_closed (h : s.startup.state = .strapFault ∨ s.image.panel = false) : s.panelGate = .notEnabled := by
  rw [State.panelGate]
  split
  · next hpanel =>
    obtain h | h := h
    · rw [h]
    · rw [h] at hpanel
      cases hpanel
  · rfl

end

/-! ## The END packet and the collection -/

/-- In RUNNING an ANNOUNCE packet feeds the trunk (R101). -/
theorem State.sendAnnounce_of_running {s : State} (hrun : s.running = true) {d : Descriptor} (hd : s.orig.desc = some d) (tail : AnnTail) :
    s.sendAnnounce tail = { s with trunk := s.trunk.fed (handedBy s s (.announce d tail)) } := by
  rw [State.sendAnnounce, hd]
  exact State.handOver_of_running hrun _

/-- An ANNOUNCE packet changes the trunk alone. -/
theorem State.sendAnnounce_eq (s : State) (tail : AnnTail) :
    s.sendAnnounce tail = { s with trunk := (s.sendAnnounce tail).trunk } := by
  rw [State.sendAnnounce]
  split
  · rfl
  · exact (State.handOver_only s _).eq

/-- The collection closes with its OUTCOME (R103, R104). -/
theorem State.closeCollection_of_table {s : State} {a : AckTable} (ha : s.orig.ackTable = some a) (r : Result) :
    s.closeCollection r = { s with orig := { s.orig with
      state := .idle, desc := none, nextHold := none,
      notices := s.orig.notices ++ [.outcome a.id r a.totals (a.expected.filter fun x => !a.acked.contains x)],
      ackTable := some { a with closed := true, result := some r,
                                missing := a.expected.filter fun x => !a.acked.contains x, windowEnd := none } } } := by
  rw [State.closeCollection, ha]
  rfl

/-- No station is missing from a covered collection. -/
theorem missing_of_covered {a : AckTable} (h : ackCovered a = true) : (a.expected.filter fun x => !a.acked.contains x) = [] := by
  rw [List.filter_eq_nil_iff]
  intro x hx
  simpa using (List.all_eq_true.mp h) x hx

/-- The Originator once its END packet has been handed over: COLLECTING up to the end of a window, or IDLE at once when every
expected station has acknowledged (R100, R103). -/
def Originator.ended (o : Originator) (windowEnd : Time) : Originator :=
  match o.ackTable with
  | none => { o with state := .collecting, nextHold := none }
  | some a =>
    if ackCovered a then
      { o with state := .idle, desc := none, nextHold := none,
               notices := o.notices ++ [.outcome a.id .delivered a.totals []],
               ackTable := some { a with closed := true, result := some .delivered, missing := [], windowEnd := none } }
    else { o with state := .collecting, nextHold := none, ackTable := some { a with windowEnd := some windowEnd } }

theorem State.sendEnd_eq (u : State) (r : EndReason) : u.sendEnd r =
    { u with trunk := (u.sendAnnounce (.fin r)).trunk, orig := u.orig.ended (u.now + ms 500) } := by
  have hsent := State.sendAnnounce_eq u (.fin r)
  rw [State.sendEnd, hsent]
  cases ha : u.orig.ackTable with
  | none => simp only [State.modOrig, Originator.ended, ha, Option.map_none]
  | some a =>
    simp only [State.modOrig, Originator.ended, ha, Option.map_some]
    by_cases hcovered : ackCovered a = true
    · have hmissing := missing_of_covered hcovered
      rw [if_pos hcovered, if_pos (by exact hcovered), State.closeCollection_of_table rfl]
      simp only [hmissing]
    · rw [if_neg hcovered, if_neg (by exact hcovered)]

theorem Originator.ended_discard (o : Originator) (w : Time) : (o.ended w).discard = o.discard := by
  unfold Originator.ended
  split
  · rfl
  · split <;> rfl

/-- The Originator ends its announcement, as the statements say it. -/
theorem announcementEnds_sendEnd {s u : State} (hu : u = { s with now := u.now, orig := u.orig }) (hrun : s.running = true)
    (hdesc : u.orig.desc = s.orig.desc) (htable : u.orig.ackTable = s.orig.ackTable) {n : List Notice}
    (hnotices : u.orig.notices = s.orig.notices ++ n) (r : EndReason) : announcementEnds s (u.sendEnd r) r n := by
  have hrun' : u.running = true := by rw [hu]; exact hrun
  intro d a hd ha
  have hsent := State.sendAnnounce_of_running hrun' (hdesc.trans hd) (.fin r)
  have hended := State.sendEnd_eq u r
  rw [hsent] at hended
  have ha' := htable.trans ha
  rw [hended]
  refine ⟨queuedA_of_fed rfl ?_, ?_, fun hopen => ?_, fun hcovered => ?_⟩
  · rw [hu]
    rfl
  · rw [hu]
  · simp only [Originator.ended, ha', hopen, Bool.false_eq_true, if_false, hnotices, and_self]
  · simp only [Originator.ended, ha', hcovered, if_true, hnotices, and_self]

/-! ## ACK records -/

theorem mem_joinSet (l : List Nat) (x y : Nat) : y ∈ joinSet l x ↔ y = x ∨ y ∈ l := by
  unfold joinSet
  split
  · next h =>
    have hx : x ∈ l := by simpa using h
    exact ⟨.inr, fun h => h.elim (fun e => e ▸ hx) id⟩
  · exact mem_insertBefore ..

/-- A station's ACK covers the table when it was the last expected (R103). -/
theorem ackCovered_ackTaken (a : AckTable) (station : Nat) (c : Totals) :
    ackCovered (ackTaken a station c) = true ↔ ∀ x ∈ a.expected, x = station ∨ x ∈ a.acked := by
  simp [ackCovered, ackTaken, mem_joinSet]

/-- Settles O54. -/
theorem acksAreCollected : Obligations.AcksAreCollected := by
  intro s source id items a hsource hrun hpanel hlength ha c
  have hok : bodyOk (.ack id c items) = true := by simp [bodyOk, hlength, c]
  have hexec : exec (.ack source id c items) s = .next ((s.heard source).takeAck source id c) :=
    congrArg Host.Outcome.next (State.receive_of_takesFrom (b := .ack id c items) hsource hok)
  have htake : (s.heard source).takeAck source id c =
      if a.closed = false ∧ a.id = id ∧ a.acked.contains source = false then
        if s.orig.state = .collecting ∧ ackCovered (ackTaken a source c) = true
        then ((s.heard source).modOrig fun o => { o with ackTable := some (ackTaken a source c) }).closeCollection .delivered
        else (s.heard source).modOrig fun o => { o with ackTable := some (ackTaken a source c) }
      else s.heard source := by
    rw [State.takeAck, if_pos (by exact (Bool.and_eq_true ..).mpr ⟨hrun, hpanel⟩),
      show (s.heard source).orig.ackTable = some a from ha]
    rfl
  have hacked : ∀ x, x ∈ (ackTaken a source c).acked ↔ x = source ∨ x ∈ a.acked := mem_joinSet a.acked source
  have hfailed : ∀ x, x ∈ (ackTaken a source c).failed ↔
      (x = source ∧ (0 < c.declined ∨ 0 < c.cut ∨ 0 < c.missed)) ∨ x ∈ a.failed := fun x => by
    rw [ackTaken]
    dsimp only
    split
    · next h => rw [mem_joinSet]; exact or_congr (iff_of_eq (by simp [h])) .rfl
    · next h => simp [h]
  refine ⟨fun hpassed => ?_, fun hopen hid hnew => ?_⟩
  · rw [hexec, htake, if_neg]
    rintro ⟨hopen, hid, hnew⟩
    obtain h | h | h := hpassed
    · rw [hopen] at h; cases h
    · exact h hid
    · rw [hnew] at h; cases h
  · rw [if_pos ⟨hopen, hid, hnew⟩] at htake
    by_cases hclose : s.orig.state = .collecting ∧ ackCovered (ackTaken a source c) = true
    · obtain ⟨hcollecting, hcovered⟩ := hclose
      have hmissing := missing_of_covered hcovered
      rw [if_pos ⟨hcollecting, hcovered⟩, State.closeCollection_of_table rfl] at htake
      refine ⟨_, _, hexec.trans (congrArg _ htake), rfl, rfl, hacked, rfl, hfailed, fun _ _ => ⟨rfl, rfl, rfl, ?_⟩, fun hno => ?_⟩
      · subst hid
        simp only [hmissing]
        rfl
      · rw [ackCovered_ackTaken] at hcovered
        obtain h | ⟨x, hx, hne, hout⟩ := hno
        · exact absurd hcollecting h
        · exact absurd (hcovered x hx) (not_or.mpr ⟨hne, hout⟩)
    · rw [if_neg hclose] at htake
      refine ⟨_, _, hexec.trans (congrArg _ htake), rfl, rfl, hacked, rfl, hfailed, fun hcollecting hall => ?_,
        fun _ => ⟨rfl, rfl, hopen⟩⟩
      exact absurd ⟨hcollecting, (ackCovered_ackTaken a source c).mpr hall⟩ hclose

/-! ## The Originator's timers -/

/-- Settles O53. -/
theorem originatorTimers : Obligations.OriginatorTimers := by
  intro s d hd
  refine ⟨fun hlead hfew => ?_, fun hlead => ?_, fun t0 hspeech hhold hbefore => ?_, fun hspeech hrun => ?_, fun a w hcollecting ha hw => ?_⟩
  · refine ⟨((s.reach (s.orig.accepted + ms (10 * s.orig.leadIns))).sendAnnounce .leadIn).modOrig fun o => { o with leadIns := o.leadIns + 1 },
      if_pos ⟨hlead, hfew⟩, ?_, fun hrun => queuedA_of_fed rfl ?_⟩
    · rw [State.sendAnnounce_eq]
      rfl
    · rw [State.sendAnnounce_of_running (s := s.reach _) hrun hd]
      rfl
  · exact ⟨_, by simp only [exec, execLeadInComplete, hlead, hd]; rfl, rfl⟩
  · refine ⟨((s.reach t0).sendAnnounce .hold).modOrig fun o => { o with nextHold := some (t0 + ms 100) },
      by simp only [exec, execHoldTimer, hspeech, hhold, if_pos hbefore], ?_, fun hrun => queuedA_of_fed rfl ?_⟩
    · rw [State.sendAnnounce_eq]
      rfl
    · rw [State.sendAnnounce_of_running (s := s.reach t0) hrun hd]
      rfl
  · refine ⟨(s.reach (s.orig.lastAudio + ms 5000)).sendEnd .panelLost, by simp only [exec, execPanelLost, hspeech], ?_,
      announcementEnds_sendEnd (u := s.reach _) rfl hrun rfl rfl (List.append_nil _).symm .panelLost⟩
    rw [State.sendEnd_eq]
    rfl
  · refine ⟨(s.reach w).closeCollection .missing, by simp only [exec, execWindowEnd, hcollecting, ha, hw], ?_, ?_, ?_⟩
    all_goals rw [State.closeCollection_of_table (s := s.reach w) ha]
    all_goals rfl

/-! ## Panel requests -/

section
variable {s : State} (hrun : s.running = true) (hpanel : s.image.panel = true)
include hrun hpanel

omit hpanel in
/-- An announcement ended by the panel. -/
theorem panel_sendEnd (r : EndReason) (n : Notice) :
    ((s.notify n).sendEnd r).now = s.now ∧ announcementEnds s ((s.notify n).sendEnd r) r [n] := by
  refine ⟨?_, announcementEnds_sendEnd (u := s.notify n) rfl hrun rfl rfl rfl r⟩
  rw [State.sendEnd_eq]
  rfl

theorem exec_panelAudio_open (l : List Sample) : exec (.panelAudio l) s = .next (s.takePanelAudio l) := by
  simp only [exec, execPanelAudio, State.panelGate_of_running hrun hpanel]

theorem exec_panelEnd_open : exec .panelEnd s = .next s.takePanelEnd := by
  simp only [exec, execPanelEnd, State.panelGate_of_running hrun hpanel]

theorem exec_abort_open : exec .abort s = .next s.takeAbort := by
  simp only [exec, execAbort, State.panelGate_of_running hrun hpanel]

theorem exec_beginAnn_open (cls first last stop language caption : Nat) : exec (.beginAnn cls first last stop language caption) s =
    .next (s.checkBegin cls first last stop language caption) := by
  simp only [exec, execBeginAnn, State.panelGate_of_running hrun hpanel]

end

/-- Settles O52. -/
theorem panelRequestsByState : Obligations.PanelRequestsByState := by
  intro s hrun hpanel
  have hend := fun r n => panel_sendEnd (s := s) hrun r n
  refine ⟨fun l i hspeech hi => ?_, fun l hspeech hspent => ?_, fun hlead => ⟨fun l => ?_, ?_, ?_⟩, fun hspeech => ⟨?_, ?_⟩,
    fun hother => ⟨fun l => ?_, ?_, ?_⟩, ?_⟩
  · refine ⟨_, (exec_panelAudio_open hrun hpanel l).trans (by simp only [State.takePanelAudio, hspeech, hi]; rfl), ?_, ?_, fun d hd => ?_⟩
    · rw [State.sendAnnounce_eq]
      rfl
    · rw [State.sendAnnounce_eq]
      have hlast : i = 65535#16 ↔ i.toNat = 65535 := by rw [← BitVec.toNat_inj]; rfl
      simp only [State.modOrig, hlast]
    · refine queuedA_of_fed rfl ?_
      rw [State.sendAnnounce_of_running hrun hd]
      rfl
  · have hends := announcementEnds_sendEnd (s := s) (u := s) rfl hrun rfl rfl (List.append_nil _).symm .normal
    refine ⟨(s.sendEnd .normal).countDiscard, (exec_panelAudio_open hrun hpanel l).trans (by simp only [State.takePanelAudio, hspeech, hspent]),
      ?_, fun d a hd ha => ?_, ?_⟩
    · rw [State.sendEnd_eq]
      rfl
    · obtain ⟨hqueued, hframe, hopen, hcovered⟩ := hends d a hd ha
      exact ⟨hqueued, congrArg State.countDiscard hframe, hopen, hcovered⟩
    · rw [State.sendEnd_eq]
      exact congrArg bump (Originator.ended_discard ..)
  · rw [exec_panelAudio_open hrun hpanel, State.takePanelAudio, hlead]
    rfl
  · exact ⟨_, (exec_panelEnd_open hrun hpanel).trans (by simp only [State.takePanelEnd, hlead]), hend _ _⟩
  · exact ⟨_, (exec_abort_open hrun hpanel).trans (by simp only [State.takeAbort, hlead]), hend _ _⟩
  · exact ⟨_, (exec_panelEnd_open hrun hpanel).trans (by simp only [State.takePanelEnd, hspeech]), hend _ _⟩
  · exact ⟨_, (exec_abort_open hrun hpanel).trans (by simp only [State.takeAbort, hspeech]), hend _ _⟩
  · rw [exec_panelAudio_open hrun hpanel, State.takePanelAudio]
    obtain h | h := hother <;> rw [h] <;> rfl
  · rw [exec_panelEnd_open hrun hpanel, State.takePanelEnd]
    obtain h | h := hother <;> rw [h] <;> rfl
  · rw [exec_abort_open hrun hpanel, State.takeAbort]
    obtain h | h := hother <;> rw [h] <;> rfl
  · have hloading : s.loading = false := by rw [State.loading, beq_iff_eq.mp hrun]; rfl
    exact if_pos (by simp [hpanel, hloading])

/-! ## BEGIN -/

/-- What a BEGIN accepted in a state leaves of the Originator (R93). -/
theorem State.acceptBegin_eq {u : State} (hrun : u.running = true) (k : AnnClass) (first last stop language caption : Nat) :
    let d : Descriptor := { id := { origin := u.startup.station, sequence := u.orig.sequence + 1 }, cls := k, first := first,
                            last := last, stop := stop, language := language, caption := caption }
    u.acceptBegin k first last stop language caption = { u with
      trunk := u.trunk.fed (handedBy u u (.announce d .leadIn)),
      orig := { u.orig with
        sequence := u.orig.sequence + 1, desc := some d,
        ackTable := some { id := d.id, cls := k, first := first, last := last, closed := false,
                           expected := u.expectedSet first last, acked := [], failed := [], totals := totalsZero,
                           windowEnd := none, result := none, missing := [] },
        notices := u.orig.notices ++ [.accepted .begin],
        state := .leadIn, accepted := u.now, leadIns := 1, nextBlock := .index 0, lastAudio := u.now, nextHold := none } } := by
  intro d
  rw [State.acceptBegin]
  dsimp only
  rw [State.sendAnnounce_of_running (by exact hrun) rfl]
  rfl

/-- The checks of a BEGIN, in their order (R92). -/
theorem State.checkBegin_of_good {s : State} {cls first last stop language : Nat} (caption : Nat) {k : AnnClass} (hfirst : 1 ≤ first)
    (horder : first ≤ last) (hlast : last ≤ 240) (hk : classOf cls = some k) (hstop : stop ≤ 99) (hlanguage : language ≤ 3) :
    s.checkBegin cls first last stop language caption =
      if s.orig.state = .idle then s.acceptBegin k first last stop language caption
      else if k = .emergency then s.supersede.acceptBegin k first last stop language caption
      else s.refusePanel .begin .busy := by
  rw [State.checkBegin, if_neg (by omega), hk]
  dsimp only
  rw [if_neg (by omega)]

/-- The expected set reads the peers, the time and the image alone. -/
theorem State.expectedSet_congr {s u : State} (hpeers : u.trunk.peers = s.trunk.peers) (hnow : u.now = s.now)
    (hstartup : u.startup = s.startup) (first last : Nat) : u.expectedSet first last = s.expectedSet first last := by
  simp only [State.expectedSet, State.ownRange, State.image, hpeers, hnow, hstartup]
  rfl

/-- Feeding the trunk leaves the peer list. -/
theorem Trunk.fed_peers (t : Trunk) (x : TxPacket) : (t.fed x).peers = t.peers := by
  rw [Trunk.fed, Trunk.take_frame]
  unfold Trunk.enqueue
  split
  · rfl
  · rfl
  · split <;> rfl

/-- An EMERGENCY BEGIN closes what is in progress SUPERSEDED, an announcement that has not ended having sent its END (R96, R97). -/
theorem State.supersede_eq {s : State} (hrun : s.running = true) {a : AckTable} {d0 : Descriptor} (hidle : s.orig.state ≠ .idle)
    (ha : s.orig.ackTable = some a) (hd0 : s.orig.desc = some d0) :
    s.supersede = { s with
      trunk := if s.orig.state = .collecting then s.trunk else s.trunk.fed (handedBy s s (.announce d0 (.fin .aborted))),
      orig := { s.orig with
        state := .idle, desc := none, nextHold := none,
        notices := s.orig.notices ++ [.outcome a.id .superseded a.totals (a.expected.filter fun x => !a.acked.contains x)],
        ackTable := some { a with closed := true, result := some .superseded,
                                  missing := a.expected.filter fun x => !a.acked.contains x, windowEnd := none } } } := by
  have hsent := State.sendAnnounce_of_running hrun hd0 (.fin .aborted)
  unfold State.supersede
  cases hstate : s.orig.state with
  | idle => exact absurd hstate hidle
  | collecting => exact State.closeCollection_of_table ha _
  | leadIn =>
    change State.closeCollection _ _ = _
    rw [hsent, State.closeCollection_of_table (by exact ha)]
    rfl
  | speech =>
    change State.closeCollection _ _ = _
    rw [hsent, State.closeCollection_of_table (by exact ha)]
    rfl

/-- Settles O51. -/
theorem beginIsChecked : Obligations.BeginIsChecked := by
  intro s cls first last stop language caption hrun hpanel
  have hexec := exec_beginAnn_open hrun hpanel cls first last stop language caption
  refine ⟨fun hbad => hexec.trans (congrArg _ (if_pos hbad)), fun k hfirst horder hlast hk hstop hlanguage => ?_⟩
  intro d accepted
  rw [State.checkBegin_of_good caption hfirst horder hlast hk hstop hlanguage] at hexec
  refine ⟨fun hidle => ?_, fun hbusy hclass => ?_, fun hbusy hclass a d0 ha hd0 => ?_⟩
  · rw [if_pos hidle, State.acceptBegin_eq hrun] at hexec
    exact ⟨_, hexec, ⟨rfl, rfl, rfl, rfl, rfl, rfl, rfl, by rw [List.append_nil], rfl⟩, queuedA_of_fed rfl rfl⟩
  · rw [if_neg hbusy, if_neg hclass] at hexec
    exact hexec
  · have hsup := State.supersede_eq hrun hbusy ha hd0
    have hrun' : s.supersede.running = true := by rw [hsup]; exact hrun
    have hexpected : s.supersede.expectedSet first last = s.expectedSet first last := by
      refine State.expectedSet_congr ?_ (by rw [hsup]) (by rw [hsup]) first last
      rw [hsup]
      dsimp only
      split
      · rfl
      · exact Trunk.fed_peers ..
    rw [if_neg hbusy, if_pos hclass, State.acceptBegin_eq hrun', hexpected, hsup] at hexec
    refine ⟨_, hexec, ⟨rfl, rfl, rfl, rfl, rfl, rfl, rfl, rfl, rfl⟩, fun hcollecting => ?_, fun hsending hroom => ?_⟩
    · refine queuedA_of_fed rfl ?_
      dsimp only
      rw [if_pos hcollecting]
      rfl
    · dsimp only
      rw [if_neg hsending]
      obtain ⟨hheld, hlength, hbusy⟩ := Trunk.held_fed_classA (t := s.trunk) (x := handedBy s s (.announce d0 (.fin .aborted))) rfl
        (by omega)
      obtain ⟨hheld', -, hbusy'⟩ := Trunk.held_fed_classA (t := s.trunk.fed (handedBy s s (.announce d0 (.fin .aborted))))
        (x := handedBy s s (.announce d .leadIn)) rfl (by omega)
      refine ⟨hheld'.trans ((hheld.append_right _).trans (.of_eq (List.append_assoc ..))), fun hcurrent => ?_⟩
      exact (hbusy' (hbusy hcurrent).2).1.trans (by rw [(hbusy hcurrent).1, List.append_assoc]; rfl)

end Sys2Proof.Machine
end

section
/-! The screen level of a berth and the frame that reports it (R17, R18, R20): what a recomputation does, at one port and at all. -/

namespace Sys2Proof.Machine

/-! ## A change that changes nothing -/

theorem State.modBerth_of_eq {s : State} {p : Port} {f : Berth → Berth} (h : f (s.berth p) = s.berth p) : s.modBerth p f = s := by
  have hset : s.berths.records.set p (f s.berths.records[p]) = s.berths.records := by
    rw [show f s.berths.records[p] = s.berths.records[p] from h]
    exact Vector.set_getElem_self ..
  rw [State.modBerth, hset]

theorem State.modLink_of_eq {s : State} {p : Port} {f : Link → Link} (h : f s.links[p] = s.links[p]) : s.modLink p f = s := by
  have hset : s.links.set p (f s.links[p]) = s.links := by
    rw [h]
    exact Vector.set_getElem_self ..
  rw [State.modLink, hset]

/-- A change of one link is told by what it makes of that link. -/
theorem State.modLink_congr {s : State} {p : Port} {f g : Link → Link} (h : f s.links[p] = g s.links[p]) :
    s.modLink p f = s.modLink p g := by
  rw [State.modLink, State.modLink, h]

/-- Two changes of one link. -/
theorem State.modLink_modLink (s : State) (p : Port) (f g : Link → Link) :
    (s.modLink p f).modLink p g = s.modLink p fun l => g (f l) := by
  simp [State.modLink]

/-! ## Control frames handed to a link -/

/-- A control frame changes neither the state of a link nor what it knows of its unit. -/
theorem Link.handControl_frame (l : Link) (f : SeatFrame) :
    l.handControl f = { l with sending := (l.handControl f).sending, resets := (l.handControl f).resets,
                               control := (l.handControl f).control, audio := (l.handControl f).audio,
                               video := (l.handControl f).video, counters := (l.handControl f).counters } := by
  unfold Link.handControl Link.handControlTold
  split
  · split
    · dsimp only
      rw [Link.kick_frame]
    · rfl
  · rfl

theorem Link.handControl_state (l : Link) (f : SeatFrame) : (l.handControl f).state = l.state := by rw [Link.handControl_frame]

theorem Link.foldl_handControl_state (l : Link) (frames : List SeatFrame) : (frames.foldl Link.handControl l).state = l.state := by
  induction frames generalizing l with
  | nil => rfl
  | cons f frames ih => exact (ih _).trans (l.handControl_state f)

/-! ## One recomputation -/

/-- The frame that reports a level, when it is new. -/
def levelFrames (reported : Option Nat) (level : Nat) : List SeatFrame := if reported = some level then [] else [.screenLevel level]

section
variable {s : State} {p : Port}

theorem State.recompute_of_out (h : s.inService p = false) : s.recompute p = s := if_neg (by simp [h])

/-- At a link that is UP the level is reported, in a frame when it is new (R18). -/
theorem State.recompute_of_up (hservice : s.inService p = true) (hup : s.linkUp p = true) :
    s.recompute p = (s.modLink p fun l => (levelFrames (s.berth p).reported (s.screenLevel p)).foldl Link.handControl l).modBerth p
      fun b => { b with reported := some (s.screenLevel p) } := by
  rw [State.recompute, if_pos hservice, if_pos hup, levelFrames]
  split
  · next h => rw [State.modLink_of_eq rfl, State.modBerth_of_eq (by rw [← h])]
  · rfl

/-- At a link that is not UP no level is reported (R18). -/
theorem State.recompute_of_not_up (hservice : s.inService p = true) (hup : s.linkUp p = false) :
    s.recompute p = s.modBerth p fun b => { b with reported := none } := by
  rw [State.recompute, if_pos hservice, if_neg (by simp [hup])]

/-- A recomputation changes the port's own link and berth record alone. -/
theorem State.recompute_other {q : Port} (h : q ≠ p) : (s.recompute p).links[q] = s.links[q] ∧ (s.recompute p).berth q = s.berth q := by
  cases hservice : s.inService p with
  | false => rw [State.recompute_of_out hservice]; exact ⟨rfl, rfl⟩
  | true =>
    cases hup : s.linkUp p with
    | false => rw [State.recompute_of_not_up hservice hup]; exact ⟨rfl, State.modBerth_other _ h _⟩
    | true =>
      rw [State.recompute_of_up hservice hup, State.modBerth_links, State.modLink_other _ h, State.modBerth_other _ h]
      exact ⟨rfl, rfl⟩

/-- What a recomputation leaves of the port's own link and berth record. -/
theorem State.recompute_self : (s.recompute p).links[p] =
      (if s.inService p && s.linkUp p
        then (levelFrames (s.berth p).reported (s.screenLevel p)).foldl Link.handControl s.links[p] else s.links[p]) ∧
    (s.recompute p).berth p = { s.berth p with
      reported := (if s.inService p then (if s.linkUp p then some (s.screenLevel p) else none) else (s.berth p).reported) } := by
  cases hservice : s.inService p with
  | false => rw [State.recompute_of_out hservice]; exact ⟨rfl, rfl⟩
  | true =>
    cases hup : s.linkUp p with
    | false => rw [State.recompute_of_not_up hservice hup]; exact ⟨rfl, State.modBerth_self ..⟩
    | true =>
      rw [State.recompute_of_up hservice hup, State.modBerth_links, State.modLink_self, State.modBerth_self]
      exact ⟨rfl, rfl⟩

/-- Nothing but links and berth records changes. -/
theorem State.recompute_eq (s : State) (p : Port) : s.recompute p =
    { s with links := (s.recompute p).links, berths := { s.berths with records := (s.recompute p).berths.records } } := by
  cases hservice : s.inService p with
  | false => rw [State.recompute_of_out hservice]
  | true =>
    cases hup : s.linkUp p with
    | false => rw [State.recompute_of_not_up hservice hup]; rfl
    | true => rw [State.recompute_of_up hservice hup]; rfl

/-- The level depends on the berth record but for what it reported, on the image and on the phase. -/
theorem State.screenLevel_congr {t : State} (hberth : t.berth p = { s.berth p with reported := (t.berth p).reported })
    (hstartup : t.startup = s.startup) (hphase : t.phase.own = s.phase.own) : t.screenLevel p = s.screenLevel p := by
  rw [State.screenLevel, State.screenLevel, hberth]
  simp only [State.profile, State.image, hstartup, hphase]
  rfl

@[simp] theorem State.recompute_screenLevel : (s.recompute p).screenLevel p = s.screenLevel p := by
  have hstartup : (s.recompute p).startup = s.startup := by rw [State.recompute_eq]
  have hphase : (s.recompute p).phase.own = s.phase.own := by rw [State.recompute_eq]
  exact State.screenLevel_congr (by rw [State.recompute_self.2]) hstartup hphase

/-- Frames and then the level, as the statements say it. -/
theorem levelSent_recompute {u : State} {frames : List SeatFrame} (hservice : u.inService p = true) (hup : s.links[p].state = .up)
    (hframes : u.links[p] = frames.foldl Link.handControl s.links[p]) (hreported : (u.berth p).reported = (s.berth p).reported) :
    levelSent s (u.recompute p) p frames := by
  have hlinkUp : u.linkUp p = true := by
    rw [State.linkUp, hframes, Link.foldl_handControl_state, hup]
    rfl
  obtain ⟨hlink, hberth⟩ := State.recompute_self (s := u) (p := p)
  rw [levelSent, State.recompute_screenLevel, hlink, hberth, hservice, hlinkUp, hframes, hreported]
  refine ⟨?_, rfl⟩
  rw [Bool.and_self, if_pos rfl, ← List.foldl_append]
  exact framesHanded_foldl _ _ hup

end

/-! ## At every berth -/

/-- The recomputations of several ports: each changes its own, by what stood there. -/
theorem State.foldl_recompute (l : List Port) (hl : l.Nodup) (s : State) (p : Port) :
    (l.foldl State.recompute s).links[p] = (if p ∈ l then (s.recompute p).links[p] else s.links[p]) ∧
      (l.foldl State.recompute s).berth p = if p ∈ l then (s.recompute p).berth p else s.berth p := by
  induction l generalizing s with
  | nil => exact ⟨rfl, rfl⟩
  | cons q l ih =>
    rw [List.nodup_cons] at hl
    obtain ⟨hq, hl⟩ := hl
    obtain ⟨hlinks, hberths⟩ := ih hl (s.recompute q)
    rw [List.foldl_cons, hlinks, hberths]
    by_cases hpq : p = q
    · subst hpq
      rw [if_neg hq, if_pos List.mem_cons_self, if_neg hq, if_pos List.mem_cons_self]
      exact ⟨rfl, rfl⟩
    · obtain ⟨hlink, hberth⟩ := State.recompute_other (s := s) hpq
      have heq := s.recompute_eq q
      have hstartup : (s.recompute q).startup = s.startup := by rw [heq]
      have hphase : (s.recompute q).phase.own = s.phase.own := by rw [heq]
      have hlevel : (s.recompute q).screenLevel p = s.screenLevel p :=
        State.screenLevel_congr (by rw [hberth]) hstartup hphase
      simp only [List.mem_cons, hpq, false_or, State.recompute_self (p := p), hlevel, State.linkUp, State.inService, State.image,
        hlink, hberth, hstartup]
      trivial

end Sys2Proof.Machine
end

section
/-! What the panel and the seat links turn away, phases, and bad seat frames: O55, O56, O57, O58 and O50. -/

namespace Sys2Proof.Machine

/-! ## Levels after a phase change -/

/-- Ports in service are listed once. -/
theorem State.mem_servicePorts {s : State} {p : Port} : p ∈ s.servicePorts ↔ s.inService p = true := by
  simp [State.servicePorts, allPorts]

theorem State.servicePorts_nodup (s : State) : s.servicePorts.Nodup := (List.nodup_finRange 12).filter _

/-- After a change of phase every in-service berth's level is recomputed, as the statements say it (R20). -/
theorem levelsFollow_recomputeAll {s u t : State} (hlinks : u.links = s.links) (hberths : u.berths.records = s.berths.records)
    (hstartup : u.startup = s.startup) (htlinks : t.links = u.recomputeAll.links)
    (htberths : t.berths.records = u.recomputeAll.berths.records) (htstartup : t.startup = s.startup)
    (htphase : t.phase.own = u.phase.own) : levelsFollow s t := by
  intro p
  obtain ⟨hlink, hberth⟩ := State.foldl_recompute u.servicePorts u.servicePorts_nodup u p
  simp only [State.mem_servicePorts] at hlink hberth
  have htlink : t.links[p] = u.recomputeAll.links[p] := by rw [htlinks]
  have htberth : t.berth p = u.recomputeAll.berth p := congrArg (fun r : Vector Berth 12 => r[p]) htberths
  have huberth : u.berth p = s.berth p := congrArg (fun r : Vector Berth 12 => r[p]) hberths
  have hulink : u.links[p] = s.links[p] := by rw [hlinks]
  have hservice : u.inService p = s.inService p := by rw [State.inService, State.image, hstartup]; rfl
  have hup : u.linkUp p = s.linkUp p := by rw [State.linkUp, hulink]; rfl
  have hkept : t.berth p = { u.berth p with reported := (t.berth p).reported } := by
    rw [htberth, State.recomputeAll, hberth]
    split
    · rw [State.recompute_self.2]
    · rfl
  have hlevel : t.screenLevel p = u.screenLevel p := State.screenLevel_congr hkept (htstartup.trans hstartup.symm) htphase
  refine ⟨fun hs hu => ?_, fun hno => ?_, by rw [← huberth]; exact hkept⟩
  · have hs' := hservice.trans hs
    have h := levelSent_recompute (s := s) (u := u) (p := p) (frames := []) hs' (beq_iff_eq.mp hu) hulink (by rw [huberth])
    rw [levelSent, State.recompute_screenLevel] at h
    rw [levelSent, hlevel, htlink, htberth, State.recomputeAll, hlink, hberth, if_pos hs', if_pos hs']
    exact h
  · rw [htlink, State.recomputeAll, hlink, ← hulink]
    split
    · next hs =>
      rw [State.recompute_self.1, if_neg]
      rw [hservice, hup]
      obtain h | h := hno <;> simp [h]
    · rfl

/-- A phase state put in force changes the phase and the levels alone. -/
theorem State.setPhaseState_eq (s : State) (x : PhaseState) : s.setPhaseState x =
    { s with phase := { s.phase with own := x }, links := (s.setPhaseState x).links,
             berths := { s.berths with records := (s.setPhaseState x).berths.records } } := by
  have key : ∀ (l : List Port) (u : State), l.foldl State.recompute u = { u with
      links := (l.foldl State.recompute u).links,
      berths := { u.berths with records := (l.foldl State.recompute u).berths.records } } := by
    intro l
    induction l with
    | nil => exact fun _ => rfl
    | cons p l ih =>
      intro u
      have hp := u.recompute_eq p
      have hl := ih (u.recompute p)
      rw [List.foldl_cons]
      generalize List.foldl State.recompute (u.recompute p) l = v at hl
      rw [hl, hp]
  exact key _ { s with phase := { s.phase with own := x } }

theorem State.setPhaseState_phase (s : State) (x : PhaseState) : (s.setPhaseState x).phase = { s.phase with own := x } := by
  rw [State.setPhaseState_eq]

/-- Every level follows a phase state put in force. -/
theorem levelsFollow_setPhaseState {s u t : State} {x : PhaseState} (hlinks : u.links = s.links)
    (hberths : u.berths.records = s.berths.records) (hstartup : u.startup = s.startup)
    (htlinks : t.links = (u.setPhaseState x).links) (htberths : t.berths.records = (u.setPhaseState x).berths.records)
    (htstartup : t.startup = s.startup) (htphase : t.phase.own = x) : levelsFollow s t :=
  levelsFollow_recomputeAll (u := { u with phase := { u.phase with own := x } }) hlinks hberths hstartup htlinks htberths htstartup
    htphase

/-! ## PHASE records -/

/-- A PHASE record is valid with a phase up to 3 and a setter 1..30, and is otherwise counted (R133). -/
theorem State.takePhase_of_invalid {s : State} {source : Nat} {e : Seq} {p setter : Nat} (h : ¬(p ≤ 3 ∧ 1 ≤ setter ∧ setter ≤ 30)) :
    s.takePhase source e p setter = { s with phase := { s.phase with phaseError := bump s.phase.phaseError } } := by
  unfold State.takePhase
  split
  · next hp => rw [if_neg (fun hs => h ⟨Nat.le_of_lt_succ hp, hs⟩)]
  · rfl

theorem State.takePhase_of_valid {s : State} {source : Nat} {e : Seq} {p setter : Nat} (hp : p < 4)
    (hsetter : 1 ≤ setter ∧ setter ≤ 30) : s.takePhase source e p setter =
      if adopts s.phase.own e ⟨p, hp⟩ setter source then
        ({ s with phase := { s.phase with adoption := bump s.phase.adoption } }).setPhaseState
          { epoch := e, phase := ⟨p, hp⟩, setter := setter }
      else s := by
  rw [State.takePhase, dif_pos hp, if_pos hsetter]

/-- The comparison of a record with the own state (R133). -/
theorem adopts_iff (own : PhaseState) (e : Seq) (p : Phase) (setter source : Nat) : adopts own e p setter source = true ↔
    own.epoch.toNat < e.toNat ∨ (e = own.epoch ∧ setter < own.setter) ∨
      (e = own.epoch ∧ setter = own.setter ∧ p.val ≠ own.phase.val ∧ source = setter) := by
  simp only [adopts, Bool.or_eq_true, Bool.and_eq_true, decide_eq_true_iff, beq_iff_eq, bne_iff_ne, ne_eq, Fin.ext_iff, and_assoc,
    or_assoc]

theorem exec_phase_of_takesFrom {s : State} {source : Nat} (h : s.takesFrom source = true) (e : Seq) (p setter : Nat) :
    exec (.phase source e p setter) s = .next ((s.heard source).takePhase source e p setter) :=
  congrArg Host.Outcome.next (State.receive_of_takesFrom (b := .phase e p setter) h rfl)

/-- Settles O56. -/
theorem phaseRecordsAreAdopted : Obligations.PhaseRecordsAreAdopted := by
  intro s source e p setter hsource own valid wins
  refine ⟨_, exec_phase_of_takesFrom hsource e p setter, fun hinvalid => ?_, fun hvalid hwins => ?_, fun hvalid hloses => ?_⟩
  · rw [State.takePhase_of_invalid hinvalid]
    rfl
  · obtain ⟨hp, hsetter⟩ := hvalid
    have hadopts : adopts (s.heard source).phase.own e ⟨p, Nat.lt_succ_of_le hp⟩ setter source = true := (adopts_iff ..).mpr hwins
    rw [State.takePhase_of_valid (Nat.lt_succ_of_le hp) hsetter, if_pos hadopts]
    generalize hu : ({ s.heard source with phase := { (s.heard source).phase with
      adoption := bump (s.heard source).phase.adoption } } : State) = u
    have hphase := u.setPhaseState_phase { epoch := e, phase := ⟨p, Nat.lt_succ_of_le hp⟩, setter := setter }
    have heq := u.setPhaseState_eq { epoch := e, phase := ⟨p, Nat.lt_succ_of_le hp⟩, setter := setter }
    refine ⟨by rw [hphase], by rw [hphase], by rw [hphase], by rw [hphase, ← hu]; rfl, ?_, ?_⟩
    · exact levelsFollow_setPhaseState (by rw [← hu]; rfl) (by rw [← hu]; rfl) (by rw [← hu]; rfl) rfl rfl
        (by rw [heq, ← hu]; rfl) (by rw [hphase])
    · generalize u.setPhaseState { epoch := e, phase := ⟨p, Nat.lt_succ_of_le hp⟩, setter := setter } = v at heq
      rw [heq, ← hu]
      rfl
  · obtain ⟨hp, hsetter⟩ := hvalid
    rw [State.takePhase_of_valid (Nat.lt_succ_of_le hp) hsetter, if_neg fun h => hloses ((adopts_iff ..).mp h)]
    rfl

/-! ## Two PHASE records -/

/-- The phase state that a record leaves, valid or not. -/
def takenPhase (own : PhaseState) (source : Nat) (e : Seq) (p setter : Nat) : PhaseState :=
  if h : p < 4 then
    if (1 ≤ setter ∧ setter ≤ 30) ∧ adopts own e ⟨p, h⟩ setter source = true then { epoch := e, phase := ⟨p, h⟩, setter := setter }
    else own
  else own

theorem State.takePhase_own (s : State) (source : Nat) (e : Seq) (p setter : Nat) :
    (s.takePhase source e p setter).phase.own = takenPhase s.phase.own source e p setter := by
  unfold takenPhase
  split
  · next hp =>
    by_cases hsetter : 1 ≤ setter ∧ setter ≤ 30
    · rw [State.takePhase_of_valid hp hsetter]
      by_cases hadopts : adopts s.phase.own e ⟨p, hp⟩ setter source = true
      · rw [if_pos hadopts, if_pos ⟨hsetter, hadopts⟩, State.setPhaseState_phase]
      · rw [if_neg hadopts, if_neg fun h => hadopts h.2]
    · rw [State.takePhase_of_invalid fun h => hsetter h.2, if_neg fun h => hsetter h.1]
  · next hp => rw [State.takePhase_of_invalid fun h => hp (Nat.lt_succ_of_le h.1)]

/-- A PHASE record leaves a node listening to the same stations. -/
theorem State.takePhase_takesFrom (s : State) (source r' : Nat) (e : Seq) (p setter r : Nat) :
    ((s.heard r').takePhase source e p setter).takesFrom r = s.takesFrom r := by
  have hkept : ((s.heard r').takePhase source e p setter).startup = s.startup ∧
      ((s.heard r').takePhase source e p setter).trunk = (s.heard r').trunk := by
    by_cases h : p ≤ 3 ∧ 1 ≤ setter ∧ setter ≤ 30
    · rw [State.takePhase_of_valid (Nat.lt_succ_of_le h.1) h.2]
      split
      · rw [State.setPhaseState_eq]
        exact ⟨rfl, rfl⟩
      · exact ⟨rfl, rfl⟩
    · rw [State.takePhase_of_invalid h]
      exact ⟨rfl, rfl⟩
  simp only [State.takesFrom, State.listens, State.loading, hkept]
  rfl

/-- The comparison in numbers (R133). -/
theorem adopts_iff_toNat (own : PhaseState) (e : Seq) (p : Phase) (setter source : Nat) : adopts own e p setter source = true ↔
    own.epoch.toNat < e.toNat ∨ (e.toNat = own.epoch.toNat ∧ setter < own.setter) ∨
      (e.toNat = own.epoch.toNat ∧ setter = own.setter ∧ p.val ≠ own.phase.val ∧ source = setter) := by
  simp only [adopts_iff, BitVec.toNat_inj]

/-- Of two records with different keys exactly one is adopted after the other, and one that the own state turns away is turned
away by a record that the own state adopts (R133). -/
theorem adopts_order (own : PhaseState) {r1 r2 : Nat} {e1 e2 : Seq} {p1 p2 : Phase} {x1 x2 : Nat} (h : e1 ≠ e2 ∨ x1 ≠ x2) :
    (adopts { epoch := e1, phase := p1, setter := x1 } e2 p2 x2 r2 = true ↔
      ¬adopts { epoch := e2, phase := p2, setter := x2 } e1 p1 x1 r1 = true) ∧
    (adopts own e1 p1 x1 r1 = true → ¬adopts own e2 p2 x2 r2 = true →
      ¬adopts { epoch := e1, phase := p1, setter := x1 } e2 p2 x2 r2 = true) := by
  rw [ne_eq, ← BitVec.toNat_inj] at h
  simp only [adopts_iff_toNat]
  constructor <;> omega

theorem takenPhase_of_valid (own : PhaseState) (source : Nat) (e : Seq) {p setter : Nat} (hp : p < 4) (hsetter : 1 ≤ setter ∧ setter ≤ 30) :
    takenPhase own source e p setter =
      if adopts own e ⟨p, hp⟩ setter source = true then { epoch := e, phase := ⟨p, hp⟩, setter := setter } else own := by
  simp only [takenPhase, dif_pos hp, hsetter, and_self, true_and]

theorem takenPhase_of_invalid (own : PhaseState) (source : Nat) (e : Seq) {p setter : Nat} (h : ¬(p < 4 ∧ 1 ≤ setter ∧ setter ≤ 30)) :
    takenPhase own source e p setter = own := by
  unfold takenPhase
  split
  · next hp => exact if_neg fun hs => h ⟨hp, hs.1⟩
  · rfl

/-- Records of different keys leave the same phase state in either order: the later, of the two and the state's own (R133). -/
theorem takenPhase_comm (own : PhaseState) {r1 r2 : Nat} {e1 e2 : Seq} {p1 p2 x1 x2 : Nat} (h : e1 ≠ e2 ∨ x1 ≠ x2) :
    takenPhase (takenPhase own r1 e1 p1 x1) r2 e2 p2 x2 = takenPhase (takenPhase own r2 e2 p2 x2) r1 e1 p1 x1 := by
  by_cases h1 : p1 < 4 ∧ 1 ≤ x1 ∧ x1 ≤ 30
  · by_cases h2 : p2 < 4 ∧ 1 ≤ x2 ∧ x2 ≤ 30
    · obtain ⟨hp1, hx1⟩ := h1
      obtain ⟨hp2, hx2⟩ := h2
      have hne : e2 ≠ e1 ∨ x2 ≠ x1 := h.imp Ne.symm Ne.symm
      obtain ⟨hone, hkeep⟩ := adopts_order own (r1 := r1) (r2 := r2) (p1 := ⟨p1, hp1⟩) (p2 := ⟨p2, hp2⟩) h
      obtain ⟨-, hkeep'⟩ := adopts_order own (r1 := r2) (r2 := r1) (p1 := ⟨p2, hp2⟩) (p2 := ⟨p1, hp1⟩) hne
      simp only [takenPhase_of_valid _ _ _ hp1 hx1, takenPhase_of_valid _ _ _ hp2 hx2]
      by_cases ha1 : adopts own e1 ⟨p1, hp1⟩ x1 r1 = true
      · by_cases ha2 : adopts own e2 ⟨p2, hp2⟩ x2 r2 = true
        · simp only [if_pos ha1, if_pos ha2, hone, ite_not]
        · simp only [if_pos ha1, if_neg ha2, if_neg (hkeep ha1 ha2)]
      · by_cases ha2 : adopts own e2 ⟨p2, hp2⟩ x2 r2 = true
        · simp only [if_neg ha1, if_pos ha2, if_neg (hkeep' ha2 ha1)]
        · simp only [if_neg ha1, if_neg ha2]
    · simp only [takenPhase_of_invalid _ _ _ h2]
  · simp only [takenPhase_of_invalid _ _ _ h1]

/-- Settles O57. -/
theorem phaseRecordsCommute : Obligations.PhaseRecordsCommute := by
  intro s a b ab ba r1 r2 e1 e2 p1 p2 x1 x2 h1 h2 hne ha hab hb hba
  rw [exec_phase_of_takesFrom h1] at ha
  rw [exec_phase_of_takesFrom h2] at hb
  cases ha
  cases hb
  rw [exec_phase_of_takesFrom ((State.takePhase_takesFrom ..).trans h2)] at hab
  rw [exec_phase_of_takesFrom ((State.takePhase_takesFrom ..).trans h1)] at hba
  cases hab
  cases hba
  have hown : ∀ (u : State) r r' e p x, ((u.heard r').takePhase r e p x).phase.own = takenPhase u.phase.own r e p x :=
    fun u r r' e p x => State.takePhase_own (u.heard r') r e p x
  rw [hown, hown, hown, hown]
  exact takenPhase_comm _ hne

/-! ## SET_PHASE -/

/-- One more, staying at 65,535 (R134). -/
theorem nextEpoch_toNat (e : Seq) : (nextEpoch e).toNat = min 65535 (e.toNat + 1) := by
  have he := e.isLt
  unfold nextEpoch
  split
  · next h => rw [h]; rfl
  · next h =>
    have hne : e.toNat ≠ 65535 := fun h' => h (BitVec.eq_of_toNat_eq h')
    rw [BitVec.toNat_add]
    simp
    omega

/-- In RUNNING a PHASE record feeds the trunk, and its period starts (R132). -/
theorem State.sendPhase_of_running {s : State} (hrun : s.running = true) : s.sendPhase =
    { s with trunk := s.trunk.fed (handedBy s s (.phase s.phase.own.epoch s.phase.own.phase.val s.phase.own.setter)),
             phase := { s.phase with phaseDue := some (s.now + ms 5000) } } := by
  rw [State.sendPhase, if_pos hrun, State.handOver_of_running hrun]

/-- Settles O58. -/
theorem setPhaseOriginates : Obligations.SetPhaseOriginates := by
  intro s p hrun
  refine ⟨fun hpanel hp => ?_, fun hpanel hp => ?_, fun hpanel => ?_⟩
  · have hp4 : p < 4 := Nat.lt_succ_of_le hp
    let x : PhaseState := { epoch := nextEpoch s.phase.own.epoch, phase := ⟨p, hp4⟩, setter := s.startup.station }
    have hexec : exec (.setPhase p) s = .next ((s.notify (.accepted .setPhase)).setPhaseState x).sendPhase := by
      simp only [exec, execSetPhase, State.panelGate_of_running hrun hpanel, dif_pos hp4]
      rfl
    have heq := (s.notify (.accepted .setPhase)).setPhaseState_eq x
    have hphase := (s.notify (.accepted .setPhase)).setPhaseState_phase x
    have hrun' : ((s.notify (.accepted .setPhase)).setPhaseState x).running = true := by rw [heq]; exact hrun
    have hfollow : ∀ {t : State}, t.links = ((s.notify (.accepted .setPhase)).setPhaseState x).links →
        t.berths.records = ((s.notify (.accepted .setPhase)).setPhaseState x).berths.records → t.startup = s.startup →
        t.phase.own = x → levelsFollow s t := fun h1 h2 h3 h4 =>
      levelsFollow_setPhaseState (s := s) (u := s.notify (.accepted .setPhase)) rfl rfl rfl h1 h2 h3 h4
    rw [State.sendPhase_of_running hrun'] at hexec
    generalize hv : (s.notify (.accepted .setPhase)).setPhaseState x = v at *
    have hown : v.phase.own = x := by rw [hphase]
    refine ⟨_, hexec, ?_, by rw [hown], by rw [hown], by rw [heq]; rfl, by rw [hphase]; rfl, by rw [heq]; rfl, queuedA_of_fed rfl ?_,
      hfollow rfl rfl (by rw [heq]; rfl) hown, ?_, fun ph hph => ?_⟩
    · rw [hown]
      exact nextEpoch_toNat _
    · rw [heq]
      rfl
    · rw [heq]
      rfl
    · have hph' : ph = ⟨p, hp4⟩ := Fin.ext hph
      rw [hph', State.profile, State.image, heq]
      rfl
  · simp only [exec, execSetPhase, State.panelGate_of_running hrun hpanel, dif_neg (Nat.not_lt.mpr hp)]
    rfl
  · simp only [exec, execSetPhase, State.panelGate_of_closed (.inr hpanel)]
    rfl

/-! ## What is turned away -/

theorem State.takeRequest_of_not_taken {s : State} {p : Port} (h : (s.linkRuns p && s.linkUp p) = false) (r : PassengerRequest) :
    s.takeRequest p r = s := if_neg (by simp [h])

/-- Settles O55. -/
theorem requestsTurnedAway : Obligations.RequestsTurnedAway := by
  refine ⟨fun s p h n on w => ?_, fun s cls first last stop language caption ph l => ⟨fun hloading => ?_,
    fun hloading hpanel => ?_, fun hclosed => ?_, fun hlistening hpanel => ?_, fun hrun hpanel hfirst horder hlast hbad => ?_⟩⟩
  · have hnone : ∀ r, (.next (s.takeRequest p r) : Host.Outcome State Fault Refusal) = .next s := fun r => by
      rw [State.takeRequest_of_not_taken h]
    exact ⟨hnone _, hnone _, hnone _, hnone _, hnone _, hnone _, hnone _, hnone _, hnone _⟩
  · exact if_neg (by simp [hloading])
  · simp only [exec, execBeginAnn, execPanelAudio, execPanelEnd, execAbort, execSetPhase,
      State.panelGate_of_loading hloading hpanel, and_self]
  · simp only [exec, execBeginAnn, execPanelAudio, execPanelEnd, execAbort, execSetPhase, State.panelGate_of_closed hclosed]
    exact ⟨rfl, rfl, rfl, rfl, rfl⟩
  · simp only [exec, execBeginAnn, execSetPhase, State.panelGate_of_listening hlistening hpanel]
    exact ⟨rfl, rfl⟩
  · rw [exec_beginAnn_open hrun hpanel, State.checkBegin, if_neg (by omega)]
    cases hk : classOf cls with
    | none => rfl
    | some k =>
      obtain h | h | h := hbad
      · rw [hk] at h; cases h
      · exact congrArg _ (if_pos (.inl h))
      · exact congrArg _ (if_pos (.inr h))

/-! ## Bad seat frames -/

/-- A LOCKED link is not UP. -/
theorem State.linkUp_of_locked {s : State} {p : Port} (h : s.links[p].state = .locked) : s.linkUp p = false := by
  rw [State.linkUp, h]
  rfl

/-- A LOCKED link counts no frame (R146). -/
theorem State.frameError_of_locked {s : State} {p : Port} (h : s.links[p].state = .locked) (cause : FrameError) :
    s.frameError p cause = s := by
  unfold State.frameError
  split
  · simp only [h]
  · rfl

/-- Settles O50. -/
theorem seatFrameErrors : Obligations.SeatFrameErrors := by
  intro s p cause hruns counted
  have hexec : exec (.seatFrameError p cause) s = .next (s.frameError p cause) := rfl
  refine ⟨fun hup => ?_, fun hdown hfree => ?_, fun hno => ?_, fun hlocked h r n a f => ?_⟩
  · rw [hexec, State.frameError, if_pos hruns]
    simp only [hup]
    exact congrArg _ (State.modLink_congr rfl)
  · rw [hexec, State.frameError, if_pos hruns]
    simp only [hdown, hfree, Option.isSome_none, Bool.false_eq_true, if_false]
    rw [State.modLinkCounters, State.modLink_modLink]
    refine congrArg _ (State.modLink_congr ?_)
    split <;> rfl
  · rw [hexec, State.frameError, if_pos hruns]
    obtain h | h | ⟨h, hoff⟩ := hno
    · simp only [h]
    · simp only [h]
    · simp only [h, hoff, if_true]
  · have hup := State.linkUp_of_locked hlocked
    refine ⟨?_, ?_, ?_, ?_, ?_⟩
    · simp only [exec, execStatus, hlocked, ite_self]
    · simp only [exec, execRequest]
      cases readRequest f with
      | inl cause => exact congrArg _ (State.frameError_of_locked hlocked cause)
      | inr q => exact congrArg _ (State.takeRequest_of_not_taken (by simp [hup]) q)
    · exact if_neg (by simp [hup])
    · exact if_neg (by simp [hup])
    · exact if_neg (by simp [hup])

end Sys2Proof.Machine
end

section
/-! Bring-up and caption cards of a seat link: O46 and O49. -/

namespace Sys2Proof.Machine

/-! ## Frames that a link holds -/

/-- A frame taken from the control queue is the frame in progress. -/
theorem Link.kick_holds {l : Link} {f : SeatFrame} (h : l.holds f) : l.kick.holds f := by
  cases hs : l.sending with
  | some g => rwa [l.kick_busy (by simp [hs])]
  | none =>
    have hf : f ∈ l.control := h.resolve_left (by simp [hs])
    unfold Link.kick
    split
    · exact h
    · split
      · exact .inr hf
      · split
        · split
          · next g r _ _ _ hcontrol =>
            rw [hcontrol] at hf
            obtain rfl | hr := List.mem_cons.mp hf
            · exact .inl rfl
            · exact .inr hr
          all_goals simp_all
        · exact h

theorem Link.handControl_holds {l : Link} {g : SeatFrame} (h : l.holds g) (f : SeatFrame) : (l.handControl f).holds g := by
  unfold Link.handControl Link.handControlTold
  split
  · split
    · exact Link.kick_holds (h.imp id (List.mem_append_left _))
    · exact h
  · exact h

/-- A control frame with room for it is held. -/
theorem Link.holds_handControl {l : Link} (hup : l.state = .up) (hroom : l.control.length < 16) (f : SeatFrame) :
    (l.handControl f).holds f := by
  obtain ⟨_, _, _, hall⟩ := framesHanded_foldl [f] l hup
  exact hall (Nat.le_sub_of_add_le (Nat.add_comm .. ▸ hroom)) f List.mem_cons_self

/-- A control frame leaves every counter but the one of the frames refused. -/
theorem Link.handControl_counters (l : Link) (f : SeatFrame) : (l.handControl f).counters =
    { l.counters with controlOverflow := (l.handControl f).counters.controlOverflow } := by
  unfold Link.handControl Link.handControlTold
  split
  · split
    · rw [Link.kick_frame]
    · rfl
  · rfl

/-! ## The outstanding card -/

/-- A queue that loses its oldest, at any length. -/
theorem pushDropOldest_succ {α : Type} (n : Nat) (q : List α) (x : α) :
    pushDropOldest (n + 1) q x = ((q ++ [x]).drop (q.length - n), !decide (q.length < n + 1)) := by
  unfold pushDropOldest
  by_cases h : q.length < n + 1
  · rw [if_pos h, show q.length - n = 0 by omega, decide_eq_true h]
    rfl
  · rw [if_neg h, decide_eq_false h, List.drop_append_of_le_length (by omega), show q.length + 1 - (n + 1) = q.length - n by omega]
    rfl

/-- A card whose frame finds room (R158). -/
theorem Link.putOutstanding_of_room {l : Link} (hup : l.state = .up) (hroom : l.control.length < 16) (now : Time) (c : Card) :
    l.putOutstanding now c = { Link.handControl { l with cardSerial := l.cardSerial + 1 } (.caption c l.cardSerial) with
      outstanding := some { card := c, serial := l.cardSerial, since := now, sending := .queued } } := by
  have htold : (Link.handControlTold { l with cardSerial := l.cardSerial + 1 } (.caption c l.cardSerial)).2 = true := by
    rw [Link.handControlTold, if_pos hup, if_pos hroom]
  simp only [Link.putOutstanding, htold, Link.handControl]
  rfl

/-- A card whose frame finds none: the frame is lost and counted (R158). -/
theorem Link.putOutstanding_of_full {l : Link} (hup : l.state = .up) (hfull : 16 ≤ l.control.length) (now : Time) (c : Card) :
    l.putOutstanding now c = { l with
      cardSerial := l.cardSerial + 1,
      counters := { l.counters with controlOverflow := bump l.counters.controlOverflow },
      outstanding := some { card := c, serial := l.cardSerial, since := now, sending := .lost } } := by
  simp only [Link.putOutstanding, Link.handControlTold]
  rw [if_pos hup, if_neg (by omega)]
  rfl

/-- A card put outstanding, its frame handed to the control queue. -/
theorem Link.putOutstanding_eq (l : Link) (now : Time) (c : Card) : ∃ o, l.putOutstanding now c =
    { Link.handControl { l with cardSerial := l.cardSerial + 1 } (.caption c l.cardSerial) with outstanding := some o } ∧
    o.card = c ∧ o.since = now := ⟨_, rfl, rfl, rfl⟩

/-- What becomes of a card that is put outstanding, whether its frame found room or not. -/
theorem Link.putOutstanding_frame (l : Link) (now : Time) (c : Card) :
    (∃ o, (l.putOutstanding now c).outstanding = some o ∧ o.card = c ∧ o.since = now) ∧
      (l.putOutstanding now c).waiting = l.waiting ∧ (l.putOutstanding now c).state = l.state ∧
      (l.putOutstanding now c).counters =
        { l.counters with controlOverflow := (l.putOutstanding now c).counters.controlOverflow } := by
  obtain ⟨o, heq, hcard, hsince⟩ := l.putOutstanding_eq now c
  have hcounters := Link.handControl_counters { l with cardSerial := l.cardSerial + 1 } (.caption c l.cardSerial)
  rw [heq]
  exact ⟨⟨o, rfl, hcard, hsince⟩, by rw [Link.handControl_frame], by rw [Link.handControl_frame], hcounters⟩

theorem Link.putOutstanding_holds {l : Link} {g : SeatFrame} (h : l.holds g) (now : Time) (c : Card) :
    (l.putOutstanding now c).holds g :=
  Link.handControl_holds (l := { l with cardSerial := l.cardSerial + 1 }) h (.caption c l.cardSerial)

/-- A card handed to a link lets it keep the frames it holds. -/
theorem Link.handCard_holds {l : Link} {g : SeatFrame} (h : l.holds g) (now : Time) (c : Card) : (l.handCard now c).holds g := by
  unfold Link.handCard
  split
  · split
    · exact Link.putOutstanding_holds h now c
    · exact h
  · exact h

/-- What a card handed to a link leaves beside its own frames and queues. -/
theorem Link.handCard_frame (l : Link) (now : Time) (c : Card) :
    (l.handCard now c).state = l.state ∧ (l.handCard now c).goodCount = l.goodCount ∧ (l.handCard now c).hold = l.hold ∧
      (l.handCard now c).lastGood = l.lastGood ∧ (l.handCard now c).upSince = l.upSince := by
  unfold Link.handCard
  split
  · split
    · obtain ⟨o, heq, _⟩ := l.putOutstanding_eq now c
      rw [heq, Link.handControl_frame]
      exact ⟨rfl, rfl, rfl, rfl, rfl⟩
    · exact ⟨rfl, rfl, rfl, rfl, rfl⟩
  · exact ⟨rfl, rfl, rfl, rfl, rfl⟩

/-- The release of a card lets the oldest waiting card take its place (R159). -/
theorem Link.releaseCard_released (l : Link) (now : Time) :
    (l.waiting = [] → (l.releaseCard now).outstanding = none) ∧
      ∀ c r, l.waiting = c :: r → (l.releaseCard now).waiting = r ∧ ∃ o, (l.releaseCard now).outstanding = some o ∧ o.card = c := by
  refine ⟨fun h => by rw [Link.releaseCard, h], fun c r h => ?_⟩
  have heq : l.releaseCard now = Link.putOutstanding { l with outstanding := none, waiting := r } now c := by
    rw [Link.releaseCard, h]
  rw [heq]
  obtain ⟨⟨o, ho, hcard, _⟩, hwaiting, _⟩ := Link.putOutstanding_frame { l with outstanding := none, waiting := r } now c
  exact ⟨hwaiting, o, ho, hcard⟩

theorem Link.releaseCard_captionTimeout (l : Link) (now : Time) :
    (l.releaseCard now).counters.captionTimeout = l.counters.captionTimeout := by
  unfold Link.releaseCard
  split
  · rfl
  · rw [(Link.putOutstanding_frame _ _ _).2.2.2]

/-- An acknowledgement matches by caption number and action (R159). -/
theorem Link.ackMatches_iff {l : Link} {n : Nat} {a : CardAction} : l.ackMatches n a = true ↔
    ∃ o, l.outstanding = some o ∧ o.card.caption = n ∧ o.card.action = a := by
  unfold Link.ackMatches
  split
  · next o ho => simp [ho]
  · next ho => simp [ho]

/-! ## The end of a frame -/

theorem Link.frameSent_of_caption {l : Link} {c : Card} {o : Outstanding} (hsending : l.sending = some (.caption c o.serial))
    (hout : l.outstanding = some o) (now : Time) :
    l.frameSent now = Link.kick { l with outstanding := some { o with sending := .sent now }, sending := none } := by
  simp [Link.frameSent, hsending, hout]

/-- The transmitter is free after a frame, with the queues as they stood. -/
theorem Link.frameSent_eq {l : Link} {f : SeatFrame} (hsending : l.sending = some f) (now : Time) :
    ∃ o, l.frameSent now = Link.kick { l with outstanding := o, sending := none } := by
  simp only [Link.frameSent, hsending]
  split
  · split
    · exact ⟨_, rfl⟩
    · exact ⟨l.outstanding, rfl⟩
  · exact ⟨l.outstanding, rfl⟩

/-- A free transmitter takes the head of the control queue of an UP link. -/
theorem Link.kick_control {l : Link} {g : SeatFrame} {r : List SeatFrame} (hsending : l.sending = none) (hresets : l.resets = [])
    (hup : l.state = .up) (hcontrol : l.control = g :: r) : l.kick = { l with sending := some g, control := r } := by
  simp [Link.kick, hsending, hresets, hup, hcontrol]

/-! ## One link of the node -/

theorem linkRuns_and_linkUp {s : State} {p : Port} (h : (s.linkRuns p && s.linkUp p) = true) : s.links[p].state = .up := by
  obtain ⟨_, hup⟩ := (Bool.and_eq_true _ _).mp h
  exact beq_iff_eq.mp hup

/-- Settles O49. -/
theorem captionCardsAreAcknowledged : Obligations.CaptionCardsAreAcknowledged := by
  refine ⟨fun l now c => ⟨fun hdown => (l.handed_down hdown).2.2.2.1 now c, fun o hup hout => ?_, fun hup hout => ?_⟩, fun s p => ?_⟩
  · rw [Link.handCard, if_pos hup, hout]
    simp only [pushDropOldest_succ 3]
    by_cases hroom : l.waiting.length < 4
    · rw [decide_eq_true hroom, if_pos hroom]
      rfl
    · rw [decide_eq_false hroom, if_neg hroom]
      rfl
  · have heq : l.handCard now c = l.putOutstanding now c := by rw [Link.handCard, if_pos hup, hout]
    obtain ⟨⟨o, ho, hcard, hsince⟩, hwaiting, _⟩ := Link.putOutstanding_frame l now c
    rw [← heq] at ho hwaiting
    refine ⟨o, ho, hcard, hsince, hwaiting, fun hroom => ?_, fun hfull => ?_⟩
    · rw [heq, Link.putOutstanding_of_room hup hroom] at ho ⊢
      obtain rfl := Option.some.inj ho
      exact ⟨rfl, Link.holds_handControl (l := { l with cardSerial := l.cardSerial + 1 }) hup hroom _⟩
    · rw [heq, Link.putOutstanding_of_full hup hfull] at ho ⊢
      obtain rfl := Option.some.inj ho
      exact ⟨rfl, rfl, rfl⟩
  · refine ⟨fun n a h => ?_, fun o t0 hout hsent => ?_, fun f hf => ?_⟩
    · by_cases hmatch : s.links[p].ackMatches n a = true
      · refine ⟨s.modLink p fun l => l.releaseCard s.now, (if_pos h).trans (if_pos hmatch), rfl,
          fun _ hq => State.modLink_other _ hq _, fun _ _ _ _ => ?_, fun hno => ?_⟩
        · rw [State.modLink_self]
          exact Link.releaseCard_released _ _
        · obtain ⟨o, ho, hn, ha⟩ := Link.ackMatches_iff.mp hmatch
          exact absurd (hno o ho) (by simp [hn, ha])
      · refine ⟨s.modLinkCounters p fun x => { x with strayAck := bump x.strayAck }, (if_pos h).trans (if_neg hmatch),
          rfl, fun _ hq => State.modLink_other _ hq _, fun o ho hn ha => ?_, fun _ => ?_⟩
        · exact absurd (Link.ackMatches_iff.mpr ⟨o, ho, hn, ha⟩) hmatch
        · exact State.modLink_self ..
    · have hdeadline : s.links[p].cardDeadline = some (t0 + ms 200) := by rw [Link.cardDeadline, hout]; simp [hsent]
      have hexec : exec (.captionAckTimeout p) s = .next ((s.reach (t0 + ms 200)).modLink p fun l => Link.releaseCard
          { l with counters := { l.counters with captionTimeout := bump l.counters.captionTimeout } } (max s.now (t0 + ms 200))) := by
        change execCaptionAckTimeout p s = _
        simp only [execCaptionAckTimeout, hdeadline]
        rfl
      refine ⟨_, hexec, rfl, ?_, ?_, fun _ hq => State.modLink_other _ hq _⟩
      · rw [State.modLink_self, Link.releaseCard_captionTimeout]
        rfl
      · rw [State.modLink_self]
        exact Link.releaseCard_released { s.links[p] with counters := { s.links[p].counters with
          captionTimeout := bump s.links[p].counters.captionTimeout } } _
    · obtain ⟨out, heq⟩ := Link.frameSent_eq hf s.now
      refine ⟨s.modLink p fun l => l.frameSent s.now, rfl, rfl, fun _ hq => State.modLink_other _ hq _, fun g r hup hresets hcontrol => ?_,
        fun g r hresets => ?_, fun c o hcaption hout => ?_⟩
      · rw [State.modLink_self, heq, Link.kick_control (l := { s.links[p] with outstanding := out, sending := none }) rfl hresets
          hup hcontrol]
        exact ⟨rfl, rfl⟩
      · rw [State.modLink_self, heq, Link.kick_reset { s.links[p] with outstanding := out, sending := none } g r rfl hresets]
        exact ⟨rfl, rfl⟩
      · subst hcaption
        rw [State.modLink_self, Link.frameSent_of_caption hf hout, Link.kick_frame]

/-! ## Bring-up -/

/-- A link that comes UP (R149). -/
def Link.comingUp (l : Link) (now : Time) : Link :=
  { l with state := .up, goodCount := 0, lastGood := some now, hold := none, upSince := some now }

/-- It is handed two frames (R149). -/
def Link.broughtUp (l : Link) (now : Time) (snapshot : BerthSnapshot) (level : Nat) : Link :=
  ((l.comingUp now).handControl (.state snapshot)).handControl (.screenLevel level)

theorem Link.broughtUp_frame (l : Link) (now : Time) (b : BerthSnapshot) (level : Nat) :
    (l.broughtUp now b level).state = .up ∧ (l.broughtUp now b level).goodCount = 0 ∧ (l.broughtUp now b level).hold = none ∧
      (l.broughtUp now b level).lastGood = some now ∧ (l.broughtUp now b level).upSince = some now := by
  rw [Link.broughtUp, Link.handControl_frame, Link.handControl_frame]
  exact ⟨rfl, rfl, rfl, rfl, rfl⟩

/-- With no control frame waiting, both frames are held. -/
theorem Link.broughtUp_holds {l : Link} (h : l.control = []) (now : Time) (b : BerthSnapshot) (level : Nat) :
    (l.broughtUp now b level).holds (.state b) ∧ (l.broughtUp now b level).holds (.screenLevel level) := by
  obtain ⟨_, _, _, hall⟩ := framesHanded_foldl [.state b, .screenLevel level]
    (l.comingUp now) rfl
  have hroom : 2 ≤ 16 - l.control.length := by rw [h]; exact Nat.le_of_ble_eq_true rfl
  exact ⟨hall hroom _ List.mem_cons_self, hall hroom _ (List.mem_cons_of_mem _ List.mem_cons_self)⟩

/-- The node after a bring-up: the link, which a STRAP_FAULT hands its card, and the berth's headset and level. -/
theorem State.bringUp_eq (s : State) (p : Port) (headset : Bool) : ∃ f : Link → Link,
    s.bringUp p headset = (s.modLink p f).modBerth p (fun b => { b with reported := some (s.screenLevel p), headset := headset }) ∧
      (f s.links[p] = s.links[p].broughtUp s.now (s.snapshot p) (s.screenLevel p) ∨
        f s.links[p] = (s.links[p].broughtUp s.now (s.snapshot p) (s.screenLevel p)).handCard s.now strapFaultCard) := by
  by_cases h : s.startup.state = .strapFault
  · refine ⟨fun l => (l.broughtUp s.now (s.snapshot p) (s.screenLevel p)).handCard s.now strapFaultCard, ?_, .inr rfl⟩
    simp only [State.bringUp]
    rw [if_pos h]
    exact congrArg (fun u : State => u.modBerth p fun b => { b with reported := some (s.screenLevel p), headset := headset })
      (State.modLink_modLink s p (fun l => l.broughtUp s.now (s.snapshot p) (s.screenLevel p))
        fun l => l.handCard s.now strapFaultCard)
  · refine ⟨fun l => l.broughtUp s.now (s.snapshot p) (s.screenLevel p), ?_, .inl rfl⟩
    simp only [State.bringUp]
    rw [if_neg h]
    rfl

/-- What is told of the link after a bring-up. -/
theorem State.bringUp_link (s : State) (p : Port) (headset : Bool) :
    let l := (s.bringUp p headset).links[p]
    (l.state = .up ∧ l.goodCount = 0 ∧ l.hold = none ∧ l.lastGood = some s.now ∧ l.upSince = some s.now) ∧
      (s.links[p].control = [] → l.holds (.state (s.snapshot p)) ∧ l.holds (.screenLevel (s.screenLevel p))) := by
  intro l
  obtain ⟨f, heq, hf⟩ := s.bringUp_eq p headset
  have hl : l = f s.links[p] := by
    change (s.bringUp p headset).links[p] = _
    rw [heq]
    exact State.modLink_self ..
  have hframe := s.links[p].broughtUp_frame s.now (s.snapshot p) (s.screenLevel p)
  rw [hl]
  rcases hf with hf | hf
  · rw [hf]
    exact ⟨hframe, fun h => Link.broughtUp_holds h ..⟩
  · obtain ⟨hstate, hcount, hhold, hgood, hsince⟩ :=
      Link.handCard_frame (s.links[p].broughtUp s.now (s.snapshot p) (s.screenLevel p)) s.now strapFaultCard
    rw [hf, hstate, hcount, hhold, hgood, hsince]
    refine ⟨hframe, fun h => ?_⟩
    obtain ⟨hs, hlevel⟩ := Link.broughtUp_holds (l := s.links[p]) h s.now (s.snapshot p) (s.screenLevel p)
    exact ⟨Link.handCard_holds hs _ _, Link.handCard_holds hlevel _ _⟩

/-! ## STATUS -/

theorem exec_status_of_down {s : State} {p : Port} (hruns : s.linkRuns p = true) (hdown : s.links[p].state = .down)
    (hoff : s.links[p].holdOff = none) (h ready : Bool) : exec (.status p h ready) s = .next
      (if ready then
        if s.links[p].goodCount < 2 then s.modLink p fun x => { x with goodCount := x.goodCount + 1, lastGood := some s.now }
        else s.bringUp p h
      else s.modLink p fun x => { x with goodCount := 0 }) := by
  change execStatus p h ready s = _
  simp only [execStatus, if_pos hruns, hdown, hoff]
  cases ready
  · rfl
  · exact (apply_ite Host.Outcome.next ..).symm

theorem exec_status_of_up {s : State} {p : Port} (hruns : s.linkRuns p = true) (hup : s.links[p].state = .up) (h : Bool) :
    exec (.status p h true) s = .next ((s.modLink p fun x => { x with lastGood := some s.now }).takeHeadset p h) := by
  change execStatus p h true s = _
  simp only [execStatus, if_pos hruns, hup]
  rfl

theorem State.takeHeadset_of_new {s : State} {p : Port} (h : (s.berth p).headset = false) : s.takeHeadset p true =
    (s.modBerth p fun b => { b.activity s.now with headset := true }).recompute p := by
  simp [State.takeHeadset, h]

theorem State.takeHeadset_of_known {s : State} {p : Port} {present : Bool} (h : present = false ∨ (s.berth p).headset = true) :
    s.takeHeadset p present = s.modBerth p fun b => { b with headset := present } := by
  rw [State.takeHeadset, if_neg]
  obtain h | h := h <;> simp [h]

theorem Berth.activity_of_resting {b : Berth} (h : b.attention = .resting) (now : Time) : (b.activity now).attention = .awake := by
  simp [Berth.activity, h]

@[simp] theorem Berth.activity_reported (b : Berth) (now : Time) : (b.activity now).reported = b.reported := by
  cases h : b.attention <;> simp [Berth.activity, h]

/-- A headset newly present is activity, and the level follows (R14, R18). -/
theorem status_of_new_headset {s u : State} {p : Port} (hruns : s.linkRuns p = true) (hup : s.links[p].state = .up)
    (hheadset : (s.berth p).headset = false) (hu : u = (s.modLink p fun x => { x with lastGood := some s.now }).takeHeadset p true) :
    u.links[p].lastGood = some s.now ∧ (u.berth p).headset = true ∧
      ((s.berth p).attention = .resting → (u.berth p).attention = .awake) ∧
      (u.berth p).reported = some (u.screenLevel p) ∧
      framesHanded { s.links[p] with lastGood := some s.now } u.links[p]
        (if (s.berth p).reported = some (u.screenLevel p) then [] else [.screenLevel (u.screenLevel p)]) := by
  generalize hv : s.modLink p (fun x => { x with lastGood := some s.now }) = v at hu
  have hvberth : v.berth p = s.berth p := by rw [← hv]; rfl
  have hvnow : v.now = s.now := by rw [← hv]; rfl
  have hvlink : v.links[p] = { s.links[p] with lastGood := some s.now } := by rw [← hv]; exact State.modLink_self ..
  have hvservice : v.inService p = true := by rw [← hv]; exact ((Bool.and_eq_true _ _).mp hruns).1
  rw [State.takeHeadset_of_new (by rw [hvberth]; exact hheadset), hvnow] at hu
  generalize hw : v.modBerth p (fun b => { b.activity s.now with headset := true }) = w at hu
  have hwberth : w.berth p = { (s.berth p).activity s.now with headset := true } := by
    rw [← hw, State.modBerth_self, hvberth]
  have hsent := levelSent_recompute (s := v) (u := w) (p := p) (frames := []) (by rw [← hw]; exact hvservice)
    (by rw [hvlink]; exact hup) (by rw [← hw]; rfl) (by rw [hwberth, hvberth]; exact Berth.activity_reported ..)
  rw [← hu] at hsent
  obtain ⟨hframes, hreported⟩ := hsent
  rw [List.nil_append, hvlink, hvberth] at hframes
  obtain ⟨hlink, hberth⟩ := State.recompute_self (s := w) (p := p)
  rw [← hu] at hlink hberth
  have hgood : u.links[p].lastGood = some s.now := by
    have hwlink : w.links[p] = { s.links[p] with lastGood := some s.now } := by rw [← hw]; exact hvlink
    rw [hlink, hwlink]
    split
    · unfold levelFrames
      split
      · rfl
      · rw [List.foldl_cons, List.foldl_nil, Link.handControl_frame]
    · rfl
  refine ⟨hgood, by rw [hberth, hwberth], fun hrest => ?_, hreported, hframes⟩
  rw [hberth, hwberth]
  exact Berth.activity_of_resting hrest s.now

/-- A bring-up or a STATUS frame in UP changes the port's own link and berth record alone. -/
theorem State.takeHeadset_port (s : State) (p : Port) (h : Bool) :
    (∀ q, q ≠ p → (s.takeHeadset p h).berth q = s.berth q ∧ (s.takeHeadset p h).links[q] = s.links[q]) ∧
      s.takeHeadset p h = { s with berths := (s.takeHeadset p h).berths, links := (s.takeHeadset p h).links } := by
  unfold State.takeHeadset
  split
  · refine ⟨fun q hq => ?_, ?_⟩
    · obtain ⟨hlink, hberth⟩ := State.recompute_other (s := s.modBerth p fun b => { b.activity s.now with headset := true }) hq
      rw [hlink, hberth, State.modBerth_other _ hq]
      exact ⟨rfl, rfl⟩
    · have heq := State.recompute_eq (s.modBerth p fun b => { b.activity s.now with headset := true }) p
      generalize State.recompute _ p = v at heq
      rw [heq]
      rfl
  · exact ⟨fun q hq => ⟨State.modBerth_other _ hq _, rfl⟩, rfl⟩

/-- Settles O46. -/
theorem statusBringsTheLinkUp : Obligations.StatusBringsTheLinkUp := by
  intro s p hruns
  refine ⟨fun hdown hoff => ⟨fun h hcount => ?_, fun h => ?_, fun t0 hcount hgood => ?_, fun h hcount => ?_⟩, fun hup h => ?_⟩
  · rw [exec_status_of_down hruns hdown hoff, if_pos rfl, if_pos hcount]
  · rw [exec_status_of_down hruns hdown hoff, if_neg Bool.false_ne_true]
  · change execGoodCountTimeout p s = _
    simp only [execGoodCountTimeout, hdown, hgood, if_pos hcount]
  · obtain ⟨⟨hstate, hgood, hhold, hlast, hsince⟩, hholds⟩ := s.bringUp_link p h
    obtain ⟨f, heq, _⟩ := s.bringUp_eq p h
    refine ⟨s.bringUp p h, ?_, hstate, hgood, hhold, hlast, hsince, hholds, ?_, fun q hq => ?_, ?_⟩
    · rw [exec_status_of_down hruns hdown hoff, if_pos rfl, if_neg (by omega)]
    · rw [heq, State.modBerth_self]
      rfl
    · rw [heq]
      exact ⟨State.modBerth_other _ hq _, State.modLink_other _ hq _⟩
    · rw [heq]
      rfl
  · generalize hv : s.modLink p (fun x => { x with lastGood := some s.now }) = v
    have hvberth : v.berth p = s.berth p := by rw [← hv]; rfl
    have hvlink : v.links[p] = { s.links[p] with lastGood := some s.now } := by rw [← hv]; exact State.modLink_self ..
    have hother : ∀ q, q ≠ p → (v.takeHeadset p h).berth q = s.berth q ∧ (v.takeHeadset p h).links[q] = s.links[q] := by
      intro q hq
      obtain ⟨hberth, hlink⟩ := (v.takeHeadset_port p h).1 q hq
      rw [hberth, hlink, ← hv]
      exact ⟨rfl, State.modLink_other _ hq _⟩
    have honly : v.takeHeadset p h = { s with berths := (v.takeHeadset p h).berths, links := (v.takeHeadset p h).links } := by
      have hframe := (v.takeHeadset_port p h).2
      generalize v.takeHeadset p h = w at hframe
      rw [hframe, ← hv]
      rfl
    by_cases hnew : h = true ∧ (s.berth p).headset = false
    · obtain ⟨rfl, hheadset⟩ := hnew
      obtain ⟨hgood, hpresent, hawake, hreported, hframes⟩ := status_of_new_headset (u := v.takeHeadset p true) hruns hup hheadset (by rw [hv])
      exact ⟨v.takeHeadset p true, hv ▸ exec_status_of_up hruns hup true, hgood, hpresent, fun _ _ => hawake,
        fun hno => absurd hno (by simp [hheadset]), fun _ _ => ⟨hreported, hframes⟩, hother, honly⟩
    · have hknown : h = false ∨ (s.berth p).headset = true := by
        cases h
        · exact .inl rfl
        · exact .inr (by simpa using hnew)
      have heq := State.takeHeadset_of_known (s := v) (p := p) (hvberth.symm ▸ hknown)
      have hberth : (v.takeHeadset p h).berth p = { s.berth p with headset := h } := by
        rw [heq, State.modBerth_self, hvberth]
      have hlink : (v.takeHeadset p h).links[p] = { s.links[p] with lastGood := some s.now } := by
        rw [heq, ← hvlink]
        rfl
      exact ⟨v.takeHeadset p h, hv ▸ exec_status_of_up hruns hup h, by rw [hlink], by rw [hberth],
        fun ht hf => absurd ⟨ht, hf⟩ hnew, fun _ => ⟨hberth, hlink⟩, fun ht hf => absurd ⟨ht, hf⟩ hnew, hother, honly⟩

end Sys2Proof.Machine
end

section
/-! Passenger requests that set a field of the berth record: O33 and O34. -/

namespace Sys2Proof.Machine

/-! ## The answer to a request, and the level after it -/

theorem Link.foldl_handControl_holds {l : Link} {g : SeatFrame} (h : l.holds g) (frames : List SeatFrame) :
    (frames.foldl Link.handControl l).holds g := by
  induction frames generalizing l with
  | nil => exact h
  | cons f frames ih => exact ih (Link.handControl_holds h f)

section
variable (u : State) (p : Port) (k : RequestKind) (a : Answer)

theorem State.answer_links : (u.answer p k a).links = (u.modLink p fun l => l.handControl (.answer k a)).links := by
  cases a <;> rfl

theorem State.answer_berth (q : Port) : (u.answer p k a).berth q = u.berth q := by
  cases a <;> rfl

theorem State.answer_eq : u.answer p k a = { u with
    links := (u.answer p k a).links,
    berths := { u.berths with
      refusals := if a = .accepted then u.berths.refusals else bump u.berths.refusals } } := by
  cases a with
  | accepted => rw [if_pos rfl]; rfl
  | refused e => rw [if_neg nofun]; rfl

/-- What the answer to a request and the level that follows it leave of the node (R4, R18, R23). -/
theorem State.recompute_answer_frame :
    (((u.answer p k a).recompute p).berth p =
      { u.berth p with reported := (((u.answer p k a).recompute p).berth p).reported }) ∧
    (∀ q, q ≠ p → ((u.answer p k a).recompute p).berth q = u.berth q ∧ ((u.answer p k a).recompute p).links[q] = u.links[q]) ∧
    ((u.answer p k a).recompute p).berths.requests = u.berths.requests ∧
    ((u.answer p k a).recompute p).berths.refusals = (if a = .accepted then u.berths.refusals else bump u.berths.refusals) ∧
    (u.answer p k a).recompute p =
      { u with berths := ((u.answer p k a).recompute p).berths, links := ((u.answer p k a).recompute p).links } := by
  have hanswer := u.answer_eq p k a
  have hrecompute := (u.answer p k a).recompute_eq p
  refine ⟨?_, fun q hq => ?_, ?_, ?_, ?_⟩
  · rw [State.recompute_self.2, State.answer_berth]
  · obtain ⟨hlink, hberth⟩ := State.recompute_other (s := u.answer p k a) hq
    rw [hlink, hberth, State.answer_berth, State.answer_links]
    exact ⟨rfl, State.modLink_other _ hq _⟩
  · rw [hrecompute, hanswer]
  · rw [hrecompute, hanswer]
  · generalize State.recompute (u.answer p k a) p = t at hrecompute
    rw [hrecompute, hanswer]

/-- At a link that is UP the level is reported behind the ANSWER frame, which is held when there is room for it (R4, R18). -/
theorem State.recompute_answer_sent (hservice : u.inService p = true) (hup : u.links[p].state = .up) :
    levelSent u ((u.answer p k a).recompute p) p [.answer k a] ∧
      (u.links[p].control.length < 16 → (((u.answer p k a).recompute p).links[p]).holds (.answer k a)) := by
  have hlinks : (u.answer p k a).links[p] = u.links[p].handControl (.answer k a) := by
    simp only [State.answer_links]
    exact State.modLink_self ..
  have hstartup : (u.answer p k a).inService p = true := by rw [State.answer_eq]; exact hservice
  refine ⟨levelSent_recompute (frames := [.answer k a]) hstartup hup hlinks (by rw [State.answer_berth]), fun hroom => ?_⟩
  have hheld : (u.answer p k a).links[p].holds (.answer k a) := by
    rw [hlinks]
    exact Link.holds_handControl hup hroom _
  rw [State.recompute_self.1]
  split
  · exact Link.foldl_handControl_holds hheld _
  · exact hheld

end

/-- The level that the statements speak of is told by the port's own link and by what it last reported. -/
theorem levelSent_congr {s u t : State} {p : Port} {frames : List SeatFrame} (hlink : u.links[p] = s.links[p])
    (hreported : (u.berth p).reported = (s.berth p).reported) (h : levelSent u t p frames) : levelSent s t p frames := by
  rw [levelSent, ← hlink, ← hreported]
  exact h

/-! ## A request taken -/

/-- The node when a request's own effect begins: the request counted, the activity step taken (R4, R5). -/
def State.requested (s : State) (p : Port) (r : PassengerRequest) : State :=
  State.modBerth { s with berths := { s.berths with requests := bump s.berths.requests } } p fun b => b.requestActivity r s.now

theorem State.requested_berth (s : State) (p : Port) (r : PassengerRequest) :
    (s.requested p r).berth p = (s.berth p).requestActivity r s.now := State.modBerth_self ..

theorem Berth.requestActivity_reported (b : Berth) (r : PassengerRequest) (now : Time) :
    (b.requestActivity r now).reported = b.reported := by
  unfold Berth.requestActivity
  split <;> simp

theorem State.takeRequest_of_taken {s : State} {p : Port} (h : (s.linkRuns p && s.linkUp p) = true) (r : PassengerRequest) :
    s.takeRequest p r = (((s.requested p r).requestEffect p r).1.answer p (requestKind r)
      ((s.requested p r).requestEffect p r).2).recompute p := if_pos h

/-- A request whose effect is one on the berth record alone. -/
theorem requestTaken_of_effect {s : State} {p : Port} {r : PassengerRequest} {a : Answer} {f g : Berth → Berth}
    (h : (s.linkRuns p && s.linkUp p) = true)
    (heffect : (s.requested p r).requestEffect p r = ((s.requested p r).modBerth p g, a))
    (hg : ∀ b, (g b).reported = b.reported)
    (hf : g ((s.berth p).requestActivity r s.now) = f ((s.berth p).activity s.now)) :
    requestTaken s (s.takeRequest p r) p (requestKind r) a f := by
  rw [State.takeRequest_of_taken h, heffect]
  generalize hu : (s.requested p r).modBerth p g = u
  have hberth : u.berth p = g ((s.berth p).requestActivity r s.now) := by
    rw [← hu, State.modBerth_self, State.requested_berth]
  have hreported : (u.berth p).reported = (s.berth p).reported := by
    rw [hberth, hg, Berth.requestActivity_reported]
  have hlinks : u.links[p] = s.links[p] := by rw [← hu]; rfl
  have hservice : u.inService p = true := by
    rw [← hu]
    exact ((Bool.and_eq_true _ _).mp ((Bool.and_eq_true _ _).mp h).1).1
  have hother : ∀ q, q ≠ p → u.berth q = s.berth q ∧ u.links[q] = s.links[q] := fun q hq => by
    rw [← hu]
    exact ⟨(State.modBerth_other _ hq _).trans (State.modBerth_other _ hq _), rfl⟩
  obtain ⟨hrecord, hrest, hrequests, hrefusals, honly⟩ := u.recompute_answer_frame p (requestKind r) a
  obtain ⟨hsent, hholds⟩ := u.recompute_answer_sent p (requestKind r) a hservice (by rw [hlinks]; exact linkRuns_and_linkUp h)
  refine ⟨?_, fun q hq => ?_, ?_, ?_, ?_, levelSent_congr hlinks hreported hsent, ?_⟩
  · rw [← hf, ← hberth, ← hsent.2]
    exact hrecord
  · rw [(hrest q hq).1, (hrest q hq).2]
    exact hother q hq
  · rw [hrequests, ← hu]
    rfl
  · rw [hrefusals, ← hu]
    rfl
  · rw [← hlinks]
    exact hholds
  · generalize State.recompute _ p = t at honly
    rw [honly, ← hu]
    rfl

/-- A request refused without an effect. -/
theorem requestTaken_of_no_effect {s : State} {p : Port} {r : PassengerRequest} {a : Answer}
    (h : (s.linkRuns p && s.linkUp p) = true) (heffect : (s.requested p r).requestEffect p r = (s.requested p r, a))
    (hr : (s.berth p).requestActivity r s.now = (s.berth p).activity s.now) :
    requestTaken s (s.takeRequest p r) p (requestKind r) a fun b => b :=
  requestTaken_of_effect (g := id) h (by rw [State.modBerth_of_eq rfl]; exact heffect) (fun _ => rfl) hr

theorem min_eq_ite (n v : Nat) : min n v = if n < v then n else v := by
  split <;> omega

/-- Settles O34. -/
theorem settingsAreTaken : Obligations.SettingsAreTaken := by
  refine ⟨fun s p h => ⟨fun v => ?_, fun on => ?_, fun on => ?_⟩, fun s p v w h => ⟨?_, ?_⟩⟩
  · exact ⟨_, rfl, requestTaken_of_effect (r := .volume v) (g := fun b => { b with volume := min 31 v }) h rfl (fun _ => rfl)
      (by rw [min_eq_ite]; rfl)⟩
  · exact ⟨_, rfl, requestTaken_of_effect (r := .mute on) (g := fun b => { b with mute := on }) h rfl (fun _ => rfl) rfl⟩
  · exact ⟨_, rfl, requestTaken_of_effect (r := .screen on) (g := fun b => { b with screen := if on then .on else .off }) h rfl
      (fun _ => rfl) rfl⟩
  · exact ⟨_, rfl, fun hv => requestTaken_of_effect (r := .language v) (g := fun b => { b with language := v }) h (if_pos hv)
      (fun _ => rfl) rfl, fun hv => requestTaken_of_no_effect (r := .language v) h (if_neg (by omega)) rfl⟩
  · exact ⟨_, rfl, fun hv => requestTaken_of_effect (r := .stop v w) (g := fun b => { b with stop := v, stopWake := w }) h (if_pos hv)
      (fun _ => rfl) rfl, fun hv => requestTaken_of_no_effect (r := .stop v w) h (if_neg (by omega)) rfl⟩

/-! ## Inactivity -/

/-- An AWAKE berth of the node at its limit (R12). -/
theorem exec_inactivityExpiry_of_awake {s : State} {p : Port} {t0 : Time} (htimer : (s.berth p).timer = .counting t0)
    (hawake : (s.berth p).attention = .awake) (hservice : s.inService p = true) :
    exec (.inactivityExpiry p) s = .next (((s.reach (t0 + inactivityLimit)).modBerth p Berth.rest).recompute p) := by
  change execInactivityExpiry p s = _
  simp only [execInactivityExpiry, hawake, htimer, if_pos hservice]

theorem exec_inactivityExpiry_of_not {s : State} {p : Port}
    (h : ∀ t0, (s.berth p).timer = .counting t0 → (s.berth p).attention = .awake → s.inService p = false) :
    exec (.inactivityExpiry p) s = .next s := by
  change execInactivityExpiry p s = _
  unfold execInactivityExpiry
  split
  · next t0 hawake htimer => rw [if_neg (by rw [h t0 htimer hawake]; exact Bool.false_ne_true)]
  · rfl

@[simp] theorem Berth.activity_brightness (b : Berth) (now : Time) : (b.activity now).brightness = b.brightness := by
  cases h : b.attention <;> simp [Berth.activity, h]

/-- Settles O33. -/
theorem brightnessIsClampedAndKept : Obligations.BrightnessIsClampedAndKept := by
  intro s p v h
  refine ⟨⟨_, rfl, ?_⟩, fun on => ?_, ?_, fun hshown => ?_⟩
  · exact requestTaken_of_effect (r := .brightness v) (g := fun b => { b with brightness := min 15 v }) h rfl (fun _ => rfl)
      (by rw [min_eq_ite]; rfl)
  · have htaken := requestTaken_of_effect (r := .screen on) (g := fun b => { b with screen := if on then .on else .off })
      (f := fun b => { b with screen := if on then .on else .off }) h rfl (fun _ => rfl) rfl
    refine ⟨s.takeRequest p (.screen on), rfl, ?_⟩
    rw [htaken.1]
    exact Berth.activity_brightness ..
  · by_cases hrest : ∃ t0, (s.berth p).timer = .counting t0 ∧ (s.berth p).attention = .awake ∧ s.inService p = true
    · obtain ⟨t0, htimer, hawake, hservice⟩ := hrest
      refine ⟨_, exec_inactivityExpiry_of_awake htimer hawake hservice, ?_⟩
      rw [State.recompute_self.2, State.modBerth_self]
      rfl
    · refine ⟨s, exec_inactivityExpiry_of_not fun t0 htimer hawake => ?_, rfl⟩
      by_contra hservice
      exact hrest ⟨t0, htimer, hawake, by simpa using hservice⟩
  · have hon : (s.berth p).shown = .on := by
      rw [Berth.shown]
      split
      · rfl
      · next hhold => exact hshown.resolve_right hhold
    simp only [State.screenLevel, Berth.level, hon]

end Sys2Proof.Machine
end

section
/-! Taps created and released, and the SELECT request: O32. -/

namespace Sys2Proof.Machine

/-! ## Taps created and released -/

section
variable (s : State)

/-- A tap created where there was none (R48). -/
theorem State.tap?_createTap {q : Nat} (hnone : s.tap? q = none) (o : Nat) : (s.createTap q).tap? o =
    if o = q then some (Tap.fresh q ((s.catEntry? q).map CatEntry.source) s.now) else s.tap? o := by
  split
  · next h =>
    subst h
    exact find_insertBefore_self _ _ _ _ (by simp [Tap.fresh]) fun y hy => by simpa using key_ne_of_find Tap.program _ hnone y hy
  · next h => exact find_insertBefore_other _ _ _ _ (by simpa [Tap.fresh] using fun h' => h h'.symm)

theorem State.pairwise_createTap {q : Nat} (hnone : s.tap? q = none)
    (h : s.taps.taps.Pairwise fun x y => x.program < y.program) :
    (s.createTap q).taps.taps.Pairwise fun x y => x.program < y.program :=
  pairwise_insert_of_key Tap.program (fun y hy => key_ne_of_find Tap.program q hnone y hy) h

/-- A tap of a program that no berth selects any more goes (R48). -/
def State.released (p : Nat) : State :=
  if decide (p ≠ 0) && !s.isSelected p && (s.tap? p).isSome then s.modTaps fun t => { t with taps := t.taps.filter fun x => x.program ≠ p }
  else s

/-- A tap of a selected program comes (R48). -/
def State.retapped (q : Nat) : State := if decide (q ≠ 0) && (s.tap? q).isNone then s.createTap q else s

theorem State.tap?_released (p o : Nat) : (s.released p).tap? o =
    if o = p ∧ p ≠ 0 ∧ s.isSelected p = false then none else s.tap? o := by
  have hfind : (s.tap? p).isSome = true → ∀ o, (s.modTaps fun t => { t with taps := t.taps.filter fun x => x.program ≠ p }).tap? o =
      if o = p then none else s.tap? o := fun _ o => find_remove Tap.program p o s.taps.taps
  unfold State.released
  by_cases htap : (s.tap? p).isSome = true
  · by_cases hcond : p ≠ 0 ∧ s.isSelected p = false
    · rw [if_pos (by simp [hcond, htap]), hfind htap]
      simp [hcond]
    · rw [if_neg fun h => hcond (by simpa [htap] using h), if_neg fun h => hcond h.2]
  · rw [if_neg (by simp [htap])]
    split
    · next h =>
      rw [h.1]
      simpa using htap
    · rfl

theorem State.tap?_retapped (q o : Nat) : (s.retapped q).tap? o =
    if o = q ∧ q ≠ 0 ∧ s.tap? q = none then some (Tap.fresh q ((s.catEntry? q).map CatEntry.source) s.now) else s.tap? o := by
  unfold State.retapped
  by_cases hcond : q ≠ 0 ∧ s.tap? q = none
  · rw [if_pos (by simp [hcond]), State.tap?_createTap s hcond.2]
    simp [hcond]
  · rw [if_neg fun h => hcond (by simpa using h), if_neg fun h => hcond h.2]

theorem State.pairwise_released (p : Nat) (h : s.taps.taps.Pairwise fun x y => x.program < y.program) :
    (s.released p).taps.taps.Pairwise fun x y => x.program < y.program := by
  unfold State.released
  split
  · exact h.filter _
  · exact h

theorem State.pairwise_retapped (q : Nat) (h : s.taps.taps.Pairwise fun x y => x.program < y.program) :
    (s.retapped q).taps.taps.Pairwise fun x y => x.program < y.program := by
  unfold State.retapped
  split
  · next hcond => exact s.pairwise_createTap (by simp at hcond; exact hcond.2) h
  · exact h

/-- Both change nothing but the taps. -/
theorem State.retapped_released_eq (p q : Nat) : ((s.released p).retapped q) =
    { s with taps := { s.taps with taps := ((s.released p).retapped q).taps.taps } } := by
  unfold State.released State.retapped
  split <;> split <;> rfl

/-- A program is tapped when it is one of the programs tapped. -/
theorem State.tap?_isSome_iff (o : Nat) : (s.tap? o).isSome = true ↔ o ∈ s.taps.taps.map Tap.program := by
  simp [State.tap?, List.find?_isSome]

/-! ## A selection changed -/

/-- A changed selection changes nothing, or the tapped set with one WANT (R48). -/
theorem State.selectionChanged_cases {p q : Nat} (hpq : p ≠ q) :
    (s.selectionChanged p q = s ∧ (s.released p).retapped q = s) ∨
      (s.selectionChanged p q = ((s.released p).retapped q).sendWant ∧
        ((s.released p).retapped q).taps.taps.map Tap.program ≠ s.taps.taps.map Tap.program) := by
  have heq : s.selectionChanged p q =
      if (decide (p ≠ 0) && !s.isSelected p && (s.tap? p).isSome) || (decide (q ≠ 0) && ((s.released p).tap? q).isNone)
      then ((s.released p).retapped q).sendWant else (s.released p).retapped q := rfl
  rw [heq]
  by_cases hrelease : p ≠ 0 ∧ s.isSelected p = false ∧ (s.tap? p).isSome = true
  · obtain ⟨hp, hselected, htap⟩ := hrelease
    refine .inr ⟨if_pos (by simp [hp, hselected, htap]), fun hsame => ?_⟩
    rw [State.tap?_isSome_iff, ← hsame, ← State.tap?_isSome_iff, State.tap?_retapped, if_neg fun hc => hpq hc.1,
      State.tap?_released, if_pos ⟨rfl, hp, hselected⟩] at htap
    exact absurd htap nofun
  · have hrel : s.released p = s := if_neg fun h => hrelease (by simpa [and_assoc] using h)
    have hno : (decide (p ≠ 0) && !s.isSelected p && (s.tap? p).isSome) = false := by
      rw [Bool.eq_false_iff]
      exact fun h => hrelease (by simpa [and_assoc] using h)
    rw [hrel, hno, Bool.false_or]
    by_cases hcreate : q ≠ 0 ∧ s.tap? q = none
    · obtain ⟨hq, hnone⟩ := hcreate
      refine .inr ⟨if_pos (by simp [hq, hnone]), fun hsame => ?_⟩
      have htap : ((s.retapped q).tap? q).isSome = true := by rw [State.tap?_retapped]; simp [hq, hnone]
      rw [State.tap?_isSome_iff, hsame, ← State.tap?_isSome_iff, hnone] at htap
      exact absurd htap nofun
    · have hcond : ¬((decide (q ≠ 0) && (s.tap? q).isNone) = true) := fun h => hcreate (by simpa using h)
      exact .inl ⟨(if_neg hcond).trans (if_neg hcond), if_neg hcond⟩

/-- The taps are those released and created, whether or not a WANT is sent. -/
theorem State.selectionChanged_taps {p q : Nat} (hpq : p ≠ q) :
    (s.selectionChanged p q).taps.taps = ((s.released p).retapped q).taps.taps := by
  obtain ⟨h, hsame⟩ | ⟨h, _⟩ := s.selectionChanged_cases hpq
  · rw [h, hsame]
  · rw [h, State.sendWant, State.modTaps_taps, State.handOver_frame]

/-- A changed selection changes taps and trunk alone. -/
theorem State.selectionChanged_eq {p q : Nat} (hpq : p ≠ q) : s.selectionChanged p q =
    { s with taps := (s.selectionChanged p q).taps, trunk := (s.selectionChanged p q).trunk } := by
  obtain ⟨h, _⟩ | ⟨h, _⟩ := s.selectionChanged_cases hpq
  · rw [h]
  · have hsame := s.retapped_released_eq p q
    have hsent : ((s.released p).retapped q).sendWant = { (s.released p).retapped q with
        taps := (((s.released p).retapped q).sendWant).taps, trunk := (((s.released p).retapped q).sendWant).trunk } := by
      have hframe := ((s.released p).retapped q).handOver_frame (.want (((s.released p).retapped q).taps.taps.map Tap.program))
      rw [State.sendWant]
      generalize State.handOver _ _ = v at hframe
      rw [hframe]
      rfl
    rw [h]
    generalize ((s.released p).retapped q).sendWant = v at hsent
    rw [hsent, hsame]

end

/-! ## SELECT -/

/-- The berth record when a SELECT has been taken: the activity step and the program (R5, R6). -/
def State.selected (s : State) (p : Port) (q : Nat) : State :=
  (s.requested p (.select q)).modBerth p fun b => { b with program := q }

theorem State.selected_berth (s : State) (p : Port) (q : Nat) :
    (s.selected p q).berth p = { (s.berth p).activity s.now with program := q } := by
  rw [State.selected, State.modBerth_self, State.requested_berth]
  rfl

theorem State.selected_other (s : State) {p o : Port} (h : o ≠ p) (q : Nat) : (s.selected p q).berth o = s.berth o :=
  (State.modBerth_other _ h _).trans (State.modBerth_other _ h _)

/-- Which programs are selected once a berth has changed its own. -/
theorem State.isSelected_selected {s : State} {p : Port} {q n : Nat} (hn : n ≠ q) : (s.selected p q).isSelected n = true ↔
    ∃ o, o ≠ p ∧ s.inService o = true ∧ (s.berth o).program = n := by
  simp only [State.isSelected, List.any_eq_true, State.mem_servicePorts, beq_iff_eq]
  constructor
  · rintro ⟨o, hservice, hprogram⟩
    have ho : o ≠ p := by
      rintro rfl
      rw [State.selected_berth] at hprogram
      exact hn hprogram.symm
    exact ⟨o, ho, hservice, by rwa [State.selected_other s ho] at hprogram⟩
  · rintro ⟨o, ho, hservice, hprogram⟩
    exact ⟨o, hservice, by rwa [State.selected_other s ho]⟩

/-- The effect of a SELECT that is accepted (R6, R48). -/
def State.selectTaken (s : State) (p : Port) (q : Nat) : State :=
  if s.running = true ∧ (s.berth p).program ≠ q then (s.selected p q).selectionChanged (s.berth p).program q else s.selected p q

@[simp] theorem Berth.activity_program (b : Berth) (now : Time) : (b.activity now).program = b.program := by
  cases h : b.attention <;> simp [Berth.activity, h]

theorem requestEffect_select {s : State} {p : Port} {q : Nat} (h : q = 0 ∨ (q ≤ 63 ∧ (s.catEntry? q).isSome = true)) :
    (s.requested p (.select q)).requestEffect p (.select q) = (s.selectTaken p q, .accepted) := by
  have hprogram : ((s.requested p (.select q)).berth p).program = (s.berth p).program := by
    rw [State.requested_berth]
    exact Berth.activity_program ..
  have hnot : ¬(q ≠ 0 ∧ (63 < q ∨ (s.catEntry? q).isNone = true)) := by
    rintro ⟨hq, hbad⟩
    obtain ⟨hle, hsome⟩ := h.resolve_left hq
    obtain hbad | hbad := hbad
    · omega
    · rw [Option.isNone_iff_eq_none.mp hbad] at hsome
      exact absurd hsome nofun
  refine (if_neg hnot).trans ?_
  simp only [hprogram]
  rfl

theorem State.selectTaken_eq (s : State) (p : Port) (q : Nat) : s.selectTaken p q =
    { s.selected p q with taps := (s.selectTaken p q).taps, trunk := (s.selectTaken p q).trunk } := by
  unfold State.selectTaken
  split
  · next h =>
    have hsame := (s.selected p q).selectionChanged_eq h.2
    generalize State.selectionChanged _ _ _ = v at hsame
    rw [hsame]
  · rfl

/-- A SELECT that moves no tap. -/
theorem State.selectTaken_of_not {s : State} {p : Port} {q : Nat} (h : ¬(s.running = true ∧ (s.berth p).program ≠ q)) :
    s.selectTaken p q = s.selected p q := if_neg h

section
variable {s : State} {p : Port} {q : Nat} (hrun : s.running = true) (hold : (s.berth p).program ≠ q)
include hrun hold

/-- The taps after a SELECT that changes the selection, program by program (R48). -/
theorem State.tap?_selectTaken (o : Nat) : (s.selectTaken p q).tap? o =
    if o = q ∧ q ≠ 0 ∧ s.tap? q = none then some (Tap.fresh q ((s.catEntry? q).map CatEntry.source) s.now)
    else if o = (s.berth p).program ∧ (s.berth p).program ≠ 0 ∧ (s.selected p q).isSelected (s.berth p).program = false then none
    else s.tap? o := by
  have htap : (s.selectTaken p q).tap? o = (((s.selected p q).released (s.berth p).program).retapped q).tap? o := by
    rw [State.selectTaken, if_pos ⟨hrun, hold⟩]
    exact congrArg (List.find? fun x => x.program == o) ((s.selected p q).selectionChanged_taps hold)
  have hcat : ((s.selected p q).released (s.berth p).program).catEntry? q = s.catEntry? q := by
    unfold State.released
    split <;> rfl
  have hnow : ((s.selected p q).released (s.berth p).program).now = s.now := by
    unfold State.released
    split <;> rfl
  have hq : ((s.selected p q).released (s.berth p).program).tap? q = s.tap? q := by
    rw [State.tap?_released, if_neg fun h => hold h.1.symm]
    rfl
  rw [htap, State.tap?_retapped, hcat, hnow, hq, State.tap?_released]
  rfl

theorem State.pairwise_selectTaken (h : s.taps.taps.Pairwise fun x y => x.program < y.program) :
    (s.selectTaken p q).taps.taps.Pairwise fun x y => x.program < y.program := by
  rw [State.selectTaken, if_pos ⟨hrun, hold⟩, State.selectionChanged_taps _ hold]
  exact State.pairwise_retapped _ _ (State.pairwise_released _ _ h)

/-- The tapped set stands, with all of taps and trunk, or changes with one WANT (R48, R50, R51). -/
theorem State.selectTaken_want : ((s.selectTaken p q).taps = s.taps ∧ (s.selectTaken p q).trunk = s.trunk) ∨
    ((s.selectTaken p q).taps.taps.map Tap.program ≠ s.taps.taps.map Tap.program ∧
      (s.selectTaken p q).taps.wantDue = (if (s.selectTaken p q).taps.taps = [] then none else some (s.now + ms 100)) ∧
      (s.selectTaken p q).trunk =
        s.trunk.fed (handedBy s s (.want ((s.selectTaken p q).taps.taps.map Tap.program)))) := by
  have heq : s.selectTaken p q = (s.selected p q).selectionChanged (s.berth p).program q := if_pos ⟨hrun, hold⟩
  obtain ⟨h, _⟩ | ⟨h, hchanged⟩ := (s.selected p q).selectionChanged_cases hold
  · rw [heq, h]
    exact .inl ⟨rfl, rfl⟩
  · have hsame := (s.selected p q).retapped_released_eq (s.berth p).program q
    rw [heq, h]
    generalize ((s.selected p q).released (s.berth p).program).retapped q = v at hchanged hsame
    have hsent : v.sendWant = { v with
        trunk := v.trunk.fed (handedBy v v (.want (v.taps.taps.map Tap.program))),
        taps := { v.taps with wantDue := if v.taps.taps = [] then none else some (v.now + ms 100) } } := by
      rw [State.sendWant, State.handOver_of_running (by rw [hsame]; exact hrun)]
      rfl
    rw [hsent]
    refine .inr ⟨hchanged, ?_, ?_⟩
    · rw [hsame]
      rfl
    · rw [hsame]
      rfl

end

/-- Settles O32. -/
theorem selectMovesTheTap : Obligations.SelectMovesTheTap := by
  intro s p q h
  refine ⟨s.takeRequest p (.select q), rfl, fun hok => ?_, fun hq hbad => ?_⟩
  swap
  · refine requestTaken_of_no_effect (r := .select q) h (if_pos ⟨hq, hbad.imp id fun hnone => ?_⟩) rfl
    exact Option.isNone_iff_eq_none.mpr hnone
  have hu := s.selectTaken_eq p q
  generalize hv : s.selectTaken p q = u at hu
  have hberth : u.berth p = { (s.berth p).activity s.now with program := q } := by
    rw [hu]
    exact s.selected_berth p q
  have hlinks : u.links = s.links := by rw [hu]; rfl
  have hlink : u.links[p] = s.links[p] := by rw [hlinks]
  have hservice : u.inService p = true := by
    rw [hu]
    exact ((Bool.and_eq_true _ _).mp ((Bool.and_eq_true _ _).mp h).1).1
  obtain ⟨hrecord, hrest, hrequests, hrefusals, honly⟩ := u.recompute_answer_frame p .select .accepted
  obtain ⟨hsent, hholds⟩ := u.recompute_answer_sent p .select .accepted hservice (by rw [hlink]; exact linkRuns_and_linkUp h)
  have htake : s.takeRequest p (.select q) = (u.answer p .select .accepted).recompute p := by
    rw [State.takeRequest_of_taken h, requestEffect_select hok, hv]
    rfl
  rw [htake]
  generalize (u.answer p .select .accepted).recompute p = t at hrecord hrest hrequests hrefusals honly hsent hholds
  have htaps : t.taps = u.taps := by rw [honly]
  have htrunk : t.trunk = u.trunk := by rw [honly]
  have hnow : t.now = s.now := by rw [honly, hu]; rfl
  have htap : ∀ o, t.tap? o = u.tap? o := fun o => by rw [State.tap?, htaps]; rfl
  refine ⟨?_, hrequests.trans (by rw [hu]; rfl), hrefusals.trans (by rw [hu]; rfl), by rw [← hlink]; exact hholds,
    levelSent_congr hlink (by rw [hberth]; exact Berth.activity_reported ..) hsent, ?_, fun o ho => ?_, ?_, ?_, ?_, ?_, ?_⟩
  · rw [hberth, hsent.2] at hrecord
    exact hrecord
  · intro hsorted
    rw [htaps, ← hv]
    by_cases hmoves : s.running = true ∧ (s.berth p).program ≠ q
    · exact State.pairwise_selectTaken hmoves.1 hmoves.2 hsorted
    · rw [State.selectTaken_of_not hmoves]
      exact hsorted
  · refine ⟨(hrest o ho).1.trans ?_, (hrest o ho).2.trans ?_⟩
    · rw [hu]
      exact s.selected_other ho q
    · rw [hu]
      rfl
  · rw [honly, hu]
    rfl
  · intro hrun hold old
    have hfind : ∀ o, t.tap? o = _ := fun o => (htap o).trans (hv ▸ State.tap?_selectTaken hrun hold o)
    refine ⟨fun hq hnone => ?_, fun hsome => ?_, fun hzero hlast => ?_, fun hother => ?_, fun o hoq hoold => ?_⟩
    · exact ⟨_, (hfind q).trans (if_pos ⟨rfl, hq, hnone⟩), rfl, rfl, rfl, rfl, rfl⟩
    · rw [hfind, if_neg fun hc => by rw [hc.2.2] at hsome; exact absurd hsome nofun, if_neg fun hc => hold hc.1.symm]
    · have hnot : (s.selected p q).isSelected (s.berth p).program = false := by
        rw [Bool.eq_false_iff]
        intro hs
        obtain ⟨o, ho, hserv, hprogram⟩ := (State.isSelected_selected hold).mp hs
        exact hlast o ho hserv hprogram
      rw [hfind, if_neg fun hc => hold hc.1, if_pos ⟨rfl, hzero, hnot⟩]
    · rw [hfind, if_neg fun hc => hold hc.1,
        if_neg fun hc => absurd ((State.isSelected_selected hold).mpr hother) (by rw [hc.2.2]; exact Bool.false_ne_true)]
    · rw [hfind, if_neg fun hc => hoq hc.1, if_neg fun hc => hoold hc.1]
  · intro hrun hchanged
    rw [htaps, ← hv] at hchanged ⊢
    by_cases hold : (s.berth p).program = q
    · rw [State.selectTaken_of_not fun hm => hm.2 hold] at hchanged
      exact absurd rfl hchanged
    · obtain ⟨hsame, _⟩ | ⟨_, hdue, hfed⟩ := State.selectTaken_want hrun hold
      · rw [hsame] at hchanged
        exact absurd rfl hchanged
      · refine ⟨hdue, queuedC_of_fed rfl ?_⟩
        rw [htrunk, ← hv, hfed, handedBy, handedBy, hnow]
  · intro hsame
    rw [htaps, ← hv] at hsame
    rw [htaps, htrunk, ← hv]
    by_cases hmoves : s.running = true ∧ (s.berth p).program ≠ q
    · obtain hstands | ⟨hchanged, _⟩ := State.selectTaken_want hmoves.1 hmoves.2
      · exact hstands
      · exact absurd hsame hchanged
    · rw [State.selectTaken_of_not hmoves]
      exact ⟨rfl, rfl⟩
  · intro hstopped
    rw [htaps, htrunk, ← hv, State.selectTaken_of_not fun hm => by rw [hstopped] at hm; exact absurd hm.1 nofun]
    exact ⟨rfl, rfl⟩

end Sys2Proof.Machine
end

section
/-! The end of LISTENING: the taps built, the records handed over in any order, the periods begun: O12. -/

namespace Sys2Proof.Machine

/-! ## The taps built at entry to RUNNING -/

/-- A port's selection is tapped. -/
def State.buildTap (s : State) (p : Port) : State :=
  if (s.berth p).program ≠ 0 ∧ (s.tap? (s.berth p).program).isNone then s.createTap (s.berth p).program else s

theorem State.buildTap_eq (s : State) (p : Port) : s.buildTap p = { s with taps := { s.taps with taps := (s.buildTap p).taps.taps } } := by
  unfold State.buildTap
  split <;> rfl

theorem State.tap?_buildTap (s : State) (p : Port) (q : Nat) : ((s.buildTap p).tap? q).isSome = true ↔
    (s.tap? q).isSome = true ∨ (q ≠ 0 ∧ (s.berth p).program = q) := by
  unfold State.buildTap
  split
  · next h =>
    rw [s.tap?_createTap (Option.isNone_iff_eq_none.mp h.2)]
    by_cases hq : q = (s.berth p).program
    · simp [hq, h.1]
    · rw [if_neg hq]
      exact ⟨.inl, fun h => h.elim id fun ⟨_, hc⟩ => absurd hc.symm hq⟩
  · next h =>
    refine ⟨.inl, fun hq => hq.elim id fun ⟨hzero, hprogram⟩ => ?_⟩
    subst hprogram
    by_contra hnone
    exact h ⟨hzero, by simpa using hnone⟩

theorem State.pairwise_buildTap (s : State) (p : Port) (h : s.taps.taps.Pairwise fun x y => x.program < y.program) :
    (s.buildTap p).taps.taps.Pairwise fun x y => x.program < y.program := by
  unfold State.buildTap
  split
  · next hcond => exact s.pairwise_createTap (Option.isNone_iff_eq_none.mp hcond.2) h
  · exact h

/-- The taps of several ports' selections (R47). -/
theorem State.foldl_buildTap (l : List Port) (s : State) :
    l.foldl State.buildTap s = { s with taps := { s.taps with taps := (l.foldl State.buildTap s).taps.taps } } ∧
      (∀ q, ((l.foldl State.buildTap s).tap? q).isSome = true ↔
        (s.tap? q).isSome = true ∨ (q ≠ 0 ∧ ∃ p ∈ l, (s.berth p).program = q)) ∧
      (s.taps.taps.Pairwise (fun x y => x.program < y.program) →
        (l.foldl State.buildTap s).taps.taps.Pairwise fun x y => x.program < y.program) := by
  induction l generalizing s with
  | nil => exact ⟨rfl, fun q => by simp, id⟩
  | cons p l ih =>
    obtain ⟨heq, htap, hsorted⟩ := ih (s.buildTap p)
    have hp := s.buildTap_eq p
    have hberth : ∀ o, (s.buildTap p).berth o = s.berth o := fun o => by rw [hp]; rfl
    rw [List.foldl_cons]
    refine ⟨?_, fun q => ?_, fun h => hsorted (s.pairwise_buildTap p h)⟩
    · generalize List.foldl State.buildTap (s.buildTap p) l = v at heq
      rw [heq, hp]
    · simp only [htap, State.tap?_buildTap, hberth, List.mem_cons, exists_eq_or_imp]
      tauto

theorem State.buildTaps_spec (s : State) :
    s.buildTaps = { s with taps := { s.taps with taps := s.buildTaps.taps.taps } } ∧
      (∀ q, (s.buildTaps.tap? q).isSome = true ↔ (s.tap? q).isSome = true ∨ (q ≠ 0 ∧ s.isSelected q = true)) ∧
      (s.taps.taps.Pairwise (fun x y => x.program < y.program) →
        s.buildTaps.taps.taps.Pairwise fun x y => x.program < y.program) := by
  obtain ⟨heq, htap, hsorted⟩ := State.foldl_buildTap s.servicePorts s
  refine ⟨heq, fun q => (htap q).trans ?_, hsorted⟩
  simp [State.isSelected, State.mem_servicePorts]

/-! ## What the trunk keeps and holds -/

theorem Trunk.fed_presenceDue (t : Trunk) (x : TxPacket) : (t.fed x).presenceDue = t.presenceDue := by
  rw [Trunk.fed, Trunk.take_frame]
  unfold Trunk.enqueue
  split
  · rfl
  · rfl
  · split <;> rfl

theorem Trunk.fed_queueA_length_le {t : Trunk} {x : TxPacket} (hx : accessClass x.packet.body = .c) :
    (t.fed x).queueA.length ≤ t.queueA.length := by
  refine (Trunk.take_queueA_length_le _).trans (Nat.le_of_eq ?_)
  rw [t.enqueue_classC hx]
  split <;> rfl

theorem Trunk.fed_queueC_length_le_of_classA {t : Trunk} {x : TxPacket} (hx : accessClass x.packet.body = .a) :
    (t.fed x).queueC.length ≤ t.queueC.length := by
  refine (Trunk.take_queueC_length_le _).trans (Nat.le_of_eq ?_)
  rw [t.enqueue_classA hx]

/-! ## The hand-overs -/

/-- The record that a block hands over (R187). -/
def State.entryRecord (s : State) (b : RunningBlock) : Body :=
  match b with
  | .want => .want (s.taps.taps.map Tap.program)
  | .carry => .carry s.carryList
  | .phase => .phase s.phase.own.epoch s.phase.own.phase.val s.phase.own.setter
  | .presence => .presence s.presenceRecord

/-- The node when the records of a list of blocks have been handed over to a trunk: their periods have begun. -/
def State.entered (s : State) (l : List RunningBlock) (t : Trunk) : State :=
  { s with
    trunk := { t with presenceDue := if .presence ∈ l then some (s.now + ms 1000) else s.trunk.presenceDue },
    taps := { s.taps with wantDue :=
      if .want ∈ l then (if s.taps.taps = [] then none else some (s.now + ms 100)) else s.taps.wantDue },
    carry := { s.carry with carryDue :=
      if .carry ∈ l then (if s.carryList = [] then none else some (s.now + ms 250)) else s.carry.carryDue },
    phase := { s.phase with phaseDue := if .phase ∈ l then some (s.now + ms 5000) else s.phase.phaseDue } }

theorem State.enterBlock_eq {s : State} (hrun : s.running = true) (b : RunningBlock) :
    s.enterBlock b = s.entered [b] (s.trunk.fed (handedBy s s (s.entryRecord b))) := by
  have hpresence := s.trunk.fed_presenceDue (handedBy s s (s.entryRecord b))
  simp only [State.entered, List.mem_singleton]
  cases b with
  | want =>
    simp only [State.enterBlock, State.sendWant, State.handOver_of_running hrun, reduceCtorEq, if_true, if_false]
    rw [← hpresence]
    rfl
  | carry =>
    simp only [State.enterBlock, State.sendCarry_of_running hrun, reduceCtorEq, if_true, if_false]
    rw [← hpresence]
    rfl
  | phase =>
    simp only [State.enterBlock, State.sendPhase_of_running hrun, reduceCtorEq, if_true, if_false]
    rw [← hpresence]
    rfl
  | presence =>
    simp only [State.enterBlock, State.sendPresence, State.handOver_of_running hrun, reduceCtorEq, if_true, if_false]
    rfl

/-- The records do not depend on what is handed over before. -/
theorem State.entryRecord_entered (s : State) (l : List RunningBlock) (t : Trunk) (b : RunningBlock) :
    (s.entered l t).entryRecord b = s.entryRecord b := by
  cases b <;> rfl

theorem ite_mem_cons {α β : Type} [DecidableEq α] (x y : α) (l : List α) (a c : β) :
    (if x ∈ l then a else if x ∈ [y] then a else c) = if x ∈ y :: l then a else c := by
  simp only [List.mem_cons, List.not_mem_nil, or_false]
  split
  · next h => rw [if_pos (.inr h)]
  · next h => simp [h]

theorem State.entered_entered (s : State) (b : RunningBlock) (l : List RunningBlock) (t u : Trunk) :
    (s.entered [b] t).entered l u = s.entered (b :: l) u := by
  simp only [State.entered, ← ite_mem_cons _ b l]
  rfl

/-- The room that the blocks' records need: one place in class A for a PHASE record, the rest in class C (R164). -/
def Trunk.roomFor (t : Trunk) (l : List RunningBlock) : Prop :=
  t.queueA.length + l.countP (· = .phase) ≤ 8 ∧ t.queueC.length + l.countP (· ≠ .phase) ≤ 32

/-- A record with room for it is held, and leaves room for the rest. -/
theorem Trunk.roomFor_fed {t : Trunk} {b : RunningBlock} {l : List RunningBlock} (h : t.roomFor (b :: l)) (s : State) :
    (t.fed (handedBy s s (s.entryRecord b))).held.Perm (t.held ++ [handedBy s s (s.entryRecord b)]) ∧
      (t.fed (handedBy s s (s.entryRecord b))).roomFor l := by
  obtain ⟨hA, hC⟩ := h
  by_cases hb : b = .phase
  · subst hb
    rw [List.countP_cons_of_pos (by simp)] at hA
    rw [List.countP_cons_of_neg (by simp)] at hC
    obtain ⟨hheld, hlength, _⟩ := Trunk.held_fed_classA (t := t) (x := handedBy s s (s.entryRecord .phase)) rfl (by omega)
    have hlengthC := Trunk.fed_queueC_length_le_of_classA (t := t) (x := handedBy s s (s.entryRecord .phase)) rfl
    exact ⟨hheld, by omega, by omega⟩
  · have hclass : accessClass (handedBy s s (s.entryRecord b)).packet.body = .c := by
      cases b
      · rfl
      · rfl
      · exact absurd rfl hb
      · rfl
    rw [List.countP_cons_of_neg (by simpa using hb)] at hA
    rw [List.countP_cons_of_pos (by simpa using hb)] at hC
    have hlengthA := Trunk.fed_queueA_length_le (t := t) hclass
    have hlengthC := Trunk.fed_queueC_length_le (t := t) hclass (by omega)
    exact ⟨.of_eq (Trunk.held_fed_classC hclass (by omega)), by omega, by omega⟩

/-- The hand-overs of a list of blocks, in its order (R187). -/
theorem State.foldl_enterBlock (l : List RunningBlock) (s : State) (hrun : s.running = true) : ∃ t,
    l.foldl State.enterBlock s = s.entered l t ∧
      (s.trunk.roomFor l → t.held.Perm (s.trunk.held ++ l.map fun b => handedBy s s (s.entryRecord b))) := by
  induction l generalizing s with
  | nil => exact ⟨s.trunk, rfl, fun _ => by simp⟩
  | cons b l ih =>
    have hb := State.enterBlock_eq hrun b
    obtain ⟨t, heq, hheld⟩ := ih (s.enterBlock b) (by rw [hb]; exact hrun)
    refine ⟨t, by rw [List.foldl_cons, heq, hb, State.entered_entered], fun hroom => ?_⟩
    obtain ⟨hfirst, hrest⟩ := Trunk.roomFor_fed hroom s
    have hrecords : (l.map fun x => handedBy (s.enterBlock b) (s.enterBlock b) ((s.enterBlock b).entryRecord x)) =
        l.map fun x => handedBy s s (s.entryRecord x) := List.map_congr_left fun x _ => by
      rw [hb, State.entryRecord_entered]
      rfl
    have hall := hheld (by rw [hb]; exact hrest)
    rw [hrecords] at hall
    refine hall.trans ?_
    rw [List.map_cons, List.append_cons]
    exact List.Perm.append_right _ (by rw [hb]; exact hfirst)

/-! ## The end of LISTENING -/

/-- The node with its taps built, before the hand-overs. -/
def State.built (s : State) : State :=
  State.buildTaps { s with startup := { s.startup with state := .running, listenEnd := none } }

theorem State.mem_entryBlocks (s : State) (b : RunningBlock) : b ∈ s.entryBlocks ↔
    (b = .want ∧ s.taps.taps ≠ []) ∨ (b = .carry ∧ s.carryList ≠ []) ∨ b = .phase ∨ b = .presence := by
  unfold State.entryBlocks
  by_cases hw : s.taps.taps = [] <;> by_cases hc : s.carryList = [] <;> simp [hw, hc]

/-- Room for one class A and three class C packets is room for the records. -/
theorem Trunk.roomFor_entryBlocks {t : Trunk} (s : State) {l : List RunningBlock} (hl : l.Perm s.entryBlocks)
    (hA : t.queueA.length < 8) (hC : t.queueC.length + 3 ≤ 32) : t.roomFor l := by
  have hcounts : s.entryBlocks.countP (· = .phase) = 1 ∧ s.entryBlocks.countP (· ≠ .phase) ≤ 3 := by
    unfold State.entryBlocks
    by_cases hw : s.taps.taps = []
    · by_cases hc : s.carryList = []
      · rw [if_pos hw, if_pos hc]; decide
      · rw [if_pos hw, if_neg hc]; decide
    · by_cases hc : s.carryList = []
      · rw [if_neg hw, if_pos hc]; decide
      · rw [if_neg hw, if_neg hc]; decide
  rw [Trunk.roomFor, hl.countP_eq, hl.countP_eq]
  omega

theorem exec_listeningEnd {s : State} {t0 : Time} (hstate : s.startup.state = .listening) (hend : s.startup.listenEnd = some t0) :
    exec .listeningEnd s = .next (((s.reach t0).built.arrange (s.reach t0).built.entryBlocks).foldl State.enterBlock
      ((s.reach t0).built.useFree (s.reach t0).built.entryBlocks.length)) := by
  change execListeningEnd s = _
  simp only [execListeningEnd, hstate, hend]
  rfl

/-- Settles O12: the blocks hand over their records in the order that is taken, and none depends on it. -/
theorem listeningEndEntersRunning : Obligations.ListeningEndEntersRunning := by
  intro s t0 hstate hend
  obtain ⟨hbuilt, htap, hsorted⟩ := State.buildTaps_spec
    { s.reach t0 with startup := { (s.reach t0).startup with state := .running, listenEnd := none } }
  change (s.reach t0).built = _ at hbuilt
  change ∀ q, ((s.reach t0).built.tap? q).isSome = true ↔ _ at htap
  change _ → (s.reach t0).built.taps.taps.Pairwise _ at hsorted
  have hexec := exec_listeningEnd hstate hend
  generalize (s.reach t0).built = v at hbuilt htap hsorted hexec
  have hperm := v.arrange_perm v.entryBlocks
  generalize v.arrange v.entryBlocks = l at hperm hexec
  have hrun : (v.useFree v.entryBlocks.length).running = true := by rw [hbuilt]; rfl
  obtain ⟨tr, heq, hheld⟩ := State.foldl_enterBlock l (v.useFree v.entryBlocks.length) hrun
  have hmem : ∀ b, b ∈ l ↔ _ := fun b => hperm.mem_iff.trans (v.mem_entryBlocks b)
  rw [heq] at hexec
  have htapEq : ∀ q, ((v.useFree v.entryBlocks.length).entered l tr).tap? q = v.tap? q := fun _ => rfl
  have hcarryList : ((v.useFree v.entryBlocks.length).entered l tr).carryList = v.carryList := rfl
  have hnow : v.now = max s.now t0 := by rw [hbuilt]; rfl
  refine ⟨_, hexec, hnow, ?_, ?_, if_pos ((hmem _).mpr (by simp)), fun q => ?_, hsorted, ?_, ?_, fun hA hC => ?_, ?_, ?_, ?_, ?_,
    ?_, ?_⟩
  · change v.startup = _
    rw [hbuilt]
    rfl
  · change { v.phase with phaseDue := if RunningBlock.phase ∈ l then some (v.now + ms 5000) else v.phase.phaseDue } = _
    rw [if_pos ((hmem _).mpr (by simp)), hbuilt]
    rfl
  · rw [htapEq]
    exact htap q
  · change (if RunningBlock.want ∈ l then (if v.taps.taps = [] then none else some (v.now + ms 100)) else v.taps.wantDue) =
      if v.taps.taps = [] then s.taps.wantDue else some (v.now + ms 100)
    by_cases hempty : v.taps.taps = []
    · rw [if_neg (fun h => by simpa [hempty] using (hmem _).mp h), if_pos hempty, hbuilt]
      rfl
    · rw [if_pos ((hmem _).mpr (by simp [hempty])), if_neg hempty, if_neg hempty]
  · rw [hcarryList]
    change (if RunningBlock.carry ∈ l then (if v.carryList = [] then none else some (v.now + ms 250)) else v.carry.carryDue) =
      if v.carryList = [] then s.carry.carryDue else some (v.now + ms 250)
    by_cases hempty : v.carryList = []
    · rw [if_neg (fun h => by simpa [hempty] using (hmem _).mp h), if_pos hempty, hbuilt]
      rfl
    · rw [if_pos ((hmem _).mpr (by simp [hempty])), if_neg hempty, if_neg hempty]
  · have htrunk : v.trunk = s.trunk := by rw [hbuilt]; rfl
    have hroom : (v.useFree v.entryBlocks.length).trunk.roomFor l :=
      Trunk.roomFor_entryBlocks v hperm (by rw [State.useFree_trunk, htrunk]; exact hA) (by rw [State.useFree_trunk, htrunk]; exact hC)
    have hstation : v.startup.station = s.startup.station := by rw [hbuilt]; rfl
    have hphase : v.phase = s.phase := by rw [hbuilt]; rfl
    have hrecords : (v.entryBlocks.map fun b => handedBy v v (v.entryRecord b)) =
        ((if v.taps.taps = [] then [] else [.want (v.taps.taps.map Tap.program)]) ++
          (if v.carryList = [] then [] else [.carry v.carryList]) ++
          [.phase v.phase.own.epoch v.phase.own.phase.val v.phase.own.setter, .presence v.presenceRecord] : List Body).map
            (handedBy v v) := by
      unfold State.entryBlocks
      by_cases hw : v.taps.taps = [] <;> by_cases hc : v.carryList = [] <;> simp only [hw, hc, if_true, if_false] <;> rfl
    have hall := (hheld hroom).trans ((hperm.map _).append_left _)
    change tr.held.Perm (v.trunk.held ++ v.entryBlocks.map fun b => handedBy v v (v.entryRecord b)) at hall
    rw [hrecords, htrunk, hphase] at hall
    change tr.held.Perm (s.trunk.held ++ _)
    have hhanded : handedBy v v = handedBy s ((v.useFree v.entryBlocks.length).entered l tr) := funext fun b => by
      rw [handedBy, hstation]
      rfl
    rw [hhanded] at hall
    exact hall
  all_goals (rw [hbuilt]; rfl)

end Sys2Proof.Machine
end

section
/-! Scaling, attenuations, duck steps and output blocks: O60. -/

namespace Sys2Proof.Machine

/-! ## Scaling -/

theorem mantissa_range (k : Nat) : 0 ≤ mantissa k ∧ mantissa k ≤ 32768 := by
  by_cases h : k < 12
  · have hall : ∀ j < 12, 0 ≤ mantissa j ∧ mantissa j ≤ 32768 := by decide
    exact hall k h
  · have hnone : gainTable[k]? = none := List.getElem?_eq_none (by simp only [gainTable, List.length_cons, List.length_nil]; omega)
    rw [mantissa, hnone]
    decide

theorem scale_of_silence {a : Nat} (h : 127 ≤ a) (x : Int) : scale x a = 0 := if_pos h

theorem scale_eq {a : Nat} (h : a ≤ 126) (x : Int) :
    scale x a = (x * mantissa (a % 12) + 2 ^ (14 + a / 12)) / 2 ^ (15 + a / 12) := by
  rw [scale, if_neg (by omega)]
  simp only [show 15 + a / 12 - 1 = 14 + a / 12 by omega]

/-- A sample times a mantissa stays below the same sample at no attenuation. -/
theorem mul_mantissa_range {x : Int} (hlow : -32768 ≤ x) (hhigh : x ≤ 32767) (k : Nat) :
    -32768 * 32768 ≤ x * mantissa k ∧ x * mantissa k ≤ 32767 * 32768 := by
  obtain ⟨h0, h1⟩ := mantissa_range k
  constructor <;> nlinarith

theorem scale_range {x : Int} (hlow : -32768 ≤ x) (hhigh : x ≤ 32767) (a : Nat) : -32768 ≤ scale x a ∧ scale x a ≤ 32767 := by
  by_cases h : 127 ≤ a
  · rw [scale_of_silence h]
    omega
  · obtain ⟨hl, hh⟩ := mul_mantissa_range hlow hhigh (a % 12)
    have hhalf : (16384 : Int) ≤ 2 ^ (14 + a / 12) := by
      rw [pow_add]
      have := one_le_pow₀ (n := a / 12) (show (1 : Int) ≤ 2 by omega)
      omega
    have hwhole : (2 : Int) ^ (15 + a / 12) = 2 * 2 ^ (14 + a / 12) := by
      rw [show 15 + a / 12 = 14 + a / 12 + 1 by omega, pow_succ, mul_comm]
    rw [scale_eq (by omega), hwhole]
    generalize (2 : Int) ^ (14 + a / 12) = half at hhalf
    generalize x * mantissa (a % 12) = product at hl hh
    constructor
    · rw [Int.le_ediv_iff_mul_le (by omega)]
      omega
    · rw [← Int.lt_add_one_iff, Int.ediv_lt_iff_lt_mul (by omega)]
      omega

theorem scale_zero (x : Int) : scale x 0 = x := by
  have hm : mantissa (0 % 12) = 32768 := by decide
  rw [scale_eq (by omega), hm]
  norm_num
  omega

/-- A full-scale sample is never silent (R36). -/
theorem scale_full {a : Nat} (h : a ≤ 126) : 23 ≤ scale 32767 a ∧ scale (-32768) a ≤ -23 := by
  have hall : ∀ a < 127, 23 ≤ scale 32767 a ∧ scale (-32768) a ≤ -23 := by decide
  exact hall a (by omega)

/-! ## Attenuations -/

theorem programAttenuation_eq {v : Nat} (hv : v ≤ 31) (floor duck : Nat) (trim : Int) :
    (programAttenuation v floor duck trim : Int) =
      max 0 (min 126 (max (2 * (31 - (v : Int))) (floor : Int) - trim + (duck : Int))) := by
  have hvolume : ((max (volumeAttenuation v) floor : Nat) : Int) = max (2 * (31 - (v : Int))) floor := by
    rw [volumeAttenuation]
    omega
  rw [programAttenuation, hvolume, Int.toNat_of_nonneg (by omega)]

theorem announceAttenuation_of_ne {k : AnnClass} (h : k ≠ .emergency) (v floor e : Nat) :
    announceAttenuation k v floor e = min 40 (max floor (volumeAttenuation v - 6)) := by
  cases k <;> simp_all [announceAttenuation]

theorem announceAttenuation_eq {k : AnnClass} (h : k ≠ .emergency) {v : Nat} (hv : v ≤ 31) (floor e : Nat) :
    (announceAttenuation k v floor e : Int) = min 40 (max (floor : Int) (2 * (31 - (v : Int)) - 6)) := by
  rw [announceAttenuation_of_ne h, volumeAttenuation]
  omega

theorem announceAttenuation_le {e : Nat} (he : e ≤ 40) (k : AnnClass) (v floor : Nat) : announceAttenuation k v floor e ≤ 40 := by
  by_cases h : k = .emergency
  · subst h
    exact he
  · rw [announceAttenuation_of_ne h]
    omega

/-! ## The terms of a berth -/

section
variable {s : State} {a : BlockAnswers} {p : Port}

theorem State.programTerm_of_silent (duck : Nat) (h : (s.berth p).mute = true ∨ (s.berth p).program = 0 ∨ s.inEmergency p = true) :
    s.programTerm a p duck = (127, []) := if_pos h

theorem State.programTerm_of_block {duck : Nat} {st : TapState} {trim : Int} {l : List StereoFrame}
    (h : ¬((s.berth p).mute = true ∨ (s.berth p).program = 0 ∨ s.inEmergency p = true))
    (hblock : a.program? (s.berth p).program = some (st, .block trim l)) :
    s.programTerm a p duck = (programAttenuation (s.berth p).volume s.profile.floor duck trim, l) := by
  simp only [State.programTerm]
  rw [if_neg h, hblock]

theorem State.programTerm_of_no_block {duck : Nat}
    (h : ∀ st trim l, a.program? (s.berth p).program ≠ some (st, .block trim l)) : s.programTerm a p duck = (127, []) := by
  simp only [State.programTerm, ite_self]

theorem chimePattern_eq (k : AnnClass) : chimePattern k = annClassCode k - 1 := by
  cases k <;> rfl

theorem State.announceTerm_of_idle (used i : Nat) (h : (s.berthVoice p).serving = .idle) : s.announceTerm a p used i = 0 := by
  unfold State.announceTerm
  split
  · rfl
  · rw [h]

theorem State.announceTerm_of_chime {used i : Nat} {id : AnnId} {k : AnnClass} (h : (s.berthVoice p).serving = .chime id)
    (hk : s.classOfId id = some k) : s.announceTerm a p used i =
      scale (s.image.chimeSample (annClassCode k - 1) ((used * 48 + i) % 64)).toInt
        (chimeAttenuation (announceAttenuation k (s.berth p).volume s.profile.floor s.image.emergency)) := by
  have hclass : s.currentClass p = some k := by simp only [State.currentClass, State.currentId, h]; exact hk
  unfold State.announceTerm
  rw [hclass, h, ← chimePattern_eq]

theorem State.announceTerm_of_speaking {used i : Nat} {id : AnnId} {k : AnnClass} (h : (s.berthVoice p).serving = .speaking id)
    (hk : s.classOfId id = some k) : s.announceTerm a p used i =
      match a.block? id with
      | some l => scale ((l[i]?).getD 0#16).toInt (announceAttenuation k (s.berth p).volume s.profile.floor s.image.emergency)
      | none => 0 := by
  have hclass : s.currentClass p = some k := by simp only [State.currentClass, State.currentId, h]; exact hk
  unfold State.announceTerm
  rw [hclass, h] <;> rfl

theorem State.announceTerm_of_no_block {used i : Nat} {id : AnnId} (h : (s.berthVoice p).serving = .speaking id)
    (hblock : a.block? id = none) : s.announceTerm a p used i = 0 := by
  unfold State.announceTerm
  split
  · rfl
  · rw [h]
    simp only [hblock]

end

/-! ## One output frame -/

theorem toInt_saturate (x : Int) : (BitVec.ofInt 16 (saturate x)).toInt = max (-32768) (min 32767 x) := by
  rw [saturate, BitVec.toInt_ofInt_eq_self (by omega) (by omega) (by omega)]

theorem saturate_ne_iff (x : Int) : saturate x ≠ x ↔ x < -32768 ∨ 32767 < x := by
  rw [saturate]
  omega

theorem State.outputBlock_get (s : State) (a : BlockAnswers) (p : Port) (used duck : Nat) {i : Nat} (h : i < 48) :
    (s.outputBlock a p used duck)[i]? = some (mixFrame (s.programTerm a p duck).1
      (((s.programTerm a p duck).2[i]?).getD silentFrame) (s.announceTerm a p used i)) := by
  simp [State.outputBlock, List.getElem?_range h]

/-- Settles O60. -/
theorem scalingStaysInRange : Obligations.ScalingStaysInRange := by
  refine ⟨by decide, fun x a hlow hhigh => ?_, fun v floor duck trim hv => programAttenuation_eq hv .., fun k v floor e hv => ?_,
    fun d target ramp => ?_, fun s a p used duck => ?_⟩
  · obtain ⟨hl, hh⟩ := scale_range hlow hhigh a
    exact ⟨hl, hh, scale_zero x, scale_of_silence (Nat.le_refl _) x, fun ha => ⟨scale_eq ha x, scale_full ha⟩⟩
  · exact ⟨rfl, fun hk => announceAttenuation_eq hk hv .., rfl, fun he => announceAttenuation_le he ..⟩
  · unfold duckStep
    refine ⟨rfl, fun h => ?_, fun h => ?_⟩ <;> split_ifs <;> omega
  · intro b silent floor
    refine ⟨State.programTerm_of_silent duck, fun hno st trim l => State.programTerm_of_block hno, State.programTerm_of_no_block,
      fun i => ⟨State.announceTerm_of_idle used i, fun id k => State.announceTerm_of_chime, fun id k l h hk hl => ?_, fun id =>
      State.announceTerm_of_no_block⟩, by simp [State.outputBlock], fun i hi => ⟨_, _, s.outputBlock_get a p used duck hi, ?_⟩⟩
    · rw [State.announceTerm_of_speaking h hk, hl]
    · refine ⟨toInt_saturate _, toInt_saturate _, ?_⟩
      rw [Bool.or_eq_true, decide_eq_true_iff, decide_eq_true_iff, saturate_ne_iff, saturate_ne_iff, or_assoc]

end Sys2Proof.Machine
end

section
/-! The feed port: deliveries, and the feed event that settles every channel in use: O38 and O36. -/

namespace Sys2Proof.Machine

/-! ## Deliveries -/

theorem chanOf_chanNumber (c : Chan) : chanOf (chanNumber c) = some c := by
  rw [chanOf, dif_pos (show 1 ≤ chanNumber c ∧ chanNumber c ≤ 8 from ⟨Nat.succ_le_succ (Nat.zero_le _), c.isLt⟩)]
  rfl

/-- A whole delivery to an empty buffer, by its length and its check word (R66). -/
theorem Filling.deliver_of_empty (l : List StereoFrame) (check : BitVec 16) :
    (l.length = 48 → check = deliverySum l → Filling.deliver .empty true l (some check) = (.complete l, false)) ∧
    ((48 < l.length ∨ check ≠ deliverySum l) → Filling.deliver .empty true l (some check) = (.frameError, true)) ∧
    (l.length < 48 → check = deliverySum l → Filling.deliver .empty true l (some check) = (.frameError, true) ∨
      Filling.deliver .empty true l (some check) = (.ended, false)) := by
  simp only [Filling.deliver, if_true]
  refine ⟨fun hlength hcheck => ?_, fun hbad => ?_, fun hshort hcheck => ?_⟩
  · rw [if_neg (by omega), if_neg (not_not.mpr hcheck), if_pos hlength]
  · by_cases hlong : 48 < l.length
    · rw [if_pos hlong]
    · rw [if_neg hlong, if_pos (hbad.resolve_left hlong)]
  · rw [if_neg (by omega), if_neg (not_not.mpr hcheck), if_neg (by omega)]
    split
    · exact .inl rfl
    · exact .inr rfl

theorem Filling.deliver_of_taken {f : Filling} (h : f = .ended ∨ (∃ m, f = .complete m) ∨ f = .frameError) (l : List StereoFrame)
    (check : Option (BitVec 16)) : f.deliver true l check = (.frameError, true) := by
  obtain rfl | ⟨m, rfl⟩ | rfl := h <;> rfl

section
variable {s : State} {c : Chan} (huse : s.inUse c = true) (hloading : s.loading = false)
include huse hloading

theorem exec_audioDelivery (begins : Bool) (l : List StereoFrame) (check : Option (BitVec 16)) :
    exec (.audioDelivery (chanNumber c) begins l check) s = .next
      (if ((s.chan c).filling.deliver begins l check).2
        then (s.modChan c fun x => { x with filling := ((s.chan c).filling.deliver begins l check).1 }).countFeedError
        else s.modChan c fun x => { x with filling := ((s.chan c).filling.deliver begins l check).1 }) := by
  change execAudioDelivery _ _ _ _ s = _
  simp only [execAudioDelivery, chanOf_chanNumber]
  rw [if_pos (by rw [huse, hloading]; rfl)]

theorem exec_videoDelivery (payload : List Byte) : exec (.videoDelivery (chanNumber c) payload) s = .next
    (if payload = [] ∨ 1400 < payload.length ∨ s.image.channels[c].kind = .audio then s.countFeedError
      else if (s.chan c).carried then
        (if (s.handOverTold (.programVideo (s.chanProgram c) (s.chan c).videoSeq payload)).2
          then (s.handOverTold (.programVideo (s.chanProgram c) (s.chan c).videoSeq payload)).1.modChan c
            fun x => { x with videoSeq := x.videoSeq + 1 }
          else (s.handOverTold (.programVideo (s.chanProgram c) (s.chan c).videoSeq payload)).1)
      else s) := by
  change execVideoDelivery _ _ s = _
  simp only [execVideoDelivery, chanOf_chanNumber]
  rw [if_pos (by rw [huse, hloading]; rfl)]
  split
  · rfl
  · split <;> rfl

end

/-- A body handed over, with the answer of its queue. -/
theorem State.handOverTold_eq (s : State) (b : Body) : ∃ tr,
    (s.handOverTold b).1 = { s with trunk := tr } :=
  ⟨_, s.handOverMarked_frame b false⟩

/-- Settles O38. -/
theorem deliveriesAreTaken : Obligations.DeliveriesAreTaken := by
  intro s c huse hloading
  refine ⟨fun l check hempty => ?_, fun l check htaken => ?_, fun payload hbad => ?_, fun payload hne hlength hkind => ?_⟩
  · obtain ⟨hfull, hbad, hshort⟩ := Filling.deliver_of_empty l check
    rw [exec_audioDelivery huse hloading, hempty]
    refine ⟨fun hlength hcheck => ?_, fun h => ?_, fun hlength hcheck => ?_⟩
    · rw [hfull hlength hcheck]
      rfl
    · rw [hbad h]
      rfl
    · obtain h | h := hshort hlength hcheck
      · exact .inl (by rw [h]; rfl)
      · exact .inr (by rw [h]; rfl)
  · rw [exec_audioDelivery huse hloading, Filling.deliver_of_taken htaken]
    rfl
  · rw [exec_videoDelivery huse hloading, if_pos hbad]
    rfl
  · have hgood : ¬(payload = [] ∨ 1400 < payload.length ∨ s.image.channels[c].kind = .audio) := by
      rintro (h | h | h)
      · exact hne h
      · omega
      · rw [hkind] at h
        exact absurd h nofun
    have hexec := exec_videoDelivery huse hloading payload
    rw [if_neg hgood] at hexec
    generalize hb : Body.programVideo (s.chanProgram c) (s.chan c).videoSeq payload = b at hexec
    by_cases hcarried : (s.chan c).carried = true
    · rw [if_pos hcarried] at hexec
      obtain ⟨tr, heq⟩ := s.handOverTold_eq b
      refine ⟨_, hexec, fun _ hrun => ?_, fun hno => absurd (hno.symm.trans hcarried) nofun, fun d hd => ?_, ?_⟩
      · have hclass : accessClass (handedBy s s b).packet.body = .c := by rw [← hb]; rfl
        rw [State.handOverTold_of_running hrun, s.trunk.enqueue_classC hclass]
        by_cases hroom : s.trunk.queueC.length < 32
        · simp only [if_pos hroom, if_true]
          refine ⟨queuedC_of_fed hclass ?_, fun _ => State.modChan_self .., fun hfull => absurd hroom (by omega)⟩
          exact (Trunk.fed_classC_of_room (t := s.trunk) hclass hroom).symm
        · simp only [if_neg hroom, Bool.false_eq_true, if_false]
          refine ⟨queuedC_of_fed hclass ?_, fun h => absurd h hroom, fun _ => trivial⟩
          exact (Trunk.fed_classC_of_full (t := s.trunk) hclass (by omega)).symm
      · split
        · rw [State.modChan_get, if_neg hd, heq]
          rfl
        · rw [heq]
          rfl
      · split
        · rw [heq]
          rfl
        · rw [heq]
    · rw [if_neg hcarried] at hexec
      exact ⟨s, hexec, fun h => absurd h hcarried, fun _ => rfl, fun _ _ => rfl, rfl⟩

/-! ## One channel at a feed event -/

/-- A channel after a feed event, told by what stood before (R67, R69, R83, R84). -/
def Channel.settled (x : Channel) (cfg : ChannelConfig) : Channel :=
  match x.filling with
  | .complete l =>
    if x.carried then Channel.absorb { x.endWindow cfg with filling := .empty, ready := some l, audioSeq := x.audioSeq + 1 } l
    else { x.endWindow cfg with filling := .empty, ready := some l }
  | _ => { x.endWindow cfg with filling := .empty }

/-- The level window that runs on (R84). -/
def Channel.runningWindow (x : Channel) : Option LevelWindow := x.window.filter fun w => decide (w.count < 1000)

section
variable (x : Channel) (cfg : ChannelConfig)

theorem Channel.endWindow_window : (x.endWindow cfg).window = x.runningWindow := by
  rw [Channel.runningWindow]
  cases hw : x.window with
  | none => rw [Channel.endWindow_of_none cfg hw, hw]; rfl
  | some w =>
    by_cases hcount : w.count < 1000
    · rw [Channel.endWindow_of_running cfg hw hcount, hw]
      simp [Option.filter, hcount]
    · rw [Channel.endWindow_of_full cfg hw (by omega)]
      simp [Option.filter, hcount]

/-- A window that runs on, or none, leaves trim and mode. -/
theorem Channel.endWindow_of_runningWindow (h : x.window = x.runningWindow) : x.endWindow cfg = x := by
  cases hw : x.window with
  | none => exact Channel.endWindow_of_none cfg hw
  | some w =>
    refine Channel.endWindow_of_running cfg hw ?_
    rw [Channel.runningWindow, hw] at h
    simpa [Option.filter] using h

theorem Channel.absorb_frame (l : List StereoFrame) : x.absorb l = { x with window := (x.absorb l).window } := by
  unfold Channel.absorb
  split <;> rfl

theorem Channel.absorb_manual (l : List StereoFrame) (h : x.mode = .manual) : x.absorb l = x := if_pos h

theorem Channel.absorb_window (l : List StereoFrame) (h : x.mode ≠ .manual) : (x.absorb l).window =
    some { count := (x.window.getD { count := 0, peak := 0 }).count + 1,
           peak := max (x.window.getD { count := 0, peak := 0 }).peak (blockPeak l) } := by
  rw [Channel.absorb, if_neg h]

/-- What a feed event leaves of a channel beside its level window. -/
theorem Channel.settled_frame : (x.settled cfg).filling = .empty ∧ (x.settled cfg).state = x.state ∧
    (x.settled cfg).demand = x.demand ∧ (x.settled cfg).videoSeq = x.videoSeq ∧ (x.settled cfg).lingerEnd = x.lingerEnd ∧
    (x.settled cfg).shadowEnd = x.shadowEnd ∧ (x.settled cfg).trim = (x.endWindow cfg).trim ∧
    (x.settled cfg).mode = (x.endWindow cfg).mode := by
  unfold Channel.settled
  rw [Channel.endWindow_frame]
  split
  · split
    · rw [Channel.absorb_frame]
      exact ⟨rfl, rfl, rfl, rfl, rfl, rfl, rfl, rfl⟩
    · exact ⟨rfl, rfl, rfl, rfl, rfl, rfl, rfl, rfl⟩
  · exact ⟨rfl, rfl, rfl, rfl, rfl, rfl, rfl, rfl⟩

theorem Channel.settled_of_complete {l : List StereoFrame} (h : x.filling = .complete l) :
    (x.settled cfg).ready = some l ∧ (x.settled cfg).audioSeq = if x.carried then x.audioSeq + 1 else x.audioSeq := by
  simp only [Channel.settled, h]
  rw [Channel.endWindow_frame]
  split
  · rw [Channel.absorb_frame]
    exact ⟨rfl, rfl⟩
  · exact ⟨rfl, rfl⟩

theorem Channel.settled_of_incomplete (h : ∀ l, x.filling ≠ .complete l) :
    x.settled cfg = { x.endWindow cfg with filling := .empty } := by
  unfold Channel.settled
  split
  · next l hl => exact absurd hl (h l)
  · rfl

/-- A block that is sent is counted into the level window unless the mode is MANUAL (R83). -/
theorem Channel.settled_window_of_sent {l : List StereoFrame} (h : x.filling = .complete l) (hcarried : x.carried = true)
    (hmode : (x.endWindow cfg).mode ≠ .manual) : (x.settled cfg).window =
      some { count := (x.runningWindow.getD { count := 0, peak := 0 }).count + 1,
             peak := max (x.runningWindow.getD { count := 0, peak := 0 }).peak (blockPeak l) } := by
  simp only [Channel.settled, h, if_pos hcarried]
  rw [Channel.absorb_window]
  · simp only [Channel.endWindow_window]
  · exact hmode

theorem Channel.settled_window_of_not_sent (h : (∀ l, x.filling ≠ .complete l) ∨ x.carried = false ∨
    (x.endWindow cfg).mode = .manual) : (x.settled cfg).window = x.runningWindow := by
  unfold Channel.settled
  split
  · next l hl =>
    split
    · next hcarried =>
      have hmode : (x.endWindow cfg).mode = .manual := by
        obtain h | h | h := h
        · exact absurd hl (h l)
        · exact absurd (h.symm.trans hcarried) nofun
        · exact h
      rw [Channel.absorb_manual]
      · exact x.endWindow_window cfg
      · exact hmode
    · exact x.endWindow_window cfg
  · exact x.endWindow_window cfg

end

/-! ## The peak of a block -/

theorem foldl_peak_le (l : List StereoFrame) (m n : Nat) :
    l.foldl (fun m f => max m (max (magnitude f.left) (magnitude f.right))) m ≤ n ↔
      m ≤ n ∧ ∀ f ∈ l, magnitude f.left ≤ n ∧ magnitude f.right ≤ n := by
  induction l generalizing m with
  | nil => simp
  | cons f l ih => simp only [List.foldl_cons, ih, max_le_iff, List.mem_cons, forall_eq_or_imp, and_assoc]

theorem blockPeak_le_iff (l : List StereoFrame) (n : Nat) :
    blockPeak l ≤ n ↔ ∀ f ∈ l, f.left.toInt.natAbs ≤ n ∧ f.right.toInt.natAbs ≤ n := by
  rw [blockPeak, foldl_peak_le]
  simp [magnitude]

/-! ## One channel's turn -/

/-- The packet of a completed block has the trim that a level window leaves (R69, R84). -/
theorem State.feedPacket_of_complete {s : State} {c : Chan} {l : List StereoFrame} (h : (s.chan c).filling = .complete l) :
    s.feedPacket c = some (.programAudio (s.chanProgram c) ((s.chan c).endWindow s.image.channels[c]).trim (s.chan c).audioSeq l) := by
  unfold State.feedPacket
  cases hw : (s.chan c).window with
  | none => simp only [h, Channel.endWindow_of_none _ hw]
  | some w =>
    by_cases hcount : w.count < 1000
    · simp only [h, Channel.endWindow_of_running _ hw hcount, if_pos hcount]
    · simp only [h, Channel.endWindow_of_full _ hw (Nat.le_of_not_lt hcount), if_neg hcount]

theorem State.feedPacket_of_incomplete {s : State} {c : Chan} (h : ∀ l, (s.chan c).filling ≠ .complete l) : s.feedPacket c = none := by
  unfold State.feedPacket
  split
  · next l _ hl _ => exact absurd hl (h l)
  · next l hl _ => exact absurd hl (h l)
  · rfl

theorem bumpBy_bumpBy (m n : Nat) (c : Counter) : bumpBy n (bumpBy m c) = bumpBy (m + n) c := by
  induction m generalizing c with
  | zero => rw [bumpBy_zero, Nat.zero_add]
  | succ m ih => rw [← bumpBy_bump, ih, bumpBy_bump, Nat.succ_add]

/-- The packets that channels hand over, in their order. -/
def State.fedPackets (s : State) (l : List Chan) : List TxPacket :=
  ((l.filter fun c => (s.chan c).carried).filterMap s.feedPacket).map (handedBy s s)

/-- The channels that send and have no completed block. -/
def State.underruns (s : State) (l : List Chan) : List Chan :=
  (l.filter fun c => (s.chan c).carried).filter fun c => (s.feedPacket c).isNone

/-- The node after the turns of some channels. -/
def State.fedBy (s : State) (l : List Chan) (channels : Vector Channel 8) : State :=
  { s with
    trunk := if s.running then (s.fedPackets l).foldl Trunk.fed s.trunk else s.trunk,
    carry := { s.carry with channels := channels, underrun := bumpBy (s.underruns l).length s.carry.underrun } }

theorem State.modChan_modChan (s : State) (c : Chan) (f g : Channel → Channel) :
    (s.modChan c f).modChan c g = s.modChan c fun x => g (f x) := by
  simp [State.modChan]

/-- A change of one channel is told by what it makes of that channel. -/
theorem State.modChan_congr {s : State} {c : Chan} {f g : Channel → Channel} (h : f (s.chan c) = g (s.chan c)) :
    s.modChan c f = s.modChan c g := by
  have h' : f s.carry.channels[c] = g s.carry.channels[c] := h
  rw [State.modChan, State.modChan, h']

/-- A block sent: its packet handed over, the sequence advanced, the level window fed (R69, R83). -/
theorem State.sendBlock_eq (u : State) (c : Chan) (l : List StereoFrame) : u.sendBlock c l =
    { u.modChan c (fun y => Channel.absorb { y with audioSeq := y.audioSeq + 1 } l) with
      trunk := if u.running then
        u.trunk.fed (handedBy u u (.programAudio (u.chanProgram c) (u.chan c).trim (u.chan c).audioSeq l)) else u.trunk } := by
  rw [State.sendBlock]
  by_cases hrun : u.running = true
  · rw [State.handOver_of_running hrun, if_pos hrun]
    rfl
  · rw [State.handOver_stopped _ _ (by simpa using hrun), if_neg hrun]
    rfl

/-- The turn of a channel whose buffer holds a completed block. -/
theorem State.feedChannel_of_complete {s : State} {c : Chan} {l : List StereoFrame} (h : (s.chan c).filling = .complete l) :
    s.feedChannel c = { s.modChan c (fun x => x.settled s.image.channels[c]) with
      trunk := if (s.chan c).carried && s.running then s.trunk.fed (handedBy s s (.programAudio (s.chanProgram c)
        ((s.chan c).endWindow s.image.channels[c]).trim (s.chan c).audioSeq l)) else s.trunk } := by
  have hfilling : ((s.chan c).endWindow s.image.channels[c]).filling = .complete l := by
    rw [Channel.endWindow_frame]
    exact h
  have hseq : ((s.chan c).endWindow s.image.channels[c]).audioSeq = (s.chan c).audioSeq := by rw [Channel.endWindow_frame]
  simp only [State.feedChannel, State.modChan_self, hfilling, Channel.endWindow_carried, State.modChan_modChan]
  by_cases hcarried : (s.chan c).carried = true
  · have hsettled : (s.modChan c fun x => x.settled s.image.channels[c]) = s.modChan c fun x => Channel.absorb
        { x.endWindow s.image.channels[c] with
          filling := .empty, ready := some l, audioSeq := (x.endWindow s.image.channels[c]).audioSeq + 1 } l := by
      refine State.modChan_congr ?_
      simp only [Channel.settled, h, if_pos hcarried, hseq]
    rw [if_pos hcarried, State.sendBlock_eq, State.modChan_modChan, State.modChan_self, hcarried, Bool.true_and, hsettled]
    simp only [hseq]
    rfl
  · rw [if_neg hcarried, if_neg (by simp [hcarried])]
    change _ = s.modChan c fun x => x.settled s.image.channels[c]
    refine State.modChan_congr ?_
    simp only [Channel.settled, h]
    rw [if_neg hcarried]

/-- The turn of a channel whose buffer holds none. -/
theorem State.feedChannel_of_incomplete {s : State} {c : Chan} (h : ∀ l, (s.chan c).filling ≠ .complete l) :
    s.feedChannel c = { s with carry := { (s.modChan c fun x => x.settled s.image.channels[c]).carry with
      underrun := if (s.chan c).carried then bump s.carry.underrun else s.carry.underrun } } := by
  have hfilling : ((s.chan c).endWindow s.image.channels[c]).filling = (s.chan c).filling := by rw [Channel.endWindow_frame]
  have hsettled := State.modChan_congr (s := s) (f := fun x => x.settled s.image.channels[c])
    (g := fun x => { x.endWindow s.image.channels[c] with filling := .empty }) ((s.chan c).settled_of_incomplete _ h)
  unfold State.feedChannel
  simp only [State.modChan_self, Channel.endWindow_carried, State.modChan_modChan, hfilling]
  rw [hsettled]
  split
  · rfl
  · rfl

theorem State.feedChannel_eq (s : State) (c : Chan) : s.feedChannel c =
    s.fedBy [c] (s.carry.channels.set c ((s.chan c).settled s.image.channels[c])) := by
  by_cases hcomplete : ∃ l, (s.chan c).filling = .complete l
  · obtain ⟨l, h⟩ := hcomplete
    have hpacket := State.feedPacket_of_complete h
    have hfed : s.fedPackets [c] = if (s.chan c).carried then [handedBy s s (.programAudio (s.chanProgram c)
        ((s.chan c).endWindow s.image.channels[c]).trim (s.chan c).audioSeq l)] else [] := by
      rw [State.fedPackets]
      cases hcarried : (s.chan c).carried <;> simp [hcarried, hpacket]
    have hunder : s.underruns [c] = [] := by
      rw [State.underruns]
      cases hcarried : (s.chan c).carried <;> simp [hcarried, hpacket]
    rw [State.feedChannel_of_complete h, State.fedBy, hfed, hunder, List.length_nil, bumpBy_zero]
    cases (s.chan c).carried <;> cases s.running <;> rfl
  · have h : ∀ l, (s.chan c).filling ≠ .complete l := fun l hl => hcomplete ⟨l, hl⟩
    have hpacket := State.feedPacket_of_incomplete h
    have hfed : s.fedPackets [c] = [] := by
      rw [State.fedPackets]
      cases hcarried : (s.chan c).carried <;> simp [hcarried, hpacket]
    have hunder : (s.underruns [c]).length = if (s.chan c).carried then 1 else 0 := by
      rw [State.underruns]
      cases hcarried : (s.chan c).carried <;> simp [hcarried, hpacket]
    rw [State.feedChannel_of_incomplete h, State.fedBy, hfed, hunder, bump_eq_bumpBy]
    cases (s.chan c).carried
    · rw [if_neg Bool.false_ne_true, if_neg Bool.false_ne_true, bumpBy_zero]
      cases s.running <;> rfl
    · cases s.running <;> rfl

/-! ## The turns of several channels -/

/-- A channel's packet is told by that channel alone. -/
theorem State.feedPacket_congr {s t : State} {c : Chan} (himage : t.image = s.image) (hchan : t.chan c = s.chan c) :
    t.feedPacket c = s.feedPacket c := by
  rw [State.feedPacket, State.feedPacket, hchan]
  simp only [State.chanProgram, himage]

/-- The turns of different channels, in any order: each is settled by what stood before it, their packets feed the trunk one
after the other, and each underrun is counted. -/
theorem State.foldl_feedChannel (l : List Chan) (hl : l.Nodup) (s : State) : ∃ channels : Vector Channel 8,
    l.foldl State.feedChannel s = s.fedBy l channels ∧
      ∀ c : Chan, channels[c] = if c ∈ l then (s.chan c).settled s.image.channels[c] else s.chan c := by
  induction l generalizing s with
  | nil => exact ⟨s.carry.channels, by simp [State.fedBy, State.fedPackets, State.underruns], fun _ => rfl⟩
  | cons d l ih =>
    rw [List.nodup_cons] at hl
    obtain ⟨hd, hl⟩ := hl
    have hstep := s.feedChannel_eq d
    obtain ⟨channels, heq, hchannels⟩ := ih hl (s.feedChannel d)
    have himage : (s.feedChannel d).image = s.image := by rw [hstep]; rfl
    have hchan : ∀ c, (s.feedChannel d).chan c = if c = d then (s.chan d).settled s.image.channels[d] else s.chan c := fun c => by
      rw [hstep]
      exact State.modChan_get s d c fun x => x.settled s.image.channels[d]
    have hsame : ∀ c ∈ l, (s.feedChannel d).chan c = s.chan c := fun c hc => by
      rw [hchan, if_neg fun h => hd (by rw [← h]; exact hc)]
    have hcarried : l.filter (fun c => ((s.feedChannel d).chan c).carried) = l.filter fun c => (s.chan c).carried :=
      List.filter_congr fun c hc => by rw [hsame c hc]
    have hpacket : ∀ c ∈ l.filter fun c => (s.chan c).carried, (s.feedChannel d).feedPacket c = s.feedPacket c := fun c hc =>
      State.feedPacket_congr himage (hsame c (List.mem_filter.mp hc).1)
    have hpackets : (s.feedChannel d).fedPackets l = s.fedPackets l := by
      have hhanded : handedBy (s.feedChannel d) (s.feedChannel d) = handedBy s s := funext fun b => by
        rw [hstep]
        rfl
      rw [State.fedPackets, State.fedPackets, hcarried, List.filterMap_congr hpacket, hhanded]
    have hunderruns : (s.feedChannel d).underruns l = s.underruns l := by
      rw [State.underruns, State.underruns, hcarried]
      exact List.filter_congr fun c hc => by rw [hpacket c hc]
    refine ⟨channels, ?_, fun c => ?_⟩
    · have hrunning : (s.feedChannel d).running = s.running := by rw [hstep]; rfl
      rw [List.foldl_cons, heq, State.fedBy, hpackets, hunderruns, hrunning, hstep, State.fedBy, State.fedBy]
      have hall : s.fedPackets (d :: l) = s.fedPackets [d] ++ s.fedPackets l := by
        rw [State.fedPackets, State.fedPackets, State.fedPackets, ← List.map_append, ← List.filterMap_append, ← List.filter_append]
        rfl
      have hcount : (s.underruns (d :: l)).length = (s.underruns [d]).length + (s.underruns l).length := by
        rw [State.underruns, State.underruns, State.underruns, ← List.length_append, ← List.filter_append, ← List.filter_append]
        rfl
      rw [hall, hcount, List.foldl_append, ← bumpBy_bumpBy]
      cases s.running <;> rfl
    · rw [hchannels, hchan, himage]
      by_cases hc : c = d
      · subst hc
        rw [if_neg hd, if_pos rfl, if_pos List.mem_cons_self]
      · simp [hc]

/-! ## Packets handed to class B one after the other -/

theorem Trunk.take_queueB_length_le (t : Trunk) : t.take.queueB.length ≤ t.queueB.length := by
  unfold Trunk.take
  split
  · split <;> simp [*]
  · exact Nat.le_refl _

/-- A class B packet with room joins what the trunk holds. -/
theorem Trunk.held_fed_classB {t : Trunk} {x : TxPacket} (hx : accessClass x.packet.body = .b) (hroom : t.queueB.length < 16) :
    (t.fed x).held.Perm (t.held ++ [x]) ∧ (t.fed x).queueB.length ≤ t.queueB.length + 1 := by
  have hfed : t.fed x = { t with queueB := t.queueB ++ [x] }.take := by
    rw [Trunk.fed, t.enqueue_classB hx, pushDropOldest_of_length_lt hroom]
    rfl
  refine ⟨?_, ?_⟩
  · rw [hfed, Trunk.take_held]
    simp only [Trunk.held, List.append_assoc]
    exact List.Perm.append_left _ (List.Perm.append_left _ (List.Perm.append_left _ List.perm_append_comm))
  · rw [hfed]
    exact (Trunk.take_queueB_length_le _).trans_eq (by simp)

/-- With room for all, the trunk holds all of them beside what it held. -/
theorem Trunk.held_foldl_fed_classB (l : List TxPacket) (hl : ∀ x ∈ l, accessClass x.packet.body = .b) (t : Trunk)
    (hroom : t.queueB.length + l.length ≤ 16) : (l.foldl Trunk.fed t).held.Perm (t.held ++ l) := by
  induction l generalizing t with
  | nil => simp
  | cons x l ih =>
    rw [List.length_cons] at hroom
    obtain ⟨hheld, hlength⟩ := Trunk.held_fed_classB (t := t) (hl x List.mem_cons_self) (by omega)
    rw [List.foldl_cons, List.append_cons]
    exact (ih (fun y hy => hl y (List.mem_cons_of_mem _ hy)) _ (by omega)).trans (hheld.append_right l)

/-- A busy transmitter leaves the last 16 of them in the queue, each of those lost counted. -/
theorem Trunk.foldl_fed_classB_of_busy (l : List TxPacket) (hl : ∀ x ∈ l, accessClass x.packet.body = .b) (t : Trunk)
    (hbusy : t.current.isSome = true) (hbound : t.queueB.length ≤ 16) : l.foldl Trunk.fed t =
      { t with queueB := (t.queueB ++ l).drop (t.queueB.length + l.length - 16),
               dropB := bumpBy (t.queueB.length + l.length - 16) t.dropB } := by
  induction l generalizing t with
  | nil =>
    have hnone : t.queueB.length + ([] : List TxPacket).length - 16 = 0 := by rw [List.length_nil]; omega
    rw [hnone, bumpBy_zero, List.append_nil]
    rfl
  | cons x l ih =>
    have hx := hl x List.mem_cons_self
    have hrest : ∀ y ∈ l, accessClass y.packet.body = .b := fun y hy => hl y (List.mem_cons_of_mem _ hy)
    have hfed := (Trunk.takesNone_fed (x := x) (.inl hbusy)).2
    rw [t.enqueue_classB hx] at hfed
    rw [List.foldl_cons, hfed, List.length_cons]
    by_cases hroom : t.queueB.length < 16
    · rw [pushDropOldest_of_length_lt hroom]
      refine (ih hrest { t with queueB := t.queueB ++ [x] } hbusy (by simp; omega)).trans ?_
      have hcount : (t.queueB ++ [x]).length + l.length - 16 = t.queueB.length + (l.length + 1) - 16 := by
        rw [List.length_append, List.length_singleton]
        omega
      simp only [hcount, List.append_assoc, List.singleton_append]
    · have hlength : t.queueB.length = 16 := by omega
      obtain ⟨y, r, hy⟩ : ∃ y r, t.queueB = y :: r := List.exists_cons_of_length_pos (by omega)
      have hr : r.length = 15 := by rw [hy] at hlength; simpa using hlength
      rw [pushDropOldest_of_length_eq hlength]
      refine (ih hrest { t with queueB := t.queueB.tail ++ [x], dropB := bump t.dropB } hbusy (by simp [hlength])).trans ?_
      have hcount : (t.queueB.tail ++ [x]).length + l.length - 16 = l.length := by simp [hlength]
      have hcount' : t.queueB.length + (l.length + 1) - 16 = l.length + 1 := by omega
      simp only [hcount, hcount', bumpBy_bump]
      rw [hy, List.tail_cons, List.append_assoc]
      rfl

/-- Every packet of a feed event is of class B. -/
theorem State.fedPackets_classB (s : State) (l : List Chan) : ∀ x ∈ s.fedPackets l, accessClass x.packet.body = .b := by
  intro x hx
  rw [State.fedPackets] at hx
  obtain ⟨b, hb, rfl⟩ := List.mem_map.mp hx
  obtain ⟨c, _, hc⟩ := List.mem_filterMap.mp hb
  unfold State.feedPacket at hc
  split at hc
  · cases hc; rfl
  · cases hc; rfl
  · cases hc

/-! ## The feed event -/

theorem exec_feedEvent {s : State} {t0 : Time} (h : s.carry.nextFeed = some t0) : ∃ (l : List Chan) (n : Nat),
    l.Perm (allChans.filter s.inUse) ∧ exec .feedEvent s = .next
      { l.foldl State.feedChannel ((s.reach t0).useFree n) with
        carry := { (l.foldl State.feedChannel ((s.reach t0).useFree n)).carry with
          feedSyncs := (l.foldl State.feedChannel ((s.reach t0).useFree n)).carry.feedSyncs + 1,
          nextFeed := some ((l.foldl State.feedChannel ((s.reach t0).useFree n)).now + ms 1) } } := by
  refine ⟨_, (allChans.filter s.inUse).length, (s.reach t0).arrange_perm _, ?_⟩
  change execFeedEvent s = _
  simp only [execFeedEvent, h]
  rfl

/-- The channels that send, in whichever order the channels in use are taken. -/
theorem State.filter_carried_perm {s : State} {l : List Chan} (h : l.Perm (allChans.filter s.inUse)) :
    (l.filter fun c => (s.chan c).carried).Perm s.sendingChannels := by
  refine (h.filter _).trans (.of_eq ?_)
  rw [List.filter_filter]
  exact List.filter_congr fun c _ => Bool.and_comm ..

/-- What a feed event says of the level window of a channel that it settles. -/
theorem Channel.settled_window_spec (x : Channel) (cfg : ChannelConfig) :
    (x.window = x.runningWindow → (x.settled cfg).trim = x.trim ∧ (x.settled cfg).mode = x.mode) ∧
    (∀ w, x.window = some w → 1000 ≤ w.count → (x.settled cfg).trim = movedTrim cfg x.trim w.peak ∧
      (x.settled cfg).mode = if x.mode = .oneShot then .manual else x.mode) ∧
    (∀ l, x.filling = .complete l → x.carried = true → (x.settled cfg).mode ≠ .manual →
      ∃ w, (x.settled cfg).window = some w ∧ (x.runningWindow = none → w.count = 1 ∧ w.peak = blockPeak l) ∧
        (∀ w0, x.runningWindow = some w0 → w.count = w0.count + 1 ∧ w.peak = max w0.peak (blockPeak l))) ∧
    (((∀ l, x.filling ≠ .complete l) ∨ x.carried = false ∨ (x.settled cfg).mode = .manual) →
      (x.settled cfg).window = x.runningWindow) := by
  obtain ⟨_, _, _, _, _, _, htrim, hmode⟩ := x.settled_frame cfg
  rw [htrim, hmode]
  refine ⟨fun h => ?_, fun w hw hfull => ?_, fun l hl hcarried hauto => ⟨_, x.settled_window_of_sent cfg hl hcarried hauto,
    fun hnone => ?_, fun w0 hsome => ?_⟩, x.settled_window_of_not_sent cfg⟩
  · rw [x.endWindow_of_runningWindow cfg h]
    exact ⟨rfl, rfl⟩
  · rw [Channel.endWindow_of_full cfg hw hfull]
    exact ⟨rfl, rfl⟩
  · rw [hnone]
    exact ⟨rfl, Nat.zero_max _⟩
  · rw [hsome]
    exact ⟨rfl, rfl⟩

/-- Settles O36. -/
theorem feedEventSettlesChannels : Obligations.FeedEventSettlesChannels := by
  intro s t0 hnext
  obtain ⟨l, n, hperm, hexec⟩ := exec_feedEvent hnext
  obtain ⟨channels, heq, hchannels⟩ := State.foldl_feedChannel l (hperm.nodup_iff.mpr ((List.nodup_finRange 8).filter _))
    ((s.reach t0).useFree n)
  have hsending := State.filter_carried_perm hperm
  have hmem : ∀ c, c ∈ l ↔ s.inUse c = true := fun c => by rw [hperm.mem_iff]; simp [allChans]
  rw [heq] at hexec
  refine ⟨_, hexec, rfl, rfl, rfl, fun c hc => ?_, fun c hc => ?_, fun b => ⟨(blockPeak_le_iff b _).mp (Nat.le_refl _),
    fun n hn => (blockPeak_le_iff b n).mpr hn⟩, fun hrun hbound => ?_, ?_, rfl, rfl⟩
  · exact (hchannels c).trans (if_neg (by rw [hmem, hc]; exact Bool.false_ne_true))
  · have hsettled : channels[c] = (s.chan c).settled s.image.channels[c] := (hchannels c).trans (if_pos ((hmem c).mpr hc))
    obtain ⟨hfilling, hstate, hdemand, hvideo, hlinger, hshadow, _⟩ := (s.chan c).settled_frame s.image.channels[c]
    obtain ⟨hruns, hfull, hsent, hnot⟩ := (s.chan c).settled_window_spec s.image.channels[c]
    have hready := fun l => (s.chan c).settled_of_complete s.image.channels[c] (l := l)
    have hkept : (∀ l, (s.chan c).filling ≠ .complete l) →
        ((s.chan c).settled s.image.channels[c]).ready = (s.chan c).ready ∧
          ((s.chan c).settled s.image.channels[c]).audioSeq = (s.chan c).audioSeq := fun h => by
      rw [(s.chan c).settled_of_incomplete _ h, Channel.endWindow_frame]
      exact ⟨rfl, rfl⟩
    rw [← hsettled] at hfilling hstate hdemand hvideo hlinger hshadow hruns hfull hsent hnot hready hkept
    exact ⟨hfilling, hstate, hready, hkept, hdemand, hvideo, hlinger, hshadow, hruns, hfull, hsent, hnot⟩
  · have hpackets : (((s.reach t0).useFree n).fedPackets l).Perm ((s.sendingChannels.filterMap s.feedPacket).map
        (handedBy s ((s.reach t0).useFree n))) := (hsending.filterMap _).map _
    have hclass := ((s.reach t0).useFree n).fedPackets_classB l
    have htrunk : (((s.reach t0).useFree n).fedBy l channels).trunk =
        (((s.reach t0).useFree n).fedPackets l).foldl Trunk.fed s.trunk := if_pos hrun
    change (_ → (((s.reach t0).useFree n).fedBy l channels).trunk.held.Perm _) ∧ (_ → ∃ l' : List TxPacket, _ ∧
      (((s.reach t0).useFree n).fedBy l channels).trunk.queueB = _ ∧ (((s.reach t0).useFree n).fedBy l channels).trunk.dropB = _)
    rw [htrunk]
    refine ⟨fun hroom => ?_, fun hbusy => ⟨_, hpackets, ?_⟩⟩
    · exact (Trunk.held_foldl_fed_classB _ hclass s.trunk (by rw [hpackets.length_eq]; exact hroom)).trans (hpackets.append_left _)
    · rw [Trunk.foldl_fed_classB_of_busy _ hclass s.trunk hbusy hbound]
      exact ⟨rfl, rfl⟩
  · exact congrArg (fun k => bumpBy k s.carry.underrun) (hsending.filter _).length_eq

end Sys2Proof.Machine
end

section
/-! PROGRAM_AUDIO and PROGRAM_VIDEO packets at their tap: O30 and O31. -/

namespace Sys2Proof.Machine

/-! ## Places in a queue -/

/-- The place of an insertion: behind those that it does not go before. -/
theorem insertBefore_eq {α : Type} (b : α → α → Bool) (x : α) (l : List α) :
    insertBefore b x l = l.takeWhile (fun y => !b x y) ++ x :: l.dropWhile fun y => !b x y := by
  induction l with
  | nil => rfl
  | cons y l ih =>
    rw [insertBefore]
    cases h : b x y
    · simp only [Bool.false_eq_true, if_false, ih, List.takeWhile_cons, List.dropWhile_cons, h, Bool.not_false, if_true,
        List.cons_append]
    · simp [h]

/-- The member of a key after it is replaced. -/
theorem find_replace {α κ : Type} [DecidableEq κ] (key : α → κ) {k : κ} {x y : α} {l : List α}
    (hx : l.find? (fun z => key z == k) = some x) (hy : key y = k) (k' : κ) :
    (l.map fun z => if key z = k then y else z).find? (fun z => key z == k') =
      if k' = k then some y else l.find? fun z => key z == k' := by
  have hsame : (l.map fun z => if key z = k then y else z) =
      l.map fun z => if key z = k then (fun z => if key z = k then y else z) z else z :=
    List.map_congr_left fun z _ => by
      by_cases h : key z = k <;> simp [h]
  rw [hsame, find_modify key k k' (fun z => if key z = k then y else z) l fun z => by
    by_cases h : key z = k <;> simp [h, hy]]
  by_cases hk : k' = k
  · rw [if_pos hk, if_pos hk, hx, Option.map_some, if_pos (key_of_find key k hx)]
  · rw [if_neg hk, if_neg hk]

/-! ## A PROGRAM_AUDIO packet -/

section
variable (t : Tap) (depth : Nat) (now : Time) (source : Nat) (k : AudioPacket)

theorem Tap.arrive_of_waiting (h : t.state = .waiting) :
    t.arrive depth now source k = (Tap.start { t with source := some source } now k, .kept) := by
  rw [Tap.arrive, h]

/-- A packet at a tap that expects one (R53 to R55). -/
theorem Tap.arrive_of_expected {e : Seq} (h : t.state ≠ .waiting) (he : t.expected = some e) : t.arrive depth now source k =
    if seqBehind k.sequence e then (t, .late)
    else if 256 ≤ seqDistance k.sequence e then (t.start now k, .resync)
    else if t.queue.any fun x => x.sequence == k.sequence then (t, .duplicate)
    else t.keep depth now e k := by
  unfold Tap.arrive
  rw [he]
  cases hs : t.state with
  | waiting => exact absurd hs h
  | priming => rfl
  | playing => rfl
  | starved => rfl

theorem Tap.arrive_program : (t.arrive depth now source k).1.program = t.program := by
  unfold Tap.arrive
  split
  · rfl
  · rfl
  · split
    · rfl
    · split
      · rfl
      · split
        · rfl
        · unfold Tap.keep
          dsimp only
          split <;> rfl

end

/-- The node after a PROGRAM_AUDIO packet of a tap's source, or of any when it has none (R53). -/
def State.arrived (s : State) (x : Tap) (source : Nat) (k : AudioPacket) : State :=
  (s.modTap x.program fun _ => (x.arrive s.image.depth s.now source k).1).modTaps fun c =>
    c.countArrival (x.arrive s.image.depth s.now source k).2

theorem TapCtl.countArrival_frame (c : TapCtl) (a : Arrival) :
    (c.countArrival a).taps = c.taps ∧ (c.countArrival a).catalogue = c.catalogue := by
  cases a <;> exact ⟨rfl, rfl⟩

theorem State.tap?_arrived {s : State} {x : Tap} (hx : s.tap? x.program = some x) (source : Nat) (k : AudioPacket) (o : Nat) :
    (s.arrived x source k).tap? o =
      if o = x.program then some (x.arrive s.image.depth s.now source k).1 else s.tap? o := by
  have hfind := find_replace Tap.program (k := x.program) (y := (x.arrive s.image.depth s.now source k).1) hx
    (Tap.arrive_program ..) o
  refine Eq.trans ?_ hfind
  refine congrArg (List.find? fun z : Tap => z.program == o) ?_
  exact (TapCtl.countArrival_frame _ _).1

theorem State.arrived_taps (s : State) (x : Tap) (source : Nat) (k : AudioPacket) : (s.arrived x source k).taps =
    TapCtl.countArrival { s.taps with taps := (s.arrived x source k).taps.taps } (x.arrive s.image.depth s.now source k).2 := by
  have hkept : (s.arrived x source k).taps.taps =
      (s.modTap x.program fun _ => (x.arrive s.image.depth s.now source k).1).taps.taps := (TapCtl.countArrival_frame _ _).1
  rw [hkept]
  rfl

theorem State.takeProgramAudio_of_foreign {s : State} {x : Tap} {source : Nat} (hrun : s.running = true)
    (hx : s.tap? x.program = some x) (hforeign : x.source.isSome = true ∧ x.source ≠ some source) (k : AudioPacket) :
    s.takeProgramAudio source x.program k = s.countForeign := by
  rw [State.takeProgramAudio, if_pos hrun, hx]
  exact if_pos hforeign

theorem State.takeProgramAudio_of_source {s : State} {x : Tap} {source : Nat} (hrun : s.running = true)
    (hx : s.tap? x.program = some x) (hsource : x.source = none ∨ x.source = some source) (k : AudioPacket) :
    s.takeProgramAudio source x.program k = s.arrived x source k := by
  rw [State.takeProgramAudio, if_pos hrun, hx]
  refine if_neg ?_
  rintro ⟨hsome, hne⟩
  obtain h | h := hsource
  · rw [h] at hsome
    exact absurd hsome nofun
  · exact hne h

theorem exec_programAudio {s : State} {source : Nat} (hsource : s.takesFrom source = true) {trim : Int} (hlow : -12 ≤ trim)
    (hhigh : trim ≤ 12) {frames : List StereoFrame} (hlength : frames.length = 48) (program : Nat) (q : Seq) :
    exec (.programAudio source program trim q frames) s =
      .next ((s.heard source).takeProgramAudio source program { sequence := q, trim := trim, frames := frames }) :=
  congrArg Host.Outcome.next (State.receive_of_takesFrom (b := .programAudio program trim q frames) hsource
    (decide_eq_true ⟨hlow, hhigh, hlength⟩))

/-- A kept packet while there is room (R55, R56). -/
theorem Tap.keep_of_room {t : Tap} {depth : Nat} {e : Seq} {k : AudioPacket} {q : List AudioPacket} (now : Time)
    (hq : insertBefore (fun x y => decide (seqDistance x.sequence e < seqDistance y.sequence e)) k t.queue = q)
    (hroom : q.length ≤ depth) : t.keep depth now e k =
      ({ t with queue := q, lastKept := now, state := stateAfterKept t.state depth q.length }, .kept) := by
  simp only [Tap.keep, hq]
  rw [if_neg (Nat.not_lt.mpr hroom)]

/-- A kept packet at a full queue slips the oldest (R55, R56). -/
theorem Tap.keep_of_full {t : Tap} {depth : Nat} {e : Seq} {k : AudioPacket} {q : List AudioPacket} (now : Time)
    (hq : insertBefore (fun x y => decide (seqDistance x.sequence e < seqDistance y.sequence e)) k t.queue = q)
    (hfull : depth < q.length) : t.keep depth now e k =
      ({ t with queue := q.tail, expected := ((q.tail.head?).map AudioPacket.sequence).or t.expected, lastKept := now,
                state := stateAfterKept t.state depth q.tail.length }, .slip) := by
  simp only [Tap.keep, hq]
  rw [if_pos hfull, List.drop_one]

/-- Settles O30. -/
theorem programAudioAtItsTap : Obligations.ProgramAudioAtItsTap := by
  intro s source x trim q frames hsource hrun hlow hhigh hlength hx k
  have hexec := exec_programAudio hsource hlow hhigh hlength x.program q
  have hx' : (s.heard source).tap? x.program = some x := hx
  by_cases hforeign : x.source.isSome = true ∧ x.source ≠ some source
  · rw [State.takeProgramAudio_of_foreign (s := s.heard source) hrun hx' hforeign] at hexec
    refine ⟨_, hexec, rfl, rfl, fun _ _ => rfl, fun _ _ => ⟨hx, rfl⟩, fun hown => absurd hown ?_⟩
    rintro (h | h)
    · rw [h] at hforeign
      exact absurd hforeign.1 nofun
    · exact hforeign.2 h
  have hown : x.source = none ∨ x.source = some source := by
    cases hs : x.source with
    | none => exact .inl rfl
    | some o => exact .inr (by by_contra hne; exact hforeign ⟨by rw [hs]; rfl, by rw [hs]; exact hne⟩)
  rw [State.takeProgramAudio_of_source (s := s.heard source) hrun hx' hown] at hexec
  have hfind := State.tap?_arrived hx' source k
  have hself : ((s.heard source).arrived x source k).tap? x.program = some (x.arrive s.image.depth s.now source k).1 :=
    (hfind x.program).trans (if_pos rfl)
  have htaps : ((s.heard source).arrived x source k).taps =
      TapCtl.countArrival { s.taps with taps := ((s.heard source).arrived x source k).taps.taps }
        (x.arrive s.image.depth s.now source k).2 := (s.heard source).arrived_taps x source k
  refine ⟨_, hexec, rfl, ?_, fun o ho => (hfind o).trans (if_neg ho), fun h1 h2 => absurd ⟨h1, h2⟩ hforeign, fun _ =>
    ⟨fun hwaiting => ?_, fun e hstate he => ⟨fun hbehind => ?_, fun hahead hfar => ?_, fun hnear hqueued => ?_,
      fun hnear hnew => ?_⟩⟩⟩
  · rw [htaps, (TapCtl.countArrival_frame _ _).2]
  · rw [hself, Tap.arrive_of_waiting _ _ _ _ _ hwaiting]
    rfl
  · have harrive : x.arrive s.image.depth s.now source k = (x, .late) := by
      rw [Tap.arrive_of_expected _ _ _ _ _ hstate he]
      exact if_pos (decide_eq_true hbehind)
    rw [hself, htaps, harrive]
    exact ⟨rfl, rfl⟩
  · have harrive : x.arrive s.image.depth s.now source k = (x.start s.now k, .resync) := by
      rw [Tap.arrive_of_expected _ _ _ _ _ hstate he, if_neg, if_pos (show 256 ≤ seqDistance k.sequence e from hfar)]
      exact fun hb => absurd (of_decide_eq_true hb) (Nat.not_le.mpr hahead)
    rw [hself, htaps, harrive]
    exact ⟨rfl, rfl⟩
  · have harrive : x.arrive s.image.depth s.now source k = (x, .duplicate) := by
      obtain ⟨y, hy, hseq⟩ := hqueued
      rw [Tap.arrive_of_expected _ _ _ _ _ hstate he, if_neg, if_neg (show ¬256 ≤ seqDistance k.sequence e from Nat.not_le.mpr hnear), if_pos]
      · exact List.any_eq_true.mpr ⟨y, hy, beq_iff_eq.mpr hseq⟩
      · exact fun hb => absurd (of_decide_eq_true hb) (Nat.not_le.mpr (hnear.trans (by omega)))
    rw [hself, htaps, harrive]
    exact ⟨rfl, rfl⟩
  · intro nearer joined inOrder
    have harrive : x.arrive s.image.depth s.now source k = x.keep s.image.depth s.now e k := by
      rw [Tap.arrive_of_expected _ _ _ _ _ hstate he, if_neg, if_neg (show ¬256 ≤ seqDistance k.sequence e from Nat.not_le.mpr hnear), if_neg]
      · intro hany
        obtain ⟨y, hy, hseq⟩ := List.any_eq_true.mp hany
        exact hnew y hy (beq_iff_eq.mp hseq)
      · exact fun hb => absurd (of_decide_eq_true hb) (Nat.not_le.mpr (hnear.trans (by omega)))
    have hjoined : insertBefore (fun x y => decide (seqDistance x.sequence e < seqDistance y.sequence e)) k x.queue = joined := by
      have hnot : (fun y : AudioPacket => !decide (seqDistance k.sequence e < seqDistance y.sequence e)) = nearer :=
        funext fun y => by
          rw [← decide_not]
          exact decide_eq_decide.mpr Nat.not_lt
      rw [insertBefore_eq, hnot]
    have hjoinedLength : joined.length = x.queue.length + 1 := by rw [← hjoined, insertBefore_length]
    refine ⟨fun hsorted => ?_, fun hroom => ?_, fun hfull hdepth => ?_⟩
    · have hdistinct : ∀ y ∈ x.queue, seqDistance y.sequence e ≠ seqDistance k.sequence e := fun y hy heq =>
        hnew y hy (sub_left_injective (BitVec.eq_of_toNat_eq heq : y.sequence - e = q - e))
      have hpair := pairwise_insert_of_key (fun y : AudioPacket => seqDistance y.sequence e) hdistinct hsorted
      rw [hjoined] at hpair
      exact hpair
    · rw [hself, harrive, Tap.keep_of_room s.now hjoined (by omega), hjoinedLength]
      rfl
    · rw [hself, htaps, harrive, Tap.keep_of_full s.now hjoined (by omega)]
      have htail : joined.tail.length = s.image.depth := by rw [List.length_tail]; omega
      refine ⟨rfl, ?_⟩
      obtain ⟨y, r, hy⟩ : ∃ y r, joined.tail = y :: r := List.exists_cons_of_length_pos (by omega)
      rw [htail, hy]
      have hplaying : stateAfterKept x.state s.image.depth s.image.depth = match x.state with
          | .priming => .playing
          | .starved => .priming
          | z => z := by
        cases x.state
        · rfl
        · exact if_pos (Nat.div_le_self ..)
        · rfl
        · rfl
      rw [hplaying]
      rfl

/-! ## A PROGRAM_VIDEO packet -/

/-- A change of several links. -/
theorem State.foldl_modLink (l : List Port) (hl : l.Nodup) (f : Link → Link) (s : State) :
    (l.foldl (fun u p => u.modLink p f) s) = { s with links := (l.foldl (fun u p => u.modLink p f) s).links } ∧
      ∀ p : Port, (l.foldl (fun u p => u.modLink p f) s).links[p] = if p ∈ l then f s.links[p] else s.links[p] := by
  induction l generalizing s with
  | nil => exact ⟨rfl, fun _ => rfl⟩
  | cons q l ih =>
    rw [List.nodup_cons] at hl
    obtain ⟨hq, hl⟩ := hl
    obtain ⟨heq, hlinks⟩ := ih hl (s.modLink q f)
    rw [List.foldl_cons]
    refine ⟨?_, fun p => ?_⟩
    · generalize List.foldl _ (s.modLink q f) l = v at heq
      rw [heq]
      rfl
    · rw [hlinks, State.modLink_get]
      by_cases hp : p = q
      · subst hp
        simp [hq]
      · simp [hp]

/-- A chunk handed to a link whose transmitter does not take it (R147, R152, R156). -/
theorem Link.handVideo_of_waiting {l : Link} (hup : l.state = .up) (c : Chunk)
    (h : l.sending.isSome = true ∨ (l.hold.isSome = true ∧ l.resets = [] ∧ l.control = [] ∧ l.audio = none)) :
    l.handVideo c = { l with
      video := (l.video ++ [c]).drop (l.video.length - 7),
      counters := { l.counters with videoDrop := if l.video.length < 8 then l.counters.videoDrop else bump l.counters.videoDrop } } := by
  have hkick : ∀ video counters, Link.kick { l with video := video, counters := counters } =
      { l with video := video, counters := counters } := fun video counters => by
    obtain hbusy | ⟨hhold, hresets, hcontrol, haudio⟩ := h
    · exact Link.kick_busy _ hbusy
    · obtain ⟨t, ht⟩ := Option.isSome_iff_exists.mp hhold
      unfold Link.kick
      simp only [hresets, hcontrol, haudio, ht, hup]
      cases l.sending <;> cases video <;> simp
  rw [Link.handVideo, if_pos hup]
  simp only [pushDropOldest_succ 7]
  rw [hkick]
  by_cases hroom : l.video.length < 8
  · rw [decide_eq_true hroom, if_pos hroom]
    rfl
  · rw [decide_eq_false hroom, if_neg hroom]
    rfl

/-- A chunk handed to a link whose free transmitter takes the oldest (R147, R156). -/
theorem Link.handVideo_of_free {l : Link} (hup : l.state = .up) (c : Chunk) (hsending : l.sending = none) (hhold : l.hold = none)
    (hresets : l.resets = []) (hcontrol : l.control = []) (haudio : l.audio = none) :
    l.handVideo c = { l with
      sending := ((l.video ++ [c]).drop (l.video.length - 7)).head?.map .video,
      video := ((l.video ++ [c]).drop (l.video.length - 7)).tail,
      counters := { l.counters with videoDrop := if l.video.length < 8 then l.counters.videoDrop else bump l.counters.videoDrop } } := by
  have hkick : ∀ y r counters, Link.kick { l with video := y :: r, counters := counters } =
      { l with sending := some (.video y), video := r, counters := counters } := fun y r counters => by
    simp [Link.kick, hsending, hresets, hup, hcontrol, haudio, hhold]
  obtain ⟨y, r, hy⟩ : ∃ y r, (l.video ++ [c]).drop (l.video.length - 7) = y :: r :=
    List.exists_cons_of_length_pos (by rw [List.length_drop, List.length_append, List.length_singleton]; omega)
  rw [Link.handVideo, if_pos hup]
  simp only [pushDropOldest_succ 7, hy]
  rw [hkick]
  by_cases hroom : l.video.length < 8
  · rw [decide_eq_true hroom, if_pos hroom]
    rfl
  · rw [decide_eq_false hroom, if_neg hroom]
    rfl

theorem State.showsVideo_iff {s : State} {program : Nat} {p : Port} : s.showsVideo program p = true ↔
    s.inService p = true ∧ (s.berth p).program = program ∧ (s.berth p).screen = .on ∧ (s.berth p).hold = false ∧
      s.links[p].state = .up := by
  simp [State.showsVideo, State.linkUp, and_assoc]

/-- Settles O31. -/
theorem videoIsForwarded : Obligations.VideoIsForwarded := by
  intro s source x q payload hsource hrun hne hlength hx hown hkind
  have hexec : exec (.programVideo source x.program q payload) s = .next
      ((allPorts.filter ((s.heard source).showsVideo x.program)).foldl
        (fun u p => u.modLink p fun l => l.handVideo { sequence := q, payload := payload }) (s.heard source)) := by
    refine congrArg Host.Outcome.next ((State.receive_of_takesFrom (b := .programVideo x.program q payload) hsource
      (decide_eq_true ⟨List.length_pos_iff.mpr hne, hlength⟩)).trans ?_)
    change (s.heard source).takeProgramVideo source x.program _ = _
    rw [State.takeProgramVideo, if_pos (by exact hrun), show (s.heard source).tap? x.program = some x from hx]
    exact (if_neg (not_not.mpr hown)).trans (if_neg (by exact hkind))
  obtain ⟨heq, hlinks⟩ := State.foldl_modLink (allPorts.filter ((s.heard source).showsVideo x.program))
    ((List.nodup_finRange 12).filter _) (fun l => l.handVideo { sequence := q, payload := payload }) (s.heard source)
  have hmem : ∀ p, p ∈ allPorts.filter ((s.heard source).showsVideo x.program) ↔ _ := fun p =>
    (List.mem_filter.trans (and_iff_right (List.mem_finRange p))).trans State.showsVideo_iff
  generalize List.foldl _ (s.heard source) _ = t at hexec heq hlinks
  refine ⟨t, hexec, ?_, fun p => ⟨fun hshows => ?_, fun hno => ?_⟩⟩
  · rw [heq]
    rfl
  · obtain ⟨_, _, _, _, hup⟩ := id hshows
    have hlink := (hlinks p).trans (if_pos ((hmem p).mpr hshows))
    exact ⟨fun h => hlink.trans (Link.handVideo_of_waiting hup _ h), fun hsending hhold hresets hcontrol haudio =>
      hlink.trans (Link.handVideo_of_free hup _ hsending hhold hresets hcontrol haudio)⟩
  · exact (hlinks p).trans (if_neg fun h => hno ((hmem p).mp h))

end Sys2Proof.Machine
end

section
/-! What an operation at one port's voice leaves unchanged, and what it makes of the berth records of the announcement table. -/

namespace Sys2Proof.Machine

/-! ## Entries and their berth records -/

theorem State.entry?_modEntry (s : State) (id o : AnnId) {f : Entry → Entry} (hf : ∀ e, (f e).desc = e.desc) :
    (s.modEntry id f).entry? o = if o = id then (s.entry? id).map f else s.entry? o :=
  find_modify (fun e : Entry => e.desc.id) id o f s.voice.table fun e => by rw [hf]

theorem State.entry?_id {s : State} {id : AnnId} {e : Entry} (h : s.entry? id = some e) : e.desc.id = id :=
  key_of_find (fun e : Entry => e.desc.id) id h

/-- Nothing is told of an entry or its records but by the table. -/
theorem State.entry?_congr {s t : State} (h : t.voice.table = s.voice.table) (id : AnnId) : t.entry? id = s.entry? id := by
  rw [State.entry?, h]
  rfl

theorem State.record?_congr {s t : State} (h : t.voice.table = s.voice.table) (id : AnnId) (p : Port) :
    t.record? id p = s.record? id p := by
  rw [State.record?, State.entry?_congr h]
  rfl

/-- The record of a port after the records of a port are changed. -/
theorem State.record?_modRec (s : State) (id : AnnId) (p : Port) {f : BerthRec → BerthRec} (hf : ∀ r, (f r).port = r.port)
    (o : AnnId) (q : Port) : (s.modRec id p f).record? o q = if o = id ∧ q = p then (s.record? id p).map f else s.record? o q := by
  have hentry := s.entry?_modEntry id o (f := fun e => { e with recs := e.recs.map fun r => if r.port = p then f r else r })
    fun _ => rfl
  rw [State.record?, State.modRec, hentry]
  by_cases ho : o = id
  · subst ho
    rw [if_pos rfl]
    cases he : s.entry? o with
    | none => simp [State.record?, he]
    | some e =>
      have hfind := find_modify BerthRec.port p q f e.recs hf
      simp only [Option.map_some, Option.bind_some]
      rw [hfind]
      by_cases hq : q = p
      · rw [if_pos hq, if_pos ⟨trivial, hq⟩, State.record?, he]
        rfl
      · rw [if_neg hq, if_neg fun h => hq h.2, State.record?, he]
        rfl
  · rw [if_neg ho, if_neg fun h => ho h.1]
    rfl

/-- The record of a port in an entry that is held. -/
theorem State.record?_of_entry {s : State} {id : AnnId} {e : Entry} (h : s.entry? id = some e) (p : Port) :
    s.record? id p = e.recs.find? fun r => r.port == p := by
  rw [State.record?, h]
  rfl

/-! ## Outcomes and cards -/

/-- A record whose outcome is fixed, once (R128). -/
def BerthRec.fixedTo (r : BerthRec) (o : BerthOutcome) : BerthRec :=
  match r.role with
  | .fixed _ => r
  | _ => { r with role := .fixed o }

theorem BerthRec.fixedTo_port (r : BerthRec) (o : BerthOutcome) : (r.fixedTo o).port = r.port := by
  unfold BerthRec.fixedTo
  split <;> rfl

theorem BerthRec.fixedTo_of_pending {r : BerthRec} (h : r.role = .pending) (o : BerthOutcome) :
    r.fixedTo o = { r with role := .fixed o } := by
  simp [BerthRec.fixedTo, h]

theorem BerthRec.fixedTo_of_inService {r : BerthRec} (h : r.role = .inService) (o : BerthOutcome) :
    r.fixedTo o = { r with role := .fixed o } := by
  simp [BerthRec.fixedTo, h]

theorem BerthRec.fixedTo_fixedTo (r : BerthRec) (o o' : BerthOutcome) : (r.fixedTo o).fixedTo o' = r.fixedTo o := by
  cases h : r.role <;> simp [BerthRec.fixedTo, h]

section
variable (s : State) (id : AnnId) (p : Port)

theorem State.record?_fix (o : BerthOutcome) (j : AnnId) (q : Port) : (s.fix id p o).record? j q =
    if j = id ∧ q = p then (s.record? id p).map (·.fixedTo o) else s.record? j q :=
  s.record?_modRec id p (fun r => r.fixedTo_port o) j q

/-- SHOW: the card goes to an UP link, and the record has it (R127). -/
theorem State.showCard_eq {e : Entry} (h : s.entry? id = some e) : s.showCard id p =
    if s.linkUp p then (s.modLink p fun l => l.handCard s.now (e.card .show)).modRec id p fun r => { r with card := true }
    else s := by
  rw [State.showCard, h]

theorem State.record?_showCard (j : AnnId) (q : Port) : (s.showCard id p).record? j q =
    if j = id ∧ q = p then (s.record? id p).map fun r => { r with card := s.linkUp p || r.card } else s.record? j q := by
  cases he : s.entry? id with
  | none =>
    have hnone : s.record? id p = none := by rw [State.record?, he]; rfl
    have heq : s.showCard id p = s := by rw [State.showCard, he]
    rw [heq]
    split
    · next h => rw [h.1, h.2, hnone]; rfl
    · rfl
  | some e =>
    rw [s.showCard_eq id p he]
    cases hup : s.linkUp p with
    | false =>
      rw [if_neg Bool.false_ne_true]
      split
      · next h => rw [h.1, h.2]; simp
      · rfl
    | true =>
      rw [if_pos rfl, State.record?_modRec _ _ _ (f := fun r => { r with card := true }) fun _ => rfl]
      rfl

/-- CLEAR: the card of a record that has one goes to an UP link, and the record has none (R127). -/
theorem State.clearCard_eq {e : Entry} (h : s.entry? id = some e) : s.clearCard id p =
    if e.recs.any fun r => r.port == p && r.card then
      (if s.linkUp p then s.modLink p fun l => l.handCard s.now (e.card .clear) else s).modRec id p
        fun r => { r with card := false }
    else s := by
  rw [State.clearCard, h]

theorem State.record?_clearCard (j : AnnId) (q : Port) : (s.clearCard id p).record? j q =
    if j = id ∧ q = p then (s.record? id p).map fun r => { r with card := false } else s.record? j q := by
  cases he : s.entry? id with
  | none =>
    have hnone : s.record? id p = none := by rw [State.record?, he]; rfl
    have heq : s.clearCard id p = s := by rw [State.clearCard, he]
    rw [heq]
    split
    · next h => rw [h.1, h.2, hnone]; rfl
    · rfl
  | some e =>
    rw [s.clearCard_eq id p he]
    by_cases hany : (e.recs.any fun r => r.port == p && r.card) = true
    · rw [if_pos hany, State.record?_modRec _ _ _ (f := fun r => { r with card := false }) fun _ => rfl]
      cases s.linkUp p <;> rfl
    · rw [if_neg hany]
      split
      · next h =>
        rw [h.1, h.2]
        cases hr : s.record? id p with
        | none => rfl
        | some r =>
          rw [s.record?_of_entry he] at hr
          have hport : r.port = p := key_of_find BerthRec.port p hr
          have hcard : r.card = false := by
            by_contra hc
            exact hany (List.any_eq_true.mpr ⟨r, List.mem_of_find?_eq_some hr, by simp [hport, hc]⟩)
          rw [Option.map_some, ← hcard]
      · rfl

end

/-! ## Operations at one port -/

/-- An entry without what its berth records say. -/
def Entry.bare (e : Entry) : Entry := { e with recs := e.recs.map fun r => { r with role := .pending, card := false } }

/-- Tables alike but for their records hold entries alike but for their records. -/
theorem State.entry?_bare {s t : State} (h : t.voice.table.map Entry.bare = s.voice.table.map Entry.bare) (id : AnnId) :
    (t.entry? id).map Entry.bare = (s.entry? id).map Entry.bare := by
  have key : ∀ l : List Entry, (l.find? fun e => e.desc.id == id).map Entry.bare =
      (l.map Entry.bare).find? fun e => e.desc.id == id := fun l => by
    rw [List.find?_map]
    rfl
  rw [State.entry?, State.entry?, key, key, h]

/-- Nothing changes but at one port: its berth record, link and voice, and its records in the announcement table. -/
structure AtPort (p : Port) (s t : State) : Prop where
  frame  : t = { s with
    berths := { s.berths with records := t.berths.records },
    voice := { s.voice with table := t.voice.table, voices := t.voice.voices },
    links := t.links }
  table  : t.voice.table.map Entry.bare = s.voice.table.map Entry.bare
  berth  : ∀ q, q ≠ p → t.berth q = s.berth q
  link   : ∀ q, q ≠ p → t.links[q] = s.links[q]
  voice  : ∀ q, q ≠ p → t.berthVoice q = s.berthVoice q
  record : ∀ id q, q ≠ p → t.record? id q = s.record? id q

namespace AtPort

variable {p : Port} {s t u : State}

theorem refl (p : Port) (s : State) : AtPort p s s :=
  ⟨rfl, rfl, fun _ _ => rfl, fun _ _ => rfl, fun _ _ => rfl, fun _ _ _ => rfl⟩

theorem trans (h : AtPort p s t) (k : AtPort p t u) : AtPort p s u where
  frame := by
    have hs := h.frame
    have ht := k.frame
    rw [hs] at ht
    exact ht
  table := k.table.trans h.table
  berth q hq := (k.berth q hq).trans (h.berth q hq)
  link q hq := (k.link q hq).trans (h.link q hq)
  voice q hq := (k.voice q hq).trans (h.voice q hq)
  record id q hq := (k.record id q hq).trans (h.record id q hq)

theorem ite {c : Prop} [Decidable c] {a b : State} (ha : AtPort p s a) (hb : AtPort p s b) : AtPort p s (if c then a else b) := by
  split
  · exact ha
  · exact hb

theorem foldl {α : Type} {op : State → α → State} (h : ∀ s x, AtPort p s (op s x)) (l : List α) (s : State) :
    AtPort p s (l.foldl op s) := by
  induction l generalizing s with
  | nil => exact refl p s
  | cons x l ih => exact (h s x).trans (ih _)

theorem now (h : AtPort p s t) : t.now = s.now := by rw [h.frame]

theorem startup (h : AtPort p s t) : t.startup = s.startup := by rw [h.frame]

theorem phase (h : AtPort p s t) : t.phase = s.phase := by rw [h.frame]

/-- An entry is told apart from before by what its records say alone. -/
theorem entry (h : AtPort p s t) (id : AnnId) : (t.entry? id).map Entry.bare = (s.entry? id).map Entry.bare :=
  State.entry?_bare h.table id

theorem entry_some (h : AtPort p s t) {id : AnnId} {e : Entry} (he : s.entry? id = some e) :
    ∃ e', t.entry? id = some e' ∧ e'.bare = e.bare := by
  have hid := h.entry id
  rw [he] at hid
  obtain ⟨e', he', hbare⟩ := Option.map_eq_some_iff.mp hid
  exact ⟨e', he', hbare⟩

theorem entry_none (h : AtPort p s t) {id : AnnId} (he : s.entry? id = none) : t.entry? id = none := by
  have hid := h.entry id
  rw [he] at hid
  exact Option.map_eq_none_iff.mp hid

theorem classOfId (h : AtPort p s t) (id : AnnId) : t.classOfId id = s.classOfId id := by
  have key : ∀ o : Option Entry, o.map (fun e => e.desc.cls) = (o.map Entry.bare).map fun e => e.desc.cls := fun o => by
    rw [Option.map_map]
    rfl
  rw [State.classOfId, State.classOfId, key, h.entry, ← key]

theorem priorityOf (h : AtPort p s t) (id : AnnId) : t.priorityOf id = s.priorityOf id := by
  have key : ∀ o : Option Entry, o.map Entry.priority = (o.map Entry.bare).map Entry.priority := fun o => by
    rw [Option.map_map]
    rfl
  rw [State.priorityOf, State.priorityOf, key, h.entry, ← key]

end AtPort

/-- What two entries alike but for their records have in common. -/
theorem Entry.bare_eq {e e' : Entry} (h : e'.bare = e.bare) : e'.desc = e.desc ∧ e'.state = e.state ∧ e'.queue = e.queue ∧
    e'.playout = e.playout ∧ e'.lastPacket = e.lastPacket ∧ e'.recs.map BerthRec.port = e.recs.map BerthRec.port := by
  have hports : ∀ x : Entry, x.recs.map BerthRec.port = x.bare.recs.map BerthRec.port := fun x => by
    rw [Entry.bare, List.map_map]
    rfl
  refine ⟨(congrArg Entry.desc h :), (congrArg Entry.state h :), (congrArg Entry.queue h :), (congrArg Entry.playout h :),
    (congrArg Entry.lastPacket h :), ?_⟩
  rw [hports, h, ← hports]

section
variable (s : State) (p : Port)

theorem State.modVoice_atPort (f : Voice → Voice) : AtPort p s (s.modVoice p f) :=
  ⟨rfl, rfl, fun _ _ => rfl, fun _ _ => rfl, fun _ hq => (State.modVoice_get ..).trans (if_neg hq), fun _ _ _ => rfl⟩

theorem State.modBerth_atPort (f : Berth → Berth) : AtPort p s (s.modBerth p f) :=
  ⟨rfl, rfl, fun _ hq => State.modBerth_other _ hq f, fun _ _ => rfl, fun _ _ => rfl, fun _ _ _ => rfl⟩

theorem State.modLink_atPort (f : Link → Link) : AtPort p s (s.modLink p f) :=
  ⟨rfl, rfl, fun _ _ => rfl, fun _ hq => State.modLink_other _ hq f, fun _ _ => rfl, fun _ _ _ => rfl⟩

/-- A change of a port's records alone. -/
theorem State.modRec_atPort (id : AnnId) {f : BerthRec → BerthRec} (hf : ∀ r, (f r).port = r.port ∧ (f r).berth = r.berth) :
    AtPort p s (s.modRec id p f) := by
  refine ⟨rfl, ?_, fun _ _ => rfl, fun _ _ => rfl, fun _ _ => rfl, fun o q hq => ?_⟩
  · simp only [State.modRec, State.modEntry, List.map_map]
    refine List.map_congr_left fun e _ => ?_
    simp only [Function.comp]
    split
    · simp only [Entry.bare, List.map_map]
      congr 1
      refine List.map_congr_left fun r _ => ?_
      simp only [Function.comp]
      split
      · rw [(hf r).1, (hf r).2]
      · rfl
    · rfl
  · rw [State.record?_modRec _ _ _ fun r => (hf r).1]
    exact if_neg fun h => hq h.2

theorem State.fix_atPort (id : AnnId) (o : BerthOutcome) : AtPort p s (s.fix id p o) :=
  s.modRec_atPort p id fun r => by split <;> exact ⟨rfl, rfl⟩

theorem State.recompute_atPort : AtPort p s (s.recompute p) := by
  have heq := s.recompute_eq p
  exact ⟨by rw [heq], by rw [heq], fun q hq => (State.recompute_other hq).2, fun q hq => (State.recompute_other hq).1,
    fun _ _ => by rw [heq]; rfl, fun _ _ _ => by rw [heq]; rfl⟩

theorem State.wake_atPort : AtPort p s (s.wake p) := (s.modBerth_atPort p _).trans (State.recompute_atPort _ p)

theorem State.setHold_atPort (on : Bool) : AtPort p s (s.setHold p on) := (s.modBerth_atPort p _).trans (State.recompute_atPort _ p)

theorem State.showCard_atPort (id : AnnId) : AtPort p s (s.showCard id p) := by
  unfold State.showCard
  split
  · exact .refl p s
  · exact .ite ((s.modLink_atPort p _).trans (State.modRec_atPort _ p id fun _ => ⟨rfl, rfl⟩)) (.refl p s)

theorem State.clearCard_atPort (id : AnnId) : AtPort p s (s.clearCard id p) := by
  unfold State.clearCard
  split
  · exact .refl p s
  · exact .ite (.trans (.ite (s.modLink_atPort p _) (.refl p s)) (State.modRec_atPort _ p id fun _ => ⟨rfl, rfl⟩)) (.refl p s)

theorem State.freeVoice_atPort : AtPort p s (s.freeVoice p) := s.modVoice_atPort p _

theorem State.leavePending_atPort (id : AnnId) : AtPort p s (s.leavePending p id) := s.modVoice_atPort p _

theorem State.enterEmergency_atPort : AtPort p s (s.enterEmergency p) :=
  .ite (.refl p s) ((s.setHold_atPort p true).trans (State.modLink_atPort _ p _))

theorem State.settleHold_atPort : AtPort p s (s.settleHold p) := .ite (s.setHold_atPort p false) (.refl p s)

theorem State.serve_atPort (e : Entry) (v : Serving) : AtPort p s (s.serve p e v) := by
  have h := ((s.modVoice_atPort p fun x => { x with serving := v }).trans
    (State.modRec_atPort _ p e.desc.id (f := fun r => { r with role := .inService }) fun _ => ⟨rfl, rfl⟩)).trans
    (State.showCard_atPort _ p e.desc.id)
  exact .ite (h.trans (State.enterEmergency_atPort _ p)) h

theorem State.turn_atPort (e : Entry) (d : Decision) : AtPort p s (s.turn p e d) := by
  unfold State.turn
  dsimp only
  split
  · exact s.fix_atPort p _ _
  · exact s.fix_atPort p _ _
  · exact (s.fix_atPort p _ _).trans (State.showCard_atPort _ p _)
  · next w =>
    have hwake : AtPort p s (if w = true then s.wake p else s) := .ite (s.wake_atPort p) (.refl p s)
    split
    · exact hwake.trans (State.serve_atPort _ p _ _)
    · exact .ite (hwake.trans (State.serve_atPort _ p _ _))
        (hwake.trans ((State.fix_atPort _ p _ _).trans (State.showCard_atPort _ p _)))

theorem State.serveList_atPort : ∀ (l : List (AnnId × Time)) (s : State), AtPort p s (State.serveList p l s)
  | [], s => .refl p s
  | x :: r, s => by
    unfold State.serveList
    dsimp only
    have h : AtPort p s (match (s.modVoice p fun v => { v with pending := r }).entry? x.1 with
        | some e => (s.modVoice p fun v => { v with pending := r }).turn p e
            ((s.modVoice p fun v => { v with pending := r }).decision e.desc.cls p)
        | none => s.modVoice p fun v => { v with pending := r }) := by
      refine (s.modVoice_atPort p fun v => { v with pending := r }).trans ?_
      split
      · exact State.turn_atPort _ p _ _
      · exact .refl p _
    exact .ite (h.trans (State.serveList_atPort r _)) h

theorem State.servePending_atPort : AtPort p s (s.servePending p) :=
  .trans (.ite (State.serveList_atPort p _ s) (.refl p s)) (State.settleHold_atPort _ p)

theorem State.preempt_atPort (cur : AnnId) : AtPort p s (s.preempt p cur) :=
  ((s.fix_atPort p cur _).trans (State.clearCard_atPort _ p cur)).trans (State.freeVoice_atPort _ p)

theorem State.joinPending_atPort (id : AnnId) : AtPort p s (s.joinPending p id) :=
  ((s.modVoice_atPort p _).trans (State.modRec_atPort _ p id (f := fun r => { r with role := .pending }) fun _ => ⟨rfl, rfl⟩)).trans
    (.foldl (fun t (x : AnnId × Time) => t.fix_atPort p x.1 _) _ _)

/-- A targeted berth's meeting with an announcement. -/
theorem State.meet_atPort (id : AnnId) : AtPort p s (s.meet id p) := by
  unfold State.meet
  split
  · exact .refl p s
  · dsimp only
    split
    · split
      · exact s.turn_atPort p _ _
      · exact .ite (((s.preempt_atPort p _).trans (State.turn_atPort _ p _ _)).trans (State.servePending_atPort _ p))
          (s.joinPending_atPort p id)
    · exact s.turn_atPort p _ _

end

end Sys2Proof.Machine
end

section
/-! A link that leaves UP, and what becomes of its berth's announcements: O47, O48 and O18. -/

namespace Sys2Proof.Machine

/-! ## The announcements of a berth whose link is lost -/

/-- Several announcements are fixed at one port. -/
theorem State.foldl_fix (l : List (AnnId × Time)) (p : Port) (o : BerthOutcome) (s : State) :
    l.foldl (fun t x => t.fix x.1 p o) s = { s with voice := (l.foldl (fun t x => t.fix x.1 p o) s).voice } ∧
      (l.foldl (fun t x => t.fix x.1 p o) s).voice.voices = s.voice.voices ∧
      ∀ id, (l.foldl (fun t x => t.fix x.1 p o) s).record? id p =
        if id ∈ l.map Prod.fst then (s.record? id p).map (·.fixedTo o) else s.record? id p := by
  induction l generalizing s with
  | nil => exact ⟨rfl, rfl, fun _ => rfl⟩
  | cons x l ih =>
    obtain ⟨heq, hvoices, hrecord⟩ := ih (s.fix x.1 p o)
    rw [List.foldl_cons]
    refine ⟨?_, hvoices, fun id => ?_⟩
    · generalize List.foldl _ (s.fix x.1 p o) l = v at heq
      rw [heq]
      rfl
    · rw [hrecord]
      by_cases hx : id = x.1
      · subst hx
        have hfirst : (s.fix x.1 p o).record? x.1 p = (s.record? x.1 p).map (·.fixedTo o) :=
          (s.record?_fix x.1 p o x.1 p).trans (if_pos ⟨rfl, rfl⟩)
        refine Eq.trans ?_ (if_pos (by simp)).symm
        rw [hfirst]
        split
        · rw [Option.map_map]
          exact Option.map_congr fun r _ => r.fixedTo_fixedTo o o
        · rfl
      · have hfirst : (s.fix x.1 p o).record? id p = s.record? id p :=
          (s.record?_fix x.1 p o id p).trans (if_neg fun h => hx h.1)
        rw [hfirst, List.map_cons]
        simp only [List.mem_cons, hx, false_or]

/-- The announcement in service is cut, where there is one. -/
def State.cutCurrent (s : State) (p : Port) : State :=
  match (s.berthVoice p).serving.current with
  | some id => s.fix id p (.cut .linkLost)
  | none => s

/-- Every outcome of the port is fixed, its voice is IDLE, its pending list empty and its cards forgotten (R124). -/
def State.lost (s : State) (p : Port) : State :=
  let s1 := (s.berthVoice p).pending.foldl (fun t x => t.fix x.1 p (.declined .unreachable)) (s.cutCurrent p)
  let s2 := s1.modVoice p fun x => { x with serving := .idle, pending := [] }
  { s2 with voice := { s2.voice with table := s2.voice.table.map fun e =>
      { e with recs := e.recs.map fun r => if r.port = p then { r with card := false } else r } } }

theorem State.linkLoss_eq (s : State) (p : Port) : s.linkLoss p =
    if ((s.lost p).berth p).hold then (s.lost p).setHold p false else s.lost p := rfl

theorem State.cutCurrent_frame (s : State) (p : Port) : s.cutCurrent p = { s with voice := (s.cutCurrent p).voice } ∧
    (s.cutCurrent p).voice.voices = s.voice.voices := by
  unfold State.cutCurrent
  split <;> exact ⟨rfl, rfl⟩

theorem State.record?_cutCurrent (s : State) (p : Port) (id : AnnId) : (s.cutCurrent p).record? id p =
    if s.currentId p = some id then (s.record? id p).map (·.fixedTo (.cut .linkLost)) else s.record? id p := by
  unfold State.cutCurrent State.currentId
  split
  · next cur hcur =>
    rw [State.record?_fix, hcur]
    by_cases h : id = cur
    · subst h
      simp
    · rw [if_neg fun hc => h hc.1, if_neg fun hc => h (Option.some.inj hc).symm]
  · next hnone => rw [hnone, if_neg nofun]

/-- What the announcements of a berth come to at a link loss. -/
theorem State.lost_spec (s : State) (p : Port) :
    s.lost p = { s with voice := (s.lost p).voice } ∧
      (s.lost p).berthVoice p = { serving := .idle, pending := [] } ∧
      (∀ q, q ≠ p → (s.lost p).berthVoice q = s.berthVoice q) ∧
      (∀ id r, s.currentId p = some id → s.record? id p = some r → r.role = .inService →
        (s.lost p).record? id p = some { r with role := .fixed (.cut .linkLost), card := false }) ∧
      (∀ x r, x ∈ (s.berthVoice p).pending → s.currentId p ≠ some x.1 → s.record? x.1 p = some r → r.role = .pending →
        (s.lost p).record? x.1 p = some { r with role := .fixed (.declined .unreachable), card := false }) ∧
      (∀ e ∈ (s.lost p).voice.table, ∀ r ∈ e.recs, r.port = p → r.card = false) := by
  obtain ⟨hcut, hcutVoices⟩ := s.cutCurrent_frame p
  obtain ⟨hfix, hfixVoices, hfixRecord⟩ := State.foldl_fix (s.berthVoice p).pending p (.declined .unreachable) (s.cutCurrent p)
  have hrecord : ∀ id, (s.lost p).record? id p =
      (((s.berthVoice p).pending.foldl (fun t x => t.fix x.1 p (.declined .unreachable)) (s.cutCurrent p)).record? id p).map
        fun r => { r with card := false } := fun id => by
    have hentry : (s.lost p).entry? id = (((s.berthVoice p).pending.foldl
        (fun t x => t.fix x.1 p (.declined .unreachable)) (s.cutCurrent p)).entry? id).map fun e =>
          { e with recs := e.recs.map fun r => if r.port = p then { r with card := false } else r } :=
      List.find?_map ..
    rw [State.record?, State.record?, hentry]
    cases State.entry? _ id with
    | none => rfl
    | some e =>
      simp only [Option.map_some, Option.bind_some]
      rw [find_modify BerthRec.port p p (fun r => { r with card := false }) e.recs fun _ => rfl, if_pos rfl]
  have hvoice : ∀ q, (s.lost p).berthVoice q = (((s.berthVoice p).pending.foldl
      (fun t x => t.fix x.1 p (.declined .unreachable)) (s.cutCurrent p)).modVoice p
        fun x => { x with serving := .idle, pending := [] }).berthVoice q := fun _ => rfl
  refine ⟨?_, (hvoice p).trans (State.modVoice_self ..), fun q hq => ?_, fun id r hcur hr hrole => ?_, fun x r hx hcur hr hrole => ?_,
    fun e he r hr hport => ?_⟩
  · have hlost : s.lost p = { (s.berthVoice p).pending.foldl (fun t x => t.fix x.1 p (.declined .unreachable)) (s.cutCurrent p)
        with voice := (s.lost p).voice } := rfl
    rw [hlost, hfix, hcut]
  · rw [hvoice, State.modVoice_get, if_neg hq, State.berthVoice, hfixVoices, hcutVoices]
    rfl
  · rw [hrecord, hfixRecord, State.record?_cutCurrent, if_pos hcur, hr]
    simp only [Option.map_some, BerthRec.fixedTo_of_inService hrole]
    split <;> rfl
  · rw [hrecord, hfixRecord, if_pos (List.mem_map_of_mem hx), State.record?_cutCurrent, if_neg hcur, hr]
    simp only [Option.map_some, BerthRec.fixedTo_of_pending hrole]
  · obtain ⟨e', _, rfl⟩ := List.mem_map.mp he
    obtain ⟨r', _, rfl⟩ := List.mem_map.mp hr
    by_cases hp : r'.port = p
    · simp only [if_pos hp]
    · simp only [if_neg hp] at hport
      exact absurd hport hp

/-- The hold of a berth whose link is not UP and that reports no level is cleared, and nothing else. -/
theorem State.setHold_of_down {s : State} {p : Port} (hdown : s.linkUp p = false) (hreported : (s.berth p).reported = none) :
    (s.setHold p false).links[p] = s.links[p] ∧ (s.setHold p false).berth p = { s.berth p with hold := false } := by
  have hup : (s.modBerth p fun b => { b with hold := false }).linkUp p = false := hdown
  obtain ⟨hlink, hberth⟩ := State.recompute_self (s := s.modBerth p fun b => { b with hold := false }) (p := p)
  refine ⟨hlink.trans (if_neg (by simp [hup])), hberth.trans ?_⟩
  rw [State.modBerth_self, hup, if_neg Bool.false_ne_true, hreported, ite_self, ← hreported]

/-! ## A link that leaves UP -/

/-- A link that has left UP for a state (R151). -/
def Link.left (l : Link) (st : LinkState) : Link :=
  { l with state := st, hold := none, control := [], audio := none, video := [], waiting := [], outstanding := none, upSince := none }

/-- The node when a link has left UP, before the berth's announcements are settled. -/
def State.linkLeft (s : State) (p : Port) (st : LinkState) : State :=
  (s.modLink p fun l => l.left st).modBerth p fun b => { b with headset := false, reported := none }

theorem State.linkLeft_spec (s : State) (p : Port) (st : LinkState) :
    (s.linkLeft p st).links[p] = s.links[p].left st ∧
      (s.linkLeft p st).berth p = { s.berth p with headset := false, reported := none } ∧
      ∀ q, q ≠ p → (s.linkLeft p st).links[q] = s.links[q] ∧ (s.linkLeft p st).berth q = s.berth q :=
  ⟨State.modLink_self s p fun l => l.left st, State.modBerth_self .., fun _ hq =>
    ⟨State.modLink_other s hq fun l => l.left st, State.modBerth_other _ hq _⟩⟩

theorem State.leaveUp_eq (s : State) (p : Port) (st : LinkState) : s.leaveUp p st = (s.linkLeft p st).linkLoss p := rfl

/-- What a link that leaves UP for another state leaves of the node. -/
theorem State.leaveUp_spec (s : State) (p : Port) {st : LinkState} (hst : st ≠ .up) :
    (s.leaveUp p st).links[p] = s.links[p].left st ∧
      (s.leaveUp p st).berth p = { s.berth p with headset := false, hold := false, reported := none } ∧
      (s.leaveUp p st).voice = ((s.linkLeft p st).lost p).voice ∧
      (∀ q, q ≠ p → (s.leaveUp p st).links[q] = s.links[q] ∧ (s.leaveUp p st).berth q = s.berth q ∧
        (s.leaveUp p st).berthVoice q = s.berthVoice q) := by
  obtain ⟨hframe, _, hother, _⟩ := (s.linkLeft p st).lost_spec p
  obtain ⟨hlinkLeft, hberthLeft, hotherLeft⟩ := s.linkLeft_spec p st
  have hlink : ((s.linkLeft p st).lost p).links[p] = s.links[p].left st := by
    rw [hframe]
    exact hlinkLeft
  have hberth : ((s.linkLeft p st).lost p).berth p = { s.berth p with headset := false, reported := none } := by
    rw [hframe]
    exact hberthLeft
  have hrest : ∀ q, q ≠ p → ((s.linkLeft p st).lost p).links[q] = s.links[q] ∧ ((s.linkLeft p st).lost p).berth q = s.berth q ∧
      ((s.linkLeft p st).lost p).berthVoice q = s.berthVoice q := fun q hq => by
    obtain ⟨hl, hb⟩ := hotherLeft q hq
    refine ⟨?_, ?_, hother q hq⟩
    · rw [hframe]
      exact hl
    · rw [hframe]
      exact hb
  rw [State.leaveUp_eq, State.linkLoss_eq, hberth]
  split
  · next hhold =>
    have hdown : ((s.linkLeft p st).lost p).linkUp p = false := by
      rw [State.linkUp, hlink]
      exact beq_eq_false_iff_ne.mpr hst
    obtain ⟨hlink', hberth'⟩ := State.setHold_of_down hdown (by rw [hberth])
    have hport := State.setHold_atPort ((s.linkLeft p st).lost p) p false
    refine ⟨hlink'.trans hlink, by rw [hberth', hberth], by rw [State.setHold, State.recompute_eq]; rfl, fun q hq => ?_⟩
    rw [hport.link q hq, hport.berth q hq, hport.voice q hq]
    exact hrest q hq
  · next hhold =>
    refine ⟨hlink, hberth.trans ?_, rfl, hrest⟩
    rw [← (Bool.eq_false_iff.mpr hhold : (s.berth p).hold = false)]

/-- A link that has left UP, as the statements say it: whatever becomes of the link then leaves its queues empty. -/
theorem leftUp_of_leaveUp {s t : State} {p : Port} {st : LinkState} (hst : st ≠ .up)
    (hlink : t.links[p].hold = none ∧ t.links[p].control = [] ∧ t.links[p].audio = none ∧ t.links[p].video = [] ∧
      t.links[p].waiting = [] ∧ t.links[p].outstanding = none ∧ t.links[p].upSince = none)
    (hberths : t.berths = (s.leaveUp p st).berths) (hvoice : t.voice = (s.leaveUp p st).voice) : leftUp s t p := by
  obtain ⟨_, hberth, hlost, _⟩ := s.leaveUp_spec p hst
  obtain ⟨_, hidle, _, hcurrent, hpending, hcards⟩ := (s.linkLeft p st).lost_spec p
  rw [hlost] at hvoice
  have hrecord : ∀ id, t.record? id p = ((s.linkLeft p st).lost p).record? id p := fun id =>
    State.record?_congr (congrArg VoiceArb.table hvoice) id p
  obtain ⟨hhold, hcontrol, haudio, hvideo, hwaiting, houtstanding, hsince⟩ := hlink
  refine ⟨hhold, hcontrol, haudio, hvideo, hwaiting, houtstanding, hsince, ?_, ?_, fun id r hcur hr hrole => ?_,
    fun x r hx hcur hr hrole => ?_, ?_⟩
  · rw [State.berth, hberths]
    exact hberth
  · rw [State.berthVoice, hvoice]
    exact hidle
  · exact (hrecord id).trans (hcurrent id r hcur hr hrole)
  · exact (hrecord x.1).trans (hpending x r hx hcur hr hrole)
  · rw [hvoice]
    exact hcards

/-- Settles O47. -/
theorem linkLossSettlesTheBerth : Obligations.LinkLossSettlesTheBerth := by
  intro s p t0 hup hgood
  have hexec : exec (.statusWatchExpiry p) s = .next (((s.reach (t0 + ms 100)).leaveUp p .down).modLink p fun x =>
      { x with goodCount := 0, holdOff := none, counters := { x.counters with linkLoss := bump x.counters.linkLoss } }) := by
    change execStatusWatchExpiry p s = _
    simp only [execStatusWatchExpiry, hup, hgood]
  obtain ⟨hlink, _, _, hother⟩ := (s.reach (t0 + ms 100)).leaveUp_spec p (st := .down) nofun
  have honly := (s.reach (t0 + ms 100)).leaveUp_only p .down
  refine ⟨_, hexec, honly.now rfl, ?_⟩
  have hself : (((s.reach (t0 + ms 100)).leaveUp p .down).modLink p fun x =>
      { x with goodCount := 0, holdOff := none, counters := { x.counters with linkLoss := bump x.counters.linkLoss } }).links[p] =
      { s.links[p].left .down with
        goodCount := 0, holdOff := none,
        counters := { s.links[p].counters with linkLoss := bump s.links[p].counters.linkLoss } } := by
    rw [State.modLink_self, hlink]
    rfl
  rw [hself]
  refine ⟨rfl, rfl, rfl, rfl, rfl, rfl, ?_, fun q hq => ?_, ?_⟩
  · exact leftUp_of_leaveUp (s := s.reach (t0 + ms 100)) (st := .down) nofun (by rw [hself]; exact ⟨rfl, rfl, rfl, rfl, rfl, rfl, rfl⟩)
      rfl rfl
  · obtain ⟨hlink, hberth, hvoice⟩ := hother q hq
    exact ⟨hberth, (State.modLink_other _ hq _).trans hlink, hvoice⟩
  · have heq := honly.eq
    generalize State.leaveUp _ p .down = v at heq
    rw [heq]
    rfl

/-! ## UNIT_RESET -/

/-- A UNIT_RESET at a link changes the frame in progress, the UNIT_RESETs that wait and the count of CUT frames alone. -/
theorem Link.sendReset_frame (l : Link) : l.sendReset =
    { l with sending := l.sendReset.sending, resets := l.sendReset.resets, cuts := l.sendReset.cuts } := by
  obtain ⟨f, r, hr⟩ : ∃ f r, l.resets ++ [SeatFrame.unitReset] = f :: r := List.exists_cons_of_length_pos (by simp)
  have hcut := Link.cutVideo_frame { l with resets := l.resets ++ [.unitReset] }
  rw [Link.sendReset]
  cases hs : (Link.cutVideo { l with resets := l.resets ++ [.unitReset] }).sending with
  | some g =>
    rw [Link.kick_busy _ (by rw [hs]; rfl), hcut]
  | none =>
    rw [Link.kick_reset _ f r hs (by rw [hcut]; exact hr), hcut]

theorem unitResetFollows_sendReset {l x : Link} (hsending : x.sending = l.sending) (hresets : x.resets = l.resets)
    (hcuts : x.cuts = l.cuts) : unitResetFollows l x.sendReset := by
  obtain ⟨f, r, hr⟩ : ∃ f r, l.resets ++ [SeatFrame.unitReset] = f :: r := List.exists_cons_of_length_pos (by simp)
  have hy : Link.sendReset x = Link.kick (Link.cutVideo { x with resets := x.resets ++ [.unitReset] }) := rfl
  generalize hxy : ({ x with resets := x.resets ++ [.unitReset] } : Link) = y at hy
  have hysending : y.sending = l.sending := by rw [← hxy]; exact hsending
  have hyresets : y.resets = f :: r := by rw [← hxy, ← hr, ← hresets]
  have hycuts : y.cuts = l.cuts := by rw [← hxy]; exact hcuts
  rw [unitResetFollows, hr, hy]
  refine ⟨fun h => ?_, fun v h => ?_, fun g h hg => ?_⟩
  · rw [Link.cutVideo_other _ fun c => by rw [hysending, h]; exact nofun, Link.kick_reset _ f r (hysending.trans h) hyresets]
    exact ⟨rfl, rfl, hycuts⟩
  · rw [Link.cutVideo_video _ v (hysending.trans h), Link.kick_reset { y with sending := none, cuts := y.cuts + 1 } f r rfl hyresets]
    exact ⟨rfl, rfl, congrArg (· + 1) hycuts⟩
  · rw [Link.cutVideo_other _ fun c hc => hg c (Option.some.inj (h.symm.trans (hysending.symm.trans hc))),
      Link.kick_busy _ (by rw [hysending, h]; rfl)]
    exact ⟨hysending.trans h, hyresets, hycuts⟩

/-- A free transmitter takes the head of the video queue of an UP link without a hold, with nothing else to send. -/
theorem Link.kick_video {l : Link} {c : Chunk} {r : List Chunk} (hsending : l.sending = none) (hresets : l.resets = [])
    (hup : l.state = .up) (hcontrol : l.control = []) (haudio : l.audio = none) (hhold : l.hold = none) (hvideo : l.video = c :: r) :
    l.kick = { l with sending := some (.video c), video := r } := by
  simp [Link.kick, hsending, hresets, hup, hcontrol, haudio, hhold, hvideo]

/-! ## Faults and the end of a hold-off -/

/-- A link at the end of its hold-off (R153, R155). -/
def Link.heldOff (l : Link) : Link :=
  match l.state with
  | .fault =>
    if l.locking then { l with state := .locked, holdOff := none }
    else { l with state := .down, goodCount := 0, lastGood := none, holdOff := none }
  | _ => { l with holdOff := none }

/-- The link after a fault (R153). -/
def Link.faulted (l : Link) (now : Time) : Link :=
  let recent := l.faults.filter fun t => decide (now < t + sec 60)
  Link.sendReset { l.left .fault with
    faults := (recent ++ [now]).drop ((recent ++ [now]).length - 2), locking := decide (2 ≤ recent.length),
    holdOff := some (now + ms 500), counters := { l.counters with fault := bump l.counters.fault } }

theorem Link.heldOff_of_fault {l : Link} (h : l.state = .fault) : l.heldOff =
    { l with state := if l.locking then .locked else .down, goodCount := if l.locking then l.goodCount else 0,
             lastGood := if l.locking then l.lastGood else none, holdOff := none } := by
  cases hlocking : l.locking <;> simp [Link.heldOff, h, hlocking]

theorem Link.heldOff_of_down {l : Link} (h : l.state = .down) : l.heldOff = { l with holdOff := none } := by
  simp [Link.heldOff, h]

theorem State.fault_link (s : State) (p : Port) : (s.fault p).links[p] = s.links[p].faulted s.now := by
  obtain ⟨hlink, _⟩ := s.leaveUp_spec p (st := .fault) nofun
  rw [State.fault]
  dsimp only
  rw [State.modLink_self, hlink]
  rfl

/-- The last two of a list with a last. -/
theorem last_two {α : Type} (l : List α) (x : α) :
    ((l ++ [x]).drop ((l ++ [x]).length - 2)).length ≤ 2 ∧ ((l ++ [x]).drop ((l ++ [x]).length - 2)).getLast? = some x := by
  rw [List.length_append, List.length_singleton]
  refine ⟨by rw [List.length_drop, List.length_append, List.length_singleton]; omega, ?_⟩
  rw [List.drop_append_of_le_length (by omega)]
  simp

/-- Settles O48. -/
theorem holdFaultsTheLink : Obligations.HoldFaultsTheLink := by
  intro s p
  refine ⟨fun h => ⟨?_, ?_⟩, fun t0 hup hhold => ?_, fun t0 hoff => ?_⟩
  · refine ⟨_, if_pos h, rfl, ?_, fun q hq => State.modLink_other _ hq _⟩
    rw [State.modLink_self]
    cases hhold : s.links[p].hold with
    | none => rw [if_pos rfl]; rfl
    | some t =>
      rw [if_neg nofun]
      change s.links[p] = { s.links[p] with hold := some t }
      rw [← hhold]
  · have hup := linkRuns_and_linkUp h
    have hself : (s.modLink p fun l => Link.kick { l with hold := none }).links[p] = Link.kick { s.links[p] with hold := none } :=
      State.modLink_self ..
    refine ⟨s.modLink p fun l => Link.kick { l with hold := none }, if_pos h, rfl, ?_, ?_, fun q hq => State.modLink_other _ hq _,
      fun hsending hresets hcontrol haudio c r hvideo => ?_⟩
    · rw [hself, Link.kick_frame]
    · rw [hself, Link.kick_frame]
      exact hup
    · rw [hself, Link.kick_video (l := { s.links[p] with hold := none }) hsending hresets hup hcontrol haudio rfl hvideo]
      exact ⟨rfl, rfl⟩
  · have hexec : exec (.linkFault p) s = .next ((s.reach (t0 + ms 50)).fault p) := by
      change execLinkFault p s = _
      simp only [execLinkFault, hup, hhold]
    have hself : ((s.reach (t0 + ms 50)).fault p).links[p] = s.links[p].faulted (max s.now (t0 + ms 50)) := State.fault_link ..
    have hreset := fun x : Link => x.sendReset_frame
    obtain ⟨_, _, _, hother⟩ := (s.reach (t0 + ms 50)).leaveUp_spec p (st := .fault) nofun
    have hnow : ((s.reach (t0 + ms 50)).fault p).now = max s.now (t0 + ms 50) := (State.fault_only _ p).now rfl
    obtain ⟨hlength, hlast⟩ := last_two (s.links[p].faults.filter fun t => decide (max s.now (t0 + ms 50) < t + sec 60))
      (max s.now (t0 + ms 50))
    refine ⟨_, hexec, hnow, ?_⟩
    rw [hself, hnow]
    refine ⟨?_, ?_, ?_, ?_, ?_, ?_, unitResetFollows_sendReset rfl rfl rfl, ?_, fun q hq => ?_, ?_⟩
    · rw [Link.faulted, hreset]; rfl
    · rw [Link.faulted, hreset]
    · rw [Link.faulted, hreset]
    · rw [Link.faulted, hreset]
      exact hlength
    · rw [Link.faulted, hreset]
      exact hlast
    · rw [Link.faulted, hreset]
    · refine leftUp_of_leaveUp (s := s.reach (t0 + ms 50)) (st := .fault) nofun ?_ rfl rfl
      rw [hself, Link.faulted, hreset]
      exact ⟨rfl, rfl, rfl, rfl, rfl, rfl, rfl⟩
    · obtain ⟨hlink, hberth, hvoice⟩ := hother q hq
      exact ⟨(State.modLink_other _ hq _).trans hlink, hberth, hvoice⟩
    · have heq := ((s.reach (t0 + ms 50)).fault_only p).eq
      generalize State.fault _ p = v at heq
      rw [heq]
      rfl
  · have hexec : exec (.holdOffEnd p) s = .next ((s.reach t0).modLink p Link.heldOff) := by
      change execHoldOffEnd p s = _
      simp only [execHoldOffEnd, hoff]
      rfl
    have hself : ((s.reach t0).modLink p Link.heldOff).links[p] = s.links[p].heldOff := State.modLink_self ..
    refine ⟨_, hexec, rfl, ?_, fun hfault => ?_, fun hdown => ?_, fun q hq => State.modLink_other _ hq _⟩
    · rw [hself, Link.heldOff]
      split
      · split <;> rfl
      · rfl
    · rw [hself, Link.heldOff_of_fault hfault]
    · rw [hself, Link.heldOff_of_down hdown]

/-! ## BERTH_RESET -/

theorem State.portOf_eq {s : State} {p : Port} {n : Nat} (hp : portNumber p = n) (hn : n ≤ s.image.berthCount) :
    s.portOf n = some p := by
  have hlt := p.isLt
  have hval : p.val + 1 = n := hp
  subst hval
  rw [State.portOf, dif_pos ⟨by omega, by omega⟩, if_pos hn]
  rfl

theorem State.portOf_of_bad {s : State} {n : Nat} (h : n = 0 ∨ s.image.berthCount < n) : s.portOf n = none := by
  unfold State.portOf
  split
  · next hr => rw [if_neg (by omega)]
  · rfl

/-- The link after a BERTH_RESET (R155). -/
def Link.reset (l : Link) (now : Time) : Link :=
  Link.sendReset { l with state := .down, goodCount := 0, lastGood := none, holdOff := some (now + ms 500), faults := [], locking := false }

/-- What a BERTH_RESET leaves of the node (R155). -/
theorem State.resetLink_spec (s : State) (p : Port) :
    (∃ l, (s.resetLink p).links[p] = Link.reset l s.now ∧ l.sending = s.links[p].sending ∧ l.resets = s.links[p].resets ∧
      l.cuts = s.links[p].cuts ∧ (s.linkUp p = true → l = s.links[p].left .down)) ∧
      (∀ q, q ≠ p → (s.resetLink p).links[q] = s.links[q] ∧ (s.resetLink p).berth q = s.berth q ∧
        (s.resetLink p).berthVoice q = s.berthVoice q) ∧
      (s.linkUp p = true → (s.resetLink p).berths = (s.leaveUp p .down).berths ∧
        (s.resetLink p).voice = (s.leaveUp p .down).voice) := by
  cases hup : s.linkUp p with
  | false =>
    have heq : s.resetLink p = s.modLink p fun l => l.reset s.now := by
      rw [State.resetLink, hup]
      rfl
    rw [heq]
    refine ⟨⟨s.links[p], State.modLink_self .., rfl, rfl, rfl, fun h => absurd h nofun⟩, fun q hq =>
      ⟨State.modLink_other _ hq _, rfl, rfl⟩, fun h => absurd h nofun⟩
  | true =>
    have heq : s.resetLink p = (s.leaveUp p .down).modLink p fun l => l.reset s.now := by
      rw [State.resetLink, hup]
      rfl
    obtain ⟨hlink, _, _, hother⟩ := s.leaveUp_spec p (st := .down) nofun
    rw [heq]
    refine ⟨⟨s.links[p].left .down, ?_, rfl, rfl, rfl, fun _ => rfl⟩, fun q hq => ?_, fun _ => ⟨rfl, rfl⟩⟩
    · rw [State.modLink_self, hlink]
    · obtain ⟨hl, hb, hv⟩ := hother q hq
      exact ⟨(State.modLink_other _ hq _).trans hl, hb, hv⟩

/-- Settles O18. -/
theorem berthResetRequest : Obligations.BerthResetRequest := by
  intro s source port hsource hrun
  refine ⟨(s.heard source).serveBerthReset port, exec_own_request (k := .berthReset) (argument := port) hsource hrun rfl
    fun hrun => if_pos ⟨hrun, rfl⟩, fun hbad => ?_, fun p hp hport => ?_⟩
  · have hserve : (s.heard source).serveBerthReset port = ((s.heard source).reply .berthReset .badPort .none).1 := by
      rw [State.serveBerthReset, State.portOf_of_bad (s := s.heard source) hbad]
    rw [hserve]
    refine ⟨?_, queuedC_reply (u := s.heard source) hrun rfl rfl _ _ _⟩
    rw [State.reply_of_running (by exact hrun)]
    rfl
  · have hserve : (s.heard source).serveBerthReset port = (((s.heard source).resetLink p).reply .berthReset .accepted .none).1 := by
      rw [State.serveBerthReset, State.portOf_eq (s := s.heard source) hp hport]
    obtain ⟨⟨l, hlink, hsending, hresets, hcuts, hleft⟩, hother, hsettled⟩ := (s.heard source).resetLink_spec p
    have honly := ((s.heard source).resetLink_only p).eq
    have hrun' : ((s.heard source).resetLink p).running = true := by
      rw [State.running, ((s.heard source).resetLink_only p).startup rfl]
      exact hrun
    have hreply := State.reply_of_running hrun' .berthReset .accepted .none
    have hqueued := queuedC_reply (s := s) (source := source) (u := (s.heard source).resetLink p) hrun'
      (((s.heard source).resetLink_only p).trunk rfl) (((s.heard source).resetLink_only p).startup rfl) .berthReset .accepted .none
    rw [hserve]
    generalize (State.reply _ .berthReset .accepted .none).1 = t at hreply hqueued
    have hself : t.links[p] = Link.reset l s.now := by
      rw [hreply]
      exact hlink
    have hframe := Link.sendReset_frame
      { l with state := .down, goodCount := 0, lastGood := none, holdOff := some (s.now + ms 500), faults := [], locking := false }
    change Link.reset l s.now = _ at hframe
    refine ⟨by rw [hself, hframe], by rw [hself, hframe], by rw [hself, hframe], by rw [hself, hframe], by rw [hself, hframe],
      by rw [hself, hframe], ?_, fun hup => ?_, fun q hq => ?_, ?_, hqueued⟩
    · rw [hself]
      exact unitResetFollows_sendReset hsending hresets hcuts
    · have hup' : (s.heard source).linkUp p = true := beq_iff_eq.mpr hup
      obtain ⟨hberths, hvoice⟩ := hsettled hup'
      refine leftUp_of_leaveUp (s := s.heard source) (st := .down) nofun ?_ (by rw [hreply]; exact hberths)
        (by rw [hreply]; exact hvoice)
      rw [hself, hframe, hleft hup']
      exact ⟨rfl, rfl, rfl, rfl, rfl, rfl, rfl⟩
    · rw [hreply]
      exact hother q hq
    · rw [hreply]
      generalize State.resetLink _ p = v at honly
      rw [honly]
      rfl

end Sys2Proof.Machine
end

section
/-! A SPEECH packet of a held entry: O42. -/

namespace Sys2Proof.Machine

/-! ## Blocks in an entry's queue -/

/-- A block that comes behind playout or is queued already (R110). -/
def Entry.isLate (e : Entry) (i : Seq) : Prop :=
  (∃ n, e.playout = .started n ∧ i.toNat < n) ∨ ∃ b ∈ e.queue, b.index = i

/-- The place of a block: behind those of a lower index (R110). -/
def Entry.joined (e : Entry) (b : SpeechBlock) : List SpeechBlock :=
  insertBefore (fun x y => decide (x.index.toNat < y.index.toNat)) b e.queue

section
variable {e : Entry} {b : SpeechBlock}

theorem Entry.joined_length : (e.joined b).length = e.queue.length + 1 := insertBefore_length ..

/-- A block that is not queued goes behind the blocks of a lower index. -/
theorem Entry.joined_eq (h : ¬e.isLate b.index) :
    e.joined b = e.queue.takeWhile (fun x => decide (x.index.toNat < b.index.toNat)) ++
      b :: e.queue.dropWhile fun x => decide (x.index.toNat < b.index.toNat) := by
  have hkey : ∀ x ∈ e.queue, (!decide (b.index.toNat < x.index.toNat)) = decide (x.index.toNat < b.index.toNat) := fun x hx => by
    have hne : x.index.toNat ≠ b.index.toNat := fun hc => h (.inr ⟨x, hx, BitVec.eq_of_toNat_eq hc⟩)
    rw [Bool.eq_iff_iff, Bool.not_eq_true', decide_eq_false_iff_not, decide_eq_true_iff]
    omega
  have htake : ∀ (f g : SpeechBlock → Bool) (l : List SpeechBlock), (∀ x ∈ l, f x = g x) →
      l.takeWhile f = l.takeWhile g ∧ l.dropWhile f = l.dropWhile g := fun f g l hfg => by
    induction l with
    | nil => exact ⟨rfl, rfl⟩
    | cons x l ih =>
      obtain ⟨ht, hd⟩ := ih fun y hy => hfg y (List.mem_cons_of_mem _ hy)
      rw [List.takeWhile_cons, List.takeWhile_cons, List.dropWhile_cons, List.dropWhile_cons, hfg x List.mem_cons_self, ht, hd]
      exact ⟨rfl, rfl⟩
  obtain ⟨ht, hd⟩ := htake _ _ _ hkey
  rw [Entry.joined, insertBefore_eq, ht, hd]

theorem Entry.joined_pairwise (h : ¬e.isLate b.index) (hq : e.queue.Pairwise fun x y => x.index.toNat < y.index.toNat) :
    (e.joined b).Pairwise fun x y => x.index.toNat < y.index.toNat :=
  pairwise_insert_of_key (fun x : SpeechBlock => x.index.toNat)
    (fun x hx hc => h (.inr ⟨x, hx, BitVec.eq_of_toNat_eq hc⟩)) hq

theorem Entry.place_of_late (h : e.isLate b.index) : e.place b = (e, .late) := by
  unfold Entry.place
  obtain ⟨n, hplayout, hlt⟩ | ⟨x, hx, hindex⟩ := h
  · simp [hplayout, hlt]
  · have hany : (e.queue.any fun q => q.index == b.index) = true := List.any_eq_true.mpr ⟨x, hx, beq_iff_eq.mpr hindex⟩
    simp [hany]

/-- A block that is not late joins the queue, which keeps its last eight (R110). -/
theorem Entry.place_of_not_late (h : ¬e.isLate b.index) : e.place b =
    if 8 < (e.joined b).length then ({ e with queue := (e.joined b).tail }, .overflow) else ({ e with queue := e.joined b }, .kept) := by
  have hany : (e.queue.any fun q => q.index == b.index) = false := by
    rw [List.any_eq_false]
    exact fun x hx hc => h (.inr ⟨x, hx, beq_iff_eq.mp hc⟩)
  have hbehind : ∀ n, e.playout = .started n → ¬b.index.toNat < n := fun n hn hc => h (.inl ⟨n, hn, hc⟩)
  unfold Entry.place
  cases hplayout : e.playout with
  | notStarted => simp [hany, Entry.joined]
  | started n => simp [hany, Entry.joined, hbehind n hplayout]

theorem Entry.place_frame (e : Entry) (b : SpeechBlock) : (e.place b).1 = { e with queue := (e.place b).1.queue } := by
  by_cases h : e.isLate b.index
  · rw [Entry.place_of_late h]
  · rw [Entry.place_of_not_late h]
    split <;> rfl

/-- What a block does to an entry does not turn on the entry's state. -/
theorem Entry.place_with_state (e : Entry) (st : EntryState) (b : SpeechBlock) :
    Entry.place { e with state := st } b = ({ (e.place b).1 with state := st }, (e.place b).2) := by
  by_cases h : e.isLate b.index
  · rw [Entry.place_of_late h, Entry.place_of_late (e := { e with state := st }) h]
  · rw [Entry.place_of_not_late h, Entry.place_of_not_late (e := { e with state := st }) h]
    have hjoined : Entry.joined { e with state := st } b = e.joined b := rfl
    rw [hjoined]
    split <;> rfl

end

/-! ## The voices -/

/-- A change of several voices. -/
theorem State.foldl_modVoice (l : List Port) (hl : l.Nodup) (f : Voice → Voice) (s : State) :
    (l.foldl (fun u p => u.modVoice p f) s) =
      { s with voice := { s.voice with voices := (l.foldl (fun u p => u.modVoice p f) s).voice.voices } } ∧
      ∀ p : Port, (l.foldl (fun u p => u.modVoice p f) s).berthVoice p = if p ∈ l then f (s.berthVoice p) else s.berthVoice p := by
  induction l generalizing s with
  | nil => exact ⟨rfl, fun _ => rfl⟩
  | cons q l ih =>
    rw [List.nodup_cons] at hl
    obtain ⟨hq, hl⟩ := hl
    obtain ⟨heq, hvoices⟩ := ih hl (s.modVoice q f)
    rw [List.foldl_cons]
    refine ⟨?_, fun p => ?_⟩
    · generalize List.foldl _ (s.modVoice q f) l = v at heq
      rw [heq]
      rfl
    · rw [hvoices, State.modVoice_get]
      by_cases hp : p = q
      · subst hp
        simp [hq]
      · simp [hp]

/-- A voice that chimes for an announcement speaks (R109). -/
def Voice.spoken (id : AnnId) (v : Voice) : Voice := if v.serving = .chime id then { v with serving := .speaking id } else v

theorem Voice.spoken_other {id : AnnId} {v : Voice} (h : v.serving ≠ .chime id) : v.spoken id = v := if_neg h

theorem State.enterSpeech_eq (s : State) (id : AnnId) : s.enterSpeech id =
    allPorts.foldl (fun u p => u.modVoice p (Voice.spoken id)) (s.modEntry id fun e => { e with state := .speech }) := rfl

theorem State.enterSpeech_berthVoice (s : State) (id : AnnId) (p : Port) :
    (s.enterSpeech id).berthVoice p = (s.berthVoice p).spoken id := by
  obtain ⟨_, hvoices⟩ := State.foldl_modVoice allPorts (List.nodup_finRange 12) (Voice.spoken id)
    (s.modEntry id fun e => { e with state := .speech })
  rw [State.enterSpeech_eq, hvoices]
  exact if_pos (List.mem_finRange p)

theorem State.enterSpeech_frame (s : State) (id : AnnId) : s.enterSpeech id = { s with voice := { s.voice with
    table := (s.modEntry id fun e => { e with state := .speech }).voice.table,
    voices := (s.enterSpeech id).voice.voices } } := by
  obtain ⟨heq, _⟩ := State.foldl_modVoice allPorts (List.nodup_finRange 12) (Voice.spoken id)
    (s.modEntry id fun e => { e with state := .speech })
  rw [← State.enterSpeech_eq] at heq
  exact heq

/-! ## The packet -/

/-- The counters of a placed block (R110). -/
def VoiceArb.countPlaced (v : VoiceArb) : Placed → VoiceArb
  | .late => { v with late := bump v.late }
  | .overflow => { v with overflow := bump v.overflow }
  | .kept => v

/-- An entry and the voices after a SPEECH packet of it (R108 to R110). -/
theorem State.takeSpeech_spec {s : State} {e : Entry} (he : s.entry? e.desc.id = some e) (b : SpeechBlock) :
    (s.takeSpeech e b).entry? e.desc.id = some { (e.place b).1 with state := .speech, lastPacket := s.now } ∧
    (∀ p, (s.takeSpeech e b).berthVoice p =
      if e.state = .leadIn then (s.berthVoice p).spoken e.desc.id else s.berthVoice p) ∧
    s.takeSpeech e b = { s with voice := VoiceArb.countPlaced { s.voice with
      table := (s.takeSpeech e b).voice.table, voices := (s.takeSpeech e b).voice.voices } (e.place b).2 } := by
  generalize hs1 : (if e.state = .leadIn then s.enterSpeech e.desc.id else s) = s1
  have hentry : s1.entry? e.desc.id = some { e with state := .speech } := by
    rw [← hs1]
    split
    · have hcongr := State.entry?_congr (t := s.enterSpeech e.desc.id) (s := s.modEntry e.desc.id fun x => { x with state := .speech })
        (by rw [s.enterSpeech_frame e.desc.id]) e.desc.id
      rw [hcongr, State.entry?_modEntry (f := fun x => { x with state := .speech }) _ _ _ fun _ => rfl, if_pos rfl, he]
      rfl
    · next h =>
      have hspeech : e.state = .speech := by
        cases hst : e.state with
        | leadIn => exact absurd hst h
        | speech => rfl
      rw [he, ← hspeech]
  have hvoices : ∀ p, s1.berthVoice p = if e.state = .leadIn then (s.berthVoice p).spoken e.desc.id else s.berthVoice p :=
    fun p => by
    rw [← hs1]
    split
    · exact s.enterSpeech_berthVoice _ p
    · rfl
  have hframe : s1 = { s with voice := { s.voice with table := s1.voice.table, voices := s1.voice.voices } } := by
    rw [← hs1]
    split
    · rw [s.enterSpeech_frame e.desc.id]
    · rfl
  generalize hs2 : (s1.modEntry e.desc.id fun x => { (x.place b).1 with lastPacket := s.now }) = s2
  have heq : s.takeSpeech e b = { s2 with voice := s2.voice.countPlaced (e.place b).2 } := by
    rw [← hs2, ← hs1, State.takeSpeech]
    generalize e.place b = placed
    obtain ⟨_, what⟩ := placed
    cases what <;> rfl
  have hkept : ∀ w : Placed, (s2.voice.countPlaced w).table = s2.voice.table ∧ (s2.voice.countPlaced w).voices = s1.voice.voices :=
    fun w => by
    rw [← hs2]
    cases w <;> exact ⟨rfl, rfl⟩
  obtain ⟨htable, hkeptVoices⟩ := hkept (e.place b).2
  refine ⟨?_, fun p => ?_, ?_⟩
  · rw [heq, State.entry?_congr (s := s2) htable, ← hs2, State.entry?_modEntry _ _ _ fun x => by rw [Entry.place_frame], if_pos rfl,
      hentry, Option.map_some, Entry.place_with_state]
  · rw [← hvoices, State.berthVoice, State.berthVoice, heq, hkeptVoices]
  · have hcounted : s2 = { s with voice := { s.voice with table := s2.voice.table, voices := s1.voice.voices } } := by
      rw [← hs2]
      simp only [State.modEntry]
      generalize s1.voice.table = table at *
      generalize s1.voice.voices = voices at *
      rw [hframe]
    rw [heq, htable, hkeptVoices]
    generalize s2.voice.table = table at *
    rw [hcounted]

/-- Settles O42, by the place that the block takes. -/
theorem speechIsTaken : Obligations.SpeechIsTaken := by
  unfold Obligations.SpeechIsTaken
  intro s source d e i l hsource hrun hbody hopen he late
  have hid : e.desc.id = d.id := State.entry?_id he
  generalize hb : ({ index := i, samples := l } : SpeechBlock) = b
  have hi : b.index = i := by rw [← hb]
  have hlate : late ↔ e.isLate b.index := by rw [hi]; rfl
  have hreceived : exec (.announceSpeech source d i l) s = .next ((s.heard source).takeAnnounce d (.speech i l)) :=
    congrArg Host.Outcome.next (State.receive_of_takesFrom (b := .announce d (.speech i l)) hsource hbody)
  have hentry : (s.heard source).entry? d.id = some e := he
  have htakes : (s.heard source).takeAnnounce d (.speech i l) = (s.heard source).takeSpeech e b := by
    have hrun' : (s.heard source).running = true := hrun
    have hopen' : d.id ∉ (s.heard source).voice.closed := hopen
    unfold State.takeAnnounce
    rw [if_pos hrun', if_neg hopen', hentry, ← hb]
  obtain ⟨htaken, hvoices, hframe⟩ := State.takeSpeech_spec (s := s.heard source) (e := e) (by rw [hid]; exact he) b
  rw [htakes] at hreceived
  generalize (s.heard source).takeSpeech e b = t at *
  have hplace := e.place_frame b
  refine ⟨t, _, hreceived, ?_, by rw [← hid]; exact htaken, ?_, ?_, ?_, rfl, rfl, fun p hlead hchime => ?_, fun p hno => ?_,
    fun h => ?_, ?_⟩
  · rw [hframe]
    rfl
  · rw [hplace]
  · rw [hplace]
  · rw [hplace]
  · rw [hvoices, if_pos hlead, hid]
    exact congrArg Voice.serving (if_pos hchime)
  · rw [hvoices]
    split
    · rw [hid]
      exact Voice.spoken_other hno
    · rfl
  · have hplaced := Entry.place_of_late (hlate.mp h)
    exact ⟨by rw [hplaced], by rw [hframe, hplaced]; rfl⟩
  · intro below joined inOrder
    have hjoined : ¬late → e.joined b = joined := fun h => by
      rw [Entry.joined_eq (mt hlate.mpr h), hi]
    have hlength := Entry.joined_length (e := e) (b := b)
    have hroom : ¬late → e.queue.length < 8 → e.place b = ({ e with queue := e.joined b }, .kept) := fun h hlt =>
      (Entry.place_of_not_late (mt hlate.mpr h)).trans (if_neg (by omega))
    have hfull : ¬late → e.queue.length = 8 → e.place b = ({ e with queue := (e.joined b).tail }, .overflow) := fun h heq =>
      (Entry.place_of_not_late (mt hlate.mpr h)).trans (if_pos (by omega))
    refine ⟨fun h hpair => ?_, fun h => ?_, fun h hlt => ⟨?_, ?_⟩, fun h heq => ⟨?_, ?_⟩⟩
    · rw [← hjoined h]
      exact Entry.joined_pairwise (mt hlate.mpr h) hpair
    · have hplaced := Entry.place_of_not_late (mt hlate.mpr h)
      rw [hframe, hplaced]
      split <;> rfl
    · rw [hroom h hlt, hjoined h]
    · rw [hframe, hroom h hlt]
      rfl
    · rw [hfull h heq, hjoined h]
    · rw [hframe, hfull h heq]
      rfl

end Sys2Proof.Machine
end

section
/-! A block event: O59. -/

namespace Sys2Proof.Machine

/-! ## The answers of the taps and entries -/

theorem Tap.request_of_not_playing {x : Tap} (h : x.state ≠ .playing) : x.request = (x, .none) := by
  unfold Tap.request
  split
  · next hs _ _ => exact absurd hs h
  · next hs _ _ => exact absurd hs h
  · next hs _ => exact absurd hs h
  · rfl

theorem Tap.request_of_empty {x : Tap} (hs : x.state = .playing) (hq : x.queue = []) :
    x.request = ({ x with state := .starved }, .none) := by
  rw [Tap.request, hs, hq]

theorem Tap.request_of_expected {x : Tap} {k : AudioPacket} {r : List AudioPacket} {e : Seq} (hs : x.state = .playing)
    (hq : x.queue = k :: r) (he : x.expected = some e) : x.request =
      if k.sequence = e then ({ x with queue := r, expected := some (e + 1) }, .block k.trim k.frames)
      else ({ x with expected := some (e + 1) }, .missing) := by
  rw [Tap.request, hs, hq, he]

theorem Tap.request_of_none {x : Tap} {k : AudioPacket} {r : List AudioPacket} (hs : x.state = .playing)
    (hq : x.queue = k :: r) (he : x.expected = none) :
    x.request = ({ x with queue := r, expected := some (k.sequence + 1) }, .block k.trim k.frames) := by
  rw [Tap.request, hs, hq, he]

/-- The ways in which a tap answers (R58). -/
theorem Tap.request_cases (x : Tap) : (x.state ≠ .playing ∧ x.request = (x, .none)) ∨
    (x.state = .playing ∧ x.queue = [] ∧ x.request = ({ x with state := .starved }, .none)) ∨
    (x.state = .playing ∧ x.queue ≠ [] ∧ x.request.1.program = x.program ∧ x.request.1.state = .playing ∧ x.request.2 ≠ .none) := by
  by_cases hs : x.state = .playing
  · by_cases hempty : x.queue = []
    · exact .inr (.inl ⟨hs, hempty, Tap.request_of_empty hs hempty⟩)
    · refine .inr (.inr ⟨hs, hempty, ?_⟩)
      obtain ⟨k, r, hq⟩ := List.exists_cons_of_ne_nil hempty
      cases he : x.expected with
      | none =>
        rw [Tap.request_of_none hs hq he]
        exact ⟨rfl, hs, nofun⟩
      | some e =>
        rw [Tap.request_of_expected hs hq he]
        split
        · exact ⟨rfl, hs, nofun⟩
        · exact ⟨rfl, hs, nofun⟩
  · exact .inl ⟨hs, Tap.request_of_not_playing hs⟩

theorem Tap.request_program (x : Tap) : x.request.1.program = x.program := by
  obtain ⟨_, h⟩ | ⟨_, _, h⟩ | ⟨_, _, h, _⟩ := x.request_cases
  · rw [h]
  · rw [h]
  · exact h

/-- The counters of a tap's answer (R58, R62). -/
theorem Tap.countAnswer_request (x : Tap) (c : TapCtl) :
    c.countAnswer (x.state == .playing && x.request.1.state == .starved) x.request.2 = { c with
      gap := bumpBy (if x.request.2 == .missing then 1 else 0) c.gap,
      starve := bumpBy (if x.state == .playing && x.queue.isEmpty then 1 else 0) c.starve } := by
  obtain ⟨hs, h⟩ | ⟨hs, hq, h⟩ | ⟨hs, hq, _, hstate, h⟩ := x.request_cases
  · have hstarved : (x.state == TapState.playing) = false := beq_eq_false_iff_ne.mpr hs
    rw [h, hstarved]
    simp [TapCtl.countAnswer]
  · rw [h, hs, hq]
    simp [TapCtl.countAnswer, bump_eq_bumpBy]
  · have hsome : x.queue.isEmpty = false := List.isEmpty_eq_false_iff.mpr hq
    rw [hstate, hsome, hs]
    cases hr : x.request.2 with
    | none => exact absurd hr h
    | missing => simp [TapCtl.countAnswer, bump_eq_bumpBy]
    | block trim l => simp [TapCtl.countAnswer]

theorem foldl_countAnswer (l : List Tap) (s : State) :
    (l.map fun x => (x.state, x.request)).foldl (fun u x =>
      u.modTaps fun c => c.countAnswer (x.1 == .playing && x.2.1.state == .starved) x.2.2) s =
    s.modTaps fun c => { c with
      gap := bumpBy (l.filter fun x => x.request.2 == .missing).length c.gap,
      starve := bumpBy (l.filter fun x => x.state == .playing && x.queue.isEmpty).length c.starve } := by
  induction l generalizing s with
  | nil => simp [State.modTaps]
  | cons x l ih =>
    rw [List.map_cons, List.foldl_cons, ih]
    simp only [Tap.countAnswer_request, State.modTaps, bumpBy_bumpBy, List.filter_cons]
    congr 3
    · split <;> simp [Nat.add_comm]
    · split <;> simp [Nat.add_comm]

theorem Entry.play_of_not_speech {e : Entry} (h : e.state ≠ .speech) : e.play = (e, none) := if_neg h

theorem Entry.play_of_empty {e : Entry} (h : e.queue = []) : e.play = (e, none) := by
  unfold Entry.play
  rw [h]
  split
  · cases e.playout <;> rfl
  · rfl

theorem Entry.play_of_few {e : Entry} (hp : e.playout = .notStarted) (h : e.queue.length < 3) : e.play = (e, none) := by
  unfold Entry.play
  split
  · rw [hp]
    cases hq : e.queue with
    | nil => rfl
    | cons b r =>
      dsimp only
      rw [if_neg (by rw [← hq]; omega)]
  · rfl

theorem Entry.play_of_block {e : Entry} {b : SpeechBlock} {r : List SpeechBlock} (hs : e.state = .speech) (hq : e.queue = b :: r)
    (h : 3 ≤ e.queue.length ∨ ∃ n, e.playout = .started n) :
    e.play = ({ e with queue := r, playout := .started (b.index.toNat + 1) }, some b.samples) := by
  unfold Entry.play
  rw [if_pos hs, hq]
  obtain h | ⟨n, hn⟩ := h
  · cases e.playout with
    | notStarted => exact if_pos (by rwa [hq] at h)
    | started n => rfl
  · rw [hn]

theorem Entry.play_desc (e : Entry) : e.play.1.desc = e.desc := by
  unfold Entry.play
  split
  · split
    · split <;> rfl
    · rfl
    · rfl
  · rfl

/-- What the taps and entries answer at a block event. -/
def State.answers (s : State) : BlockAnswers :=
  { programs := s.taps.taps.map fun x => (x.program, x.request.1.state, x.request.2),
    blocks := s.voice.table.map fun e => (e.desc.id, e.play.2) }

/-- The node once the taps and entries have answered. -/
def State.answered (s : State) : State := { s with
  taps := { s.taps with
    taps := s.taps.taps.map fun x => x.request.1,
    gap := bumpBy (s.taps.taps.filter fun x => x.request.2 == .missing).length s.taps.gap,
    starve := bumpBy (s.taps.taps.filter fun x => x.state == .playing && x.queue.isEmpty).length s.taps.starve },
  voice := { s.voice with table := s.voice.table.map fun e => e.play.1 } }

theorem State.requestPrograms_eq (s : State) : s.requestPrograms =
    ({ s with taps := s.answered.taps }, s.answers.programs) := by
  unfold State.requestPrograms
  dsimp only
  rw [foldl_countAnswer]
  simp only [State.modTaps, List.map_map, Function.comp_def, Tap.request_program]
  rfl

theorem State.requestAnnouncements_eq (s : State) : s.requestAnnouncements =
    ({ s with voice := s.answered.voice }, s.answers.blocks) := by
  simp only [State.requestAnnouncements, List.map_map, Function.comp_def, Entry.play_desc]
  rfl

theorem State.blockWork_eq (s : State) : s.blockWork = s.answered.servicePorts.foldl (State.mixBerth s.answers) s.answered := by
  unfold State.blockWork
  rw [State.requestPrograms_eq]
  dsimp only
  rw [State.requestAnnouncements_eq]
  rfl

/-! ## Duck and chime -/

theorem duckTarget_eq (v : Serving) (depth : Nat) : duckTarget v depth = if v = .idle then 0 else depth := by
  cases v <;> rfl

theorem Mix.update_duck (m : Mix) (v : Serving) (pr : Profile) :
    (m.update v pr).duck = duckStep m.duck (duckTarget v pr.depth) pr.ramp := by
  cases v <;> rfl

theorem Mix.update_of_chime {m : Mix} {v : Serving} {id : AnnId} (h : v = .chime id) (pr : Profile) :
    (m.update v pr).chimeId = some id ∧ (m.update v pr).chimePos = (m.chimeUsed v + 1) % 4 := by
  subst h
  exact ⟨rfl, rfl⟩

theorem Mix.update_of_no_chime {m : Mix} {v : Serving} (h : ∀ id, v ≠ .chime id) (pr : Profile) :
    (m.update v pr).chimeId = none ∧ (m.update v pr).chimePos = 0 := by
  cases v with
  | idle => exact ⟨rfl, rfl⟩
  | chime id => exact absurd rfl (h id)
  | speaking id => exact ⟨rfl, rfl⟩

/-! ## What an AUDIO frame is made of -/

/-- Two states alike in what an AUDIO frame is made of, but for duck and chime. -/
structure SoundAlike (s t : State) : Prop where
  startup : t.startup = s.startup
  phase   : t.phase = s.phase
  berths  : t.berths = s.berths
  voices  : t.voice.voices = s.voice.voices
  cls     : ∀ id, t.classOfId id = s.classOfId id

namespace SoundAlike

variable {s t : State} (h : SoundAlike s t) (a : BlockAnswers) (p : Port)
include h

theorem berth : t.berth p = s.berth p := by rw [State.berth, h.berths]; rfl

theorem berthVoice : t.berthVoice p = s.berthVoice p := by rw [State.berthVoice, h.voices]; rfl

theorem image : t.image = s.image := by rw [State.image, h.startup]; rfl

theorem inService : t.inService p = s.inService p := by rw [State.inService, h.image]; rfl

theorem profile : t.profile = s.profile := by
  rw [State.profile, State.profile, h.image]
  simp only [h.phase]

theorem currentClass : t.currentClass p = s.currentClass p := by
  simp only [State.currentClass, State.currentId, h.berthVoice, funext h.cls]

theorem inEmergency : t.inEmergency p = s.inEmergency p := by rw [State.inEmergency, h.currentClass]; rfl

theorem infoOf : t.infoOf a p = s.infoOf a p := by
  simp only [State.infoOf, State.reportedTap, h.phase, h.berthVoice, h.currentClass, h.berth]

theorem outputBlock (used duck : Nat) : t.outputBlock a p used duck = s.outputBlock a p used duck := by
  simp only [State.outputBlock, State.programTerm, State.announceTerm, h.berth, h.inEmergency, h.profile, h.currentClass,
    h.berthVoice, h.image]

end SoundAlike

theorem State.answered_alike (s : State) (t : Time) : SoundAlike s (s.reach t).answered := by
  refine ⟨rfl, rfl, rfl, rfl, fun id => ?_⟩
  have hfind : (s.reach t).answered.entry? id = (s.entry? id).map fun e => e.play.1 := by
    have hmap : (s.reach t).answered.voice.table = s.voice.table.map fun e => e.play.1 := rfl
    rw [State.entry?, hmap, List.find?_map]
    simp only [Function.comp_def, Entry.play_desc]
    rfl
  rw [State.classOfId, State.classOfId, hfind, Option.map_map]
  simp only [Function.comp_def, Entry.play_desc]

/-! ## The berths -/

section
variable (s : State) (a : BlockAnswers) (p : Port)

/-- A berth's duck and chime after a block event. -/
def State.mixed : Mix := s.mixer.berths[p].update (s.berthVoice p).serving s.profile

/-- A berth's output block at a block event, with its clip flags. -/
def State.sound : List (StereoFrame × Bool) :=
  s.outputBlock a p (s.mixer.berths[p].chimeUsed (s.berthVoice p).serving) (s.mixed p).duck

/-- A berth's AUDIO frame at a block event. -/
def State.audioFrame : SeatFrame := .audio (s.infoOf a p) ((s.sound a p).map fun x => x.1)

/-- A berth whose block is handed over clipped. -/
def State.clips : Bool := s.linkUp p && (s.sound a p).any fun x => x.2

/-- A berth's link after a block event. -/
def State.audioLink : Link := if s.linkUp p then s.links[p].handAudio (s.audioFrame a p) else s.links[p]

end

section
variable {s u : State} {p : Port} (h : SoundAlike s u) (hm : u.mixer.berths[p] = s.mixer.berths[p])
include h hm

theorem State.mixed_congr : u.mixed p = s.mixed p := by rw [State.mixed, hm, h.berthVoice, h.profile]; rfl

theorem State.sound_congr (a : BlockAnswers) : u.sound a p = s.sound a p := by
  rw [State.sound, State.mixed_congr h hm, h.outputBlock, hm, h.berthVoice]
  rfl

theorem State.audioFrame_congr (a : BlockAnswers) : u.audioFrame a p = s.audioFrame a p := by
  rw [State.audioFrame, State.sound_congr h hm, h.infoOf]
  rfl

variable (hl : u.links[p] = s.links[p])
include hl

theorem State.clips_congr (a : BlockAnswers) : u.clips a p = s.clips a p := by
  rw [State.clips, State.sound_congr h hm, State.linkUp, hl]
  rfl

theorem State.audioLink_congr (a : BlockAnswers) : u.audioLink a p = s.audioLink a p := by
  rw [State.audioLink, State.audioFrame_congr h hm, State.linkUp, hl]
  rfl

end

/-- One berth at a block event. -/
theorem State.mixBerth_eq (a : BlockAnswers) (s : State) (p : Port) : State.mixBerth a s p = { s with
    mixer := { s.mixer with
      berths := s.mixer.berths.set p (s.mixed p),
      clip := bumpBy (if s.clips a p then 1 else 0) s.mixer.clip },
    links := s.links.set p (s.audioLink a p) } := by
  have halike : SoundAlike s (s.modMix p fun m => m.update (s.berthVoice p).serving s.profile) := ⟨rfl, rfl, rfl, rfl, fun _ => rfl⟩
  have hduck : (s.modMix p fun m => m.update (s.berthVoice p).serving s.profile).mixer.berths[p] = s.mixed p := by
    rw [State.modMix_get, if_pos rfl]
    rfl
  unfold State.mixBerth
  dsimp only
  rw [hduck, halike.infoOf, halike.outputBlock]
  cases hup : s.linkUp p with
  | false =>
    rw [if_neg (by rw [State.modMix, State.linkUp]; exact Bool.eq_false_iff.mp hup)]
    simp [State.clips, State.audioLink, hup, State.modMix, State.mixed]
  | true =>
    rw [if_pos (by exact hup)]
    have hclips : s.clips a p = (s.sound a p).any fun x => x.2 := by rw [State.clips, hup, Bool.true_and]
    have hlink : s.audioLink a p = s.links[p].handAudio (s.audioFrame a p) := if_pos hup
    rw [hclips, hlink]
    cases hany : (s.sound a p).any fun x => x.2 with
    | false =>
      refine (if_neg (Bool.eq_false_iff.mp hany)).trans ?_
      simp only [Bool.false_eq_true, if_false, bumpBy_zero]
      rfl
    | true =>
      refine (if_pos hany).trans ?_
      simp only [if_true, ← bump_eq_bumpBy]
      rfl

/-- Several berths at a block event. -/
theorem State.foldl_mixBerth (a : BlockAnswers) (l : List Port) (hl : l.Nodup) (s : State) :
    l.foldl (State.mixBerth a) s = { s with
      mixer := { s.mixer with
        berths := (l.foldl (State.mixBerth a) s).mixer.berths,
        clip := bumpBy (l.filter (s.clips a)).length s.mixer.clip },
      links := (l.foldl (State.mixBerth a) s).links } ∧
    ∀ p : Port,
      (l.foldl (State.mixBerth a) s).mixer.berths[p] = (if p ∈ l then s.mixed p else s.mixer.berths[p]) ∧
      (l.foldl (State.mixBerth a) s).links[p] = if p ∈ l then s.audioLink a p else s.links[p] := by
  induction l generalizing s with
  | nil => exact ⟨by simp, fun _ => ⟨rfl, rfl⟩⟩
  | cons q l ih =>
    rw [List.nodup_cons] at hl
    obtain ⟨hq, hl⟩ := hl
    have hstep := State.mixBerth_eq a s q
    rw [List.foldl_cons]
    generalize State.mixBerth a s q = u at hstep ⊢
    obtain ⟨heq, hparts⟩ := ih hl u
    have halike : SoundAlike s u := by rw [hstep]; exact ⟨rfl, rfl, rfl, rfl, fun _ => rfl⟩
    have hmix : ∀ p : Port, u.mixer.berths[p] = if p = q then s.mixed q else s.mixer.berths[p] := fun p => by
      rw [hstep]
      simp only [Fin.getElem_fin, Vector.getElem_set, Fin.ext_iff, eq_comm (a := q.val)]
    have hlinks : ∀ p : Port, u.links[p] = if p = q then s.audioLink a q else s.links[p] := fun p => by
      rw [hstep]
      simp only [Fin.getElem_fin, Vector.getElem_set, Fin.ext_iff, eq_comm (a := q.val)]
    have hne : ∀ p, p ∈ l → p ≠ q := fun p hp hc => hq (hc ▸ hp)
    have hclips : l.filter (u.clips a) = l.filter (s.clips a) := List.filter_congr fun p hp =>
      State.clips_congr halike ((hmix p).trans (if_neg (hne p hp))) ((hlinks p).trans (if_neg (hne p hp))) a
    rw [hclips] at heq
    generalize l.foldl (State.mixBerth a) u = v at heq hparts ⊢
    refine ⟨?_, fun p => ?_⟩
    · rw [heq, hstep]
      simp only [bumpBy_bumpBy, List.filter_cons]
      congr 2
      split <;> simp [Nat.add_comm]
    · obtain ⟨hvmix, hvlink⟩ := hparts p
      rw [hvmix, hvlink, hmix, hlinks]
      by_cases hp : p = q
      · subst hp
        simp [hq]
      · by_cases hmem : p ∈ l
        · simp only [hp, hmem, List.mem_cons, or_true, if_true, if_false]
          exact ⟨State.mixed_congr halike ((hmix p).trans (if_neg hp)),
            State.audioLink_congr halike ((hmix p).trans (if_neg hp)) ((hlinks p).trans (if_neg hp)) a⟩
        · simp [hp, hmem]

/-! ## The frame on its link -/

theorem Link.handAudio_of_up {l : Link} (hup : l.state = .up) (f : SeatFrame) : l.handAudio f = Link.kick { l with
    audio := some f,
    counters := { l.counters with
      audioOverrun := if l.audio.isSome then bump l.counters.audioOverrun else l.counters.audioOverrun } } := by
  refine (if_pos hup).trans ?_
  cases l.audio <;> rfl

theorem Link.handAudio_of_busy {l : Link} (hup : l.state = .up) (hb : l.sending.isSome = true) (f : SeatFrame) :
    l.handAudio f = { l with
      audio := some f,
      counters := { l.counters with
        audioOverrun := if l.audio.isSome then bump l.counters.audioOverrun else l.counters.audioOverrun } } := by
  rw [Link.handAudio_of_up hup]
  exact Link.kick_busy _ hb

/-- A free transmitter with nothing to send before it takes the AUDIO frame at once (R147). -/
theorem Link.handAudio_of_free {l : Link} (hup : l.state = .up) (hsending : l.sending = none) (hresets : l.resets = [])
    (hcontrol : l.control = []) (f : SeatFrame) : (l.handAudio f).sending = some f := by
  rw [Link.handAudio_of_up hup]
  simp only [Link.kick, hsending, hresets, hup, hcontrol, if_true]

/-! ## The info word -/

section
variable (ph : Phase) (v : VoiceState) (k : Option AnnClass) (x : Option TapState) (mute : Bool)

theorem voiceCode_lt : voiceCode v < 4 := by cases v <;> decide

theorem currentClassCode_lt : currentClassCode k < 8 := by
  cases k with
  | none => decide
  | some c => cases c <;> decide

theorem tapCode_lt : tapCode x < 8 := by
  cases x with
  | none => decide
  | some c => cases c <;> decide

/-- The fields of an info word (R200). -/
theorem infoWord_fields :
    ((infoWord ph v k x mute).extractLsb' 14 2).toNat = ph.val ∧
    ((infoWord ph v k x mute).extractLsb' 12 2).toNat = voiceCode v ∧
    ((infoWord ph v k x mute).extractLsb' 9 3).toNat = currentClassCode k ∧
    ((infoWord ph v k x mute).extractLsb' 6 3).toNat = tapCode x ∧
    (infoWord ph v k x mute).getLsbD 5 = mute ∧ (infoWord ph v k x mute).extractLsb' 0 5 = 0#5 := by
  have hp := ph.isLt
  have hv := voiceCode_lt v
  have hk := currentClassCode_lt k
  have hx := tapCode_lt x
  generalize hm : (if mute then 32 else 0) = m
  have hcases : (mute = true ∧ m = 32) ∨ (mute = false ∧ m = 0) := by
    cases mute <;> simp_all
  have hsum : (infoWord ph v k x mute).toNat = ph.val * 16384 + voiceCode v * 4096 + currentClassCode k * 512 + tapCode x * 64 + m := by
    rw [infoWord, hm, BitVec.toNat_ofNat]
    omega
  simp only [BitVec.extractLsb'_toNat, Nat.shiftRight_eq_div_pow, hsum, BitVec.getLsbD, Nat.testBit_eq_decide_div_mod_eq]
  refine ⟨by omega, by omega, by omega, by omega, ?_, BitVec.eq_of_toNat_eq ?_⟩
  · obtain ⟨hmute, hm⟩ | ⟨hmute, hm⟩ := hcases
    · rw [hmute, decide_eq_true_iff]
      omega
    · rw [hmute, decide_eq_false_iff_not]
      omega
  · simp only [BitVec.extractLsb'_toNat, Nat.shiftRight_eq_div_pow, hsum, BitVec.toNat_ofNat]
    omega

end

/-- The tap of a program among the answers. -/
theorem State.answers_program? (s : State) (program : Nat) :
    s.answers.program? program = (s.tap? program).map fun x => (x.request.1.state, x.request.2) := by
  rw [BlockAnswers.program?, State.answers, List.find?_map, Option.map_map]
  rfl

theorem tapCode_reportedTap (s : State) (p : Port) : tapCode (s.reportedTap s.answers p) =
    if (s.berth p).program = 0 then 0 else match (s.tap? (s.berth p).program).map fun x => x.request.1.state with
      | none => 1
      | some .waiting => 1
      | some .priming => 2
      | some .playing => 3
      | some .starved => 4 := by
  unfold State.reportedTap
  dsimp only
  split
  · rfl
  · rw [s.answers_program?]
    cases s.tap? (s.berth p).program with
    | none => rfl
    | some x => cases hst : x.request.1.state <;> simp [tapCode, hst]

/-! ## The event -/

/-- Settles O59, from what each berth is at the end of the event. -/
theorem blockEventServesEveryBerth : Obligations.BlockEventServesEveryBerth := by
  unfold Obligations.BlockEventServesEveryBerth
  refine ⟨?_, fun x => ⟨Tap.request_of_not_playing, Tap.request_of_empty, fun k r hs hq he => ?_, fun k r e hs hq he hne => ?_⟩,
    fun e => ⟨Entry.play_of_not_speech, Entry.play_of_empty, Entry.play_of_few, fun b r => Entry.play_of_block⟩⟩
  · intro s t0 hnext a used
    have ha : s.answers = a := rfl
    have hused : ∀ p, used p = s.mixer.berths[p].chimeUsed (s.berthVoice p).serving := fun p => rfl
    have halike := s.answered_alike t0
    generalize hu : (s.reach t0).answered = u at halike
    obtain ⟨heq, hparts⟩ := State.foldl_mixBerth a u.servicePorts u.servicePorts_nodup u
    have hexec : exec .blockEvent s = .next { (s.reach t0).blockWork with
        mixer := { (s.reach t0).blockWork.mixer with nextBlock := some ((s.reach t0).blockWork.now + ms 1) } } := by
      show execBlockEvent s = _
      rw [execBlockEvent, hnext]
    rw [State.blockWork_eq, hu, show (s.reach t0).answers = a from rfl] at hexec
    generalize u.servicePorts.foldl (State.mixBerth a) u = w at heq hparts hexec
    have hmixer : u.mixer = s.mixer := by rw [← hu]; rfl
    have hulinks : u.links = s.links := by rw [← hu]; rfl
    have hmixed : ∀ p, u.mixed p = s.mixed p := fun p => State.mixed_congr halike (by rw [hmixer])
    have hsound : ∀ p, u.sound a p = s.outputBlock a p (used p) (s.mixed p).duck := fun p => by
      rw [State.sound_congr halike (by rw [hmixer]), hused]
      rfl
    have hmem : ∀ p, p ∈ u.servicePorts ↔ s.inService p = true := fun p => by
      rw [State.mem_servicePorts, halike.inService]
    have hberth : ∀ p : Port, s.inService p = true → w.mixer.berths[p] = s.mixed p ∧ w.links[p] = s.audioLink a p :=
      fun p hp => by
      obtain ⟨hmix, hlink⟩ := hparts p
      rw [if_pos ((hmem p).mpr hp)] at hmix hlink
      exact ⟨hmix.trans (hmixed p), hlink.trans (State.audioLink_congr halike (by rw [hmixer]) (by rw [hulinks]) a)⟩
    have hother : ∀ p : Port, s.inService p = false → w.mixer.berths[p] = s.mixer.berths[p] ∧ w.links[p] = s.links[p] :=
      fun p hp => by
      obtain ⟨hmix, hlink⟩ := hparts p
      rw [if_neg (mt (hmem p).mp (Bool.eq_false_iff.mp hp))] at hmix hlink
      exact ⟨hmix.trans (by rw [hmixer]), hlink.trans (by rw [hulinks])⟩
    refine ⟨_, hexec, ?_, rfl, fun p hp => ⟨?_, fun id hid => ?_, fun hno => ?_, ?_, fun hup => ?_⟩, fun p hp => (hother p hp).1,
      fun p hp => ?_, ?_, ?_, ?_, ?_⟩
    · rw [heq, ← hu]
      rfl
    · rw [(hberth p hp).1, State.mixed, Mix.update_duck, duckTarget_eq]
      rfl
    · rw [(hberth p hp).1, hused]
      exact Mix.update_of_chime hid s.profile
    · rw [(hberth p hp).1]
      exact Mix.update_of_no_chime hno s.profile
    · intro info
      obtain ⟨hphase, hvoice, hclass, htap, hmute, hrest⟩ := infoWord_fields s.phase.own.phase (s.berthVoice p).serving.state
        (s.currentClass p) (s.reportedTap a p) (s.berth p).mute
      refine ⟨hphase, hvoice.trans ?_, hclass.trans ?_, htap.trans (tapCode_reportedTap s p), hmute, hrest⟩
      · cases (s.berthVoice p).serving <;> rfl
      · rw [State.currentClass]
        cases (s.currentId p).bind s.classOfId <;> rfl
    · obtain ⟨hmix, hlink⟩ := hberth p hp
      have hframe : SeatFrame.audio (s.infoOf a p) ((s.outputBlock a p (used p) w.mixer.berths[p].duck).map fun x => x.1) =
          s.audioFrame a p := by
        rw [hmix, hused]
        rfl
      have hlink' : w.links[p] = s.links[p].handAudio (s.audioFrame a p) := hlink.trans (if_pos hup)
      have hstate : s.links[p].state = .up := beq_iff_eq.mp hup
      intro f
      have hf : f = s.audioFrame a p := hframe
      rw [hf]
      exact ⟨hlink', fun hb => hlink'.trans (Link.handAudio_of_busy hstate hb _), fun hsending hresets hcontrol =>
        (congrArg Link.sending hlink').trans (Link.handAudio_of_free hstate hsending hresets hcontrol _)⟩
    · cases hservice : s.inService p with
      | false => exact (hother p hservice).2
      | true =>
        obtain hout | hdown := hp
        · exact absurd (hservice.symm.trans hout) nofun
        · exact (hberth p hservice).2.trans (if_neg (Bool.eq_false_iff.mp hdown))
    · have hclips : ∀ p, s.inService p = true → u.clips a p =
          (s.linkUp p && (s.outputBlock a p (used p) w.mixer.berths[p].duck).any fun x => x.2) := fun p hp => by
        rw [State.clips, hsound, (hberth p hp).1, State.linkUp, hulinks]
        rfl
      have hlist : u.servicePorts.filter (u.clips a) = allPorts.filter fun p => s.inService p && s.linkUp p &&
          (s.outputBlock a p (used p) w.mixer.berths[p].duck).any fun x => x.2 := by
        rw [State.servicePorts, List.filter_filter]
        refine List.filter_congr fun p _ => ?_
        rw [halike.inService, Bool.and_assoc]
        cases hp : s.inService p with
        | false => rw [Bool.and_false, Bool.false_and]
        | true => rw [Bool.and_true, Bool.true_and, hclips p hp]
      rw [← hlist, ← hmixer]
      exact congrArg (fun x : State => x.mixer.clip) heq
    · rw [heq, ← hu]
      rfl
    · rw [heq, ← hu]
      rfl
    · rw [heq, ← hu]
      rfl
  · rw [Tap.request_of_expected hs hq he, if_pos rfl]
  · rw [Tap.request_of_expected hs hq he, if_neg hne]

end Sys2Proof.Machine
end

section
/-! CARRY records at the catalogue (R43, R49): O29. -/

namespace Sys2Proof.Machine

/-- The entry that a CARRY record of a station makes (R43). -/
def listedBy (e : CarryEntry) (source : Nat) (now : Time) : CatEntry :=
  { program := e.program, source := source, kind := e.kind, status := e.status, listed := now }

section
variable (s : State) (source : Nat) (e : CarryEntry)

/-- A catalogue entry put in its place (R43). -/
def State.putCatalogue : State := s.modTaps fun t =>
  { t with catalogue := insertBefore (fun x y => decide (x.program < y.program)) (listedBy e source s.now)
                          (t.catalogue.filter fun x => x.program ≠ e.program) }

theorem State.catEntry?_putCatalogue (q : Nat) : (s.putCatalogue source e).catEntry? q =
    if q = e.program then some (listedBy e source s.now) else s.catEntry? q := by
  have hfind : (s.putCatalogue source e).catEntry? q = (insertBefore (fun x y : CatEntry => decide (x.program < y.program))
      (listedBy e source s.now) (s.taps.catalogue.filter fun x => decide (x.program ≠ e.program))).find? fun x => x.program == q := rfl
  rw [hfind]
  by_cases hq : q = e.program
  · rw [if_pos hq]
    refine find_insertBefore_self _ _ _ _ (beq_iff_eq.mpr hq.symm) fun y hy => ?_
    have hne := (List.mem_filter.mp hy).2
    simpa [hq] using hne
  · have hne : ((listedBy e source s.now).program == q) = false := beq_eq_false_iff_ne.mpr fun h => hq h.symm
    rw [if_neg hq, find_insertBefore_other _ (fun x : CatEntry => x.program == q) _ _ hne]
    exact (find_remove CatEntry.program e.program q s.taps.catalogue).trans (if_neg hq)

theorem State.tap?_modTap (f : Tap → Tap) (hf : ∀ x, (f x).program = x.program) (p q : Nat) : (s.modTap p f).tap? q =
    if q = p then (s.tap? p).map f else s.tap? q :=
  find_modify Tap.program p q f s.taps.taps hf

theorem Tap.retarget_program (x : Tap) : (x.retarget source).program = x.program := by
  unfold Tap.retarget
  split
  · rfl
  · split <;> rfl

theorem State.catalogueEntry_of_out (h : e.program = 0 ∨ 63 < e.program) : s.catalogueEntry source e = s := if_pos h

/-- An entry of a CARRY record by what the catalogue holds of its program (R43). -/
theorem State.catalogueEntry_of_in (h : ¬(e.program = 0 ∨ 63 < e.program)) : s.catalogueEntry source e =
    if ((s.catEntry? e.program).all fun h => decide (source < h.source)) = true then
      (s.putCatalogue source e).modTap e.program fun x => x.retarget source
    else if ((s.catEntry? e.program).all fun h => decide (source ≤ h.source)) = true then s.putCatalogue source e
    else s := by
  unfold State.catalogueEntry
  rw [if_neg h]
  cases hc : s.catEntry? e.program with
  | none => rfl
  | some h =>
    dsimp only [Option.all_some]
    by_cases heq : h.source = source
    · rw [if_pos heq, if_neg (by simp [heq]), if_pos (by simp [heq])]
      rfl
    · rw [if_neg heq]
      by_cases hlt : source < h.source
      · rw [if_pos hlt, if_pos (decide_eq_true hlt)]
        rfl
      · rw [if_neg hlt, if_neg (by simpa using hlt), if_neg (by simp; omega)]

/-- The catalogue entry and the tap of a program after an entry of a CARRY record. -/
theorem State.catalogueEntry_spec (q : Nat) :
    (¬(e.program = q ∧ 1 ≤ q ∧ q ≤ 63) →
      (s.catalogueEntry source e).catEntry? q = s.catEntry? q ∧ (s.catalogueEntry source e).tap? q = s.tap? q) ∧
    (e.program = q → 1 ≤ q → q ≤ 63 →
      (s.catalogueEntry source e).catEntry? q =
        (if ((s.catEntry? q).all fun h => decide (source ≤ h.source)) = true then some (listedBy e source s.now) else s.catEntry? q) ∧
      (s.catalogueEntry source e).tap? q =
        if ((s.catEntry? q).all fun h => decide (source < h.source)) = true then (s.tap? q).map fun x => x.retarget source
        else s.tap? q) := by
  by_cases hout : e.program = 0 ∨ 63 < e.program
  · rw [State.catalogueEntry_of_out _ _ _ hout]
    exact ⟨fun _ => ⟨rfl, rfl⟩, fun hq h1 h63 => by omega⟩
  · have hcat := s.catEntry?_putCatalogue source e q
    have htap := State.tap?_modTap (s.putCatalogue source e) (fun x => x.retarget source) (Tap.retarget_program source) e.program q
    have hlt : ∀ h : Option CatEntry, (h.all fun h => decide (source < h.source)) = true →
        (h.all fun h => decide (source ≤ h.source)) = true := fun h hall => by
      cases h with
      | none => rfl
      | some h =>
        simp only [Option.all_some, decide_eq_true_eq] at hall ⊢
        omega
    have hother : (s.putCatalogue source e).tap? q = s.tap? q := rfl
    rw [State.catalogueEntry_of_in _ _ _ hout]
    refine ⟨fun hq => ?_, fun hq _ _ => ?_⟩
    · have hne : q ≠ e.program := fun h => hq ⟨h.symm, by omega, by omega⟩
      rw [if_neg hne] at hcat htap
      split
      · exact ⟨hcat, htap⟩
      · split
        · exact ⟨hcat, rfl⟩
        · exact ⟨rfl, rfl⟩
    · subst hq
      rw [if_pos rfl] at hcat htap
      by_cases hless : ((s.catEntry? e.program).all fun h => decide (source < h.source)) = true
      · rw [if_pos hless, if_pos (hlt _ hless)]
        exact ⟨hcat, htap.trans (if_pos hless).symm⟩
      · rw [if_neg hless]
        by_cases hle : ((s.catEntry? e.program).all fun h => decide (source ≤ h.source)) = true
        · rw [if_pos hle, if_pos hle, if_neg hless]
          exact ⟨hcat, hother⟩
        · rw [if_neg hle, if_neg hle, if_neg hless]
          exact ⟨rfl, rfl⟩

theorem State.catalogueEntry_frame : s.catalogueEntry source e =
    { s with taps := { s.taps with
      catalogue := (s.catalogueEntry source e).taps.catalogue,
      taps := (s.catalogueEntry source e).taps.taps } } := by
  by_cases hout : e.program = 0 ∨ 63 < e.program
  · rw [State.catalogueEntry_of_out _ _ _ hout]
  · rw [State.catalogueEntry_of_in _ _ _ hout]
    split
    · rfl
    · split <;> rfl

end

/-- A program that a CARRY record does not list, or that is out of range. -/
theorem State.takeCatalogue_other (source q : Nat) (l : List CarryEntry) (h : q = 0 ∨ 63 < q ∨ ∀ e ∈ l, e.program ≠ q) (s : State) :
    (s.takeCatalogue source l).catEntry? q = s.catEntry? q ∧ (s.takeCatalogue source l).tap? q = s.tap? q := by
  induction l generalizing s with
  | nil => exact ⟨rfl, rfl⟩
  | cons x l ih =>
    have hx : ¬(x.program = q ∧ 1 ≤ q ∧ q ≤ 63) := fun hc => by
      obtain h | h | h := h
      · omega
      · omega
      · exact h x List.mem_cons_self hc.1
    obtain ⟨hcat, htap⟩ := (s.catalogueEntry_spec source x q).1 hx
    obtain ⟨hcat', htap'⟩ := ih (h.imp_right (Or.imp_right fun h e he => h e (List.mem_cons_of_mem _ he)))
      (s.catalogueEntry source x)
    exact ⟨hcat'.trans hcat, htap'.trans htap⟩

/-- A program that a CARRY record lists, by its last entry for it (R43, R49). -/
theorem State.takeCatalogue_listed (source : Nat) {q : Nat} (h1 : 1 ≤ q) (h63 : q ≤ 63) (e : CarryEntry) (l : List CarryEntry)
    (hlast : (l.filter fun e => e.program == q).getLast? = some e) (s : State) :
    (s.takeCatalogue source l).catEntry? q =
      (if ((s.catEntry? q).all fun h => decide (source ≤ h.source)) = true then some (listedBy e source s.now) else s.catEntry? q) ∧
    (s.takeCatalogue source l).tap? q =
      if ((s.catEntry? q).all fun h => decide (source < h.source)) = true then (s.tap? q).map fun x => x.retarget source
      else s.tap? q := by
  induction l generalizing s with
  | nil => exact absurd hlast nofun
  | cons x l ih =>
    have hnow : (s.catalogueEntry source x).now = s.now := by rw [s.catalogueEntry_frame source x]
    have hcons : s.takeCatalogue source (x :: l) = (s.catalogueEntry source x).takeCatalogue source l := rfl
    rw [hcons]
    obtain ⟨hother, hself⟩ := s.catalogueEntry_spec source x q
    by_cases hx : x.program = q
    · obtain ⟨hcat, htap⟩ := hself hx h1 h63
      rw [List.filter_cons_of_pos (by simpa using hx)] at hlast
      by_cases hrest : l.filter (fun e => e.program == q) = []
      · rw [hrest, List.getLast?_singleton, Option.some.injEq] at hlast
        have hnone : ∀ e ∈ l, e.program ≠ q := fun e he hc => by
          have hmem := List.filter_eq_nil_iff.mp hrest e he
          exact hmem (by simpa using hc)
        obtain ⟨hcat', htap'⟩ := State.takeCatalogue_other source q l (.inr (.inr hnone)) (s.catalogueEntry source x)
        rw [hcat', htap', hcat, htap, hlast]
        exact ⟨rfl, rfl⟩
      · obtain ⟨y, r, hyr⟩ := List.exists_cons_of_ne_nil hrest
        rw [hyr, List.getLast?_cons_cons, ← hyr] at hlast
        obtain ⟨hcat', htap'⟩ := ih hlast (s.catalogueEntry source x)
        rw [hcat', htap', hnow, hcat, htap]
        by_cases hle : ((s.catEntry? q).all fun h => decide (source ≤ h.source)) = true
        · simp [hle, listedBy]
        · have hless : ¬((s.catEntry? q).all fun h => decide (source < h.source)) = true := fun hc => hle (by
            cases hs : s.catEntry? q with
            | none => rfl
            | some h =>
              rw [hs] at hc
              simp only [Option.all_some, decide_eq_true_eq] at hc ⊢
              omega)
          rw [if_neg hle, if_neg hle, if_neg hless]
          exact ⟨rfl, rfl⟩
    · obtain ⟨hcat, htap⟩ := hother fun hc => hx hc.1
      rw [List.filter_cons_of_neg (by simpa using hx)] at hlast
      obtain ⟨hcat', htap'⟩ := ih hlast (s.catalogueEntry source x)
      rw [hcat', htap', hnow, hcat, htap]
      exact ⟨rfl, rfl⟩

theorem State.takeCatalogue_frame (source : Nat) (l : List CarryEntry) (s : State) : s.takeCatalogue source l =
    { s with taps := { s.taps with
      catalogue := (s.takeCatalogue source l).taps.catalogue,
      taps := (s.takeCatalogue source l).taps.taps } } := by
  induction l generalizing s with
  | nil => rfl
  | cons x l ih =>
    have hcons : s.takeCatalogue source (x :: l) = (s.catalogueEntry source x).takeCatalogue source l := rfl
    have htail := ih (s.catalogueEntry source x)
    rw [hcons]
    generalize (s.catalogueEntry source x).takeCatalogue source l = t at htail
    rw [htail, s.catalogueEntry_frame source x]

end Sys2Proof.Machine
end

section
/-! CARRY records of a lower station at the channels they shadow (R81), and CARRY records taken: O29. -/

namespace Sys2Proof.Machine

/-! ## One channel -/

/-- A channel that a lower station shadows (R81). -/
def Channel.shadowedUntil (x : Channel) (cfg : ChannelConfig) (e : Time) : Channel :=
  { x.abandon cfg with state := .shadowed, shadowEnd := some e, lingerEnd := none, demand := [] }

theorem Channel.shadowedUntil_frame (x : Channel) (cfg : ChannelConfig) (e : Time) : x.shadowedUntil cfg e = { x with
    trim := (x.abandon cfg).trim, mode := (x.abandon cfg).mode, window := none,
    state := .shadowed, shadowEnd := some e, lingerEnd := none, demand := [] } := by
  rw [Channel.shadowedUntil, x.abandon_frame cfg]

section
variable (u : State) (c : Chan)

/-- The node once a channel is off the list (R81). -/
def State.offList : State := u.modChan c fun x => x.shadowedUntil u.image.channels[c] (u.now + ms 1000)

theorem State.offList_chan (e : Chan) : (u.offList c).chan e =
    if e = c then (u.chan c).shadowedUntil u.image.channels[c] (u.now + ms 1000) else u.chan e := State.modChan_get ..

variable {u c}

theorem State.shadow_of_shadowed (h : (u.chan c).state = .shadowed) :
    u.shadow c = u.modChan c fun x => { x with shadowEnd := some (u.now + ms 1000) } := if_pos h

theorem State.shadow_of_not_shadowed (h : (u.chan c).state ≠ .shadowed) :
    u.shadow c = (u.offList c).sendCarry.carryDecision := if_neg h

theorem State.offList_running (hrun : u.running = true) : (u.offList c).sendCarry.running = true := by
  rw [State.sendCarry_of_running (by exact hrun)]
  exact hrun

/-- The channels once a lower station shadows one. -/
theorem State.shadow_chan_of_not_shadowed (h : (u.chan c).state ≠ .shadowed) (e : Chan) : (u.shadow c).chan e =
    if u.running then (u.offList c).sendCarry.decided.chan e else (u.offList c).chan e := by
  rw [State.shadow_of_not_shadowed h]
  cases hrun : u.running with
  | true => exact State.carryDecision_chan (State.offList_running hrun) e
  | false =>
    have hoff : (u.offList c).running ≠ true := by
      rw [State.running] at hrun ⊢
      exact Bool.eq_false_iff.mp hrun
    rw [State.sendCarry, if_neg hoff, State.carryDecision, if_neg hoff]
    rfl

theorem State.sendCarry_chan_eq (s : State) (e : Chan) : s.sendCarry.chan e = s.chan e := by
  unfold State.sendCarry
  split
  · have hcarry : (s.handOver (.carry s.carryList)).carry = s.carry := (State.handOver_only ..).carry rfl
    simp only [State.chan, hcarry]
  · rfl

/-- A channel that the list has lost already is not touched when another goes off it. -/
theorem State.shadow_chan_of_off (h : (u.chan c).state ≠ .shadowed) {e : Chan} (he : ((u.offList c).chan e).state = .shadowed) :
    (u.shadow c).chan e = (u.offList c).chan e := by
  rw [State.shadow_chan_of_not_shadowed h]
  split
  · have hreads : (u.offList c).sendCarry.reads e = false := by
      rw [State.reads, State.sendCarry_chan_eq, he]
      simp
    rw [State.decided_chan_of_not_reads hreads, State.sendCarry_chan_eq]
  · rfl

/-- The channel that a lower station lists. -/
theorem State.shadow_chan_self : ((u.shadow c).chan c).state = .shadowed ∧
    ((u.shadow c).chan c).shadowEnd = some (u.now + ms 1000) ∧
    ((u.chan c).state ≠ .shadowed → ((u.shadow c).chan c).demand = [] ∧ ((u.shadow c).chan c).lingerEnd = none ∧
      ((u.shadow c).chan c).window = none) ∧
    ((u.chan c).state = .shadowed → (u.shadow c).chan c = { u.chan c with shadowEnd := some (u.now + ms 1000) }) ∧
    ((u.shadow c).chan c).audioSeq = (u.chan c).audioSeq ∧ ((u.shadow c).chan c).videoSeq = (u.chan c).videoSeq := by
  by_cases h : (u.chan c).state = .shadowed
  · have hself : (u.shadow c).chan c = { u.chan c with shadowEnd := some (u.now + ms 1000) } := by
      rw [State.shadow_of_shadowed h, State.modChan_self]
    exact ⟨by rw [hself]; exact h, by rw [hself], fun hc => absurd h hc, fun _ => hself, by rw [hself], by rw [hself]⟩
  · have hoff : (u.offList c).chan c = (u.chan c).shadowedUntil u.image.channels[c] (u.now + ms 1000) :=
      (u.offList_chan c c).trans (if_pos rfl)
    have hself : (u.shadow c).chan c = (u.chan c).shadowedUntil u.image.channels[c] (u.now + ms 1000) :=
      (State.shadow_chan_of_off h (by rw [hoff]; rfl)).trans hoff
    rw [hself, Channel.shadowedUntil_frame]
    exact ⟨rfl, rfl, fun _ => ⟨rfl, rfl, rfl⟩, fun hc => absurd hc h, rfl, rfl⟩

/-- Another channel when a lower station lists one. -/
theorem State.shadow_chan_other {e : Chan} (he : e ≠ c) :
    (((u.shadow c).chan e).state = .shadowed ↔ (u.chan e).state = .shadowed) ∧
    ((u.shadow c).chan e).shadowEnd = (u.chan e).shadowEnd ∧
    ((u.chan e).state = .shadowed → (u.shadow c).chan e = u.chan e) ∧
    ((u.shadow c).chan e).audioSeq = (u.chan e).audioSeq ∧ ((u.shadow c).chan e).videoSeq = (u.chan e).videoSeq := by
  by_cases h : (u.chan c).state = .shadowed
  · have hother : (u.shadow c).chan e = u.chan e := by
      rw [State.shadow_of_shadowed h, State.modChan_get, if_neg he]
    rw [hother]
    exact ⟨Iff.rfl, rfl, fun _ => rfl, rfl, rfl⟩
  · have hoff : (u.offList c).chan e = u.chan e := (u.offList_chan c e).trans (if_neg he)
    have hsend : (u.offList c).sendCarry.chan e = u.chan e := (State.sendCarry_chan_eq _ e).trans hoff
    have hkept : (u.chan e).state = .shadowed → (u.shadow c).chan e = u.chan e := fun hs =>
      (State.shadow_chan_of_off h (by rw [hoff]; exact hs)).trans hoff
    have hchan := State.shadow_chan_of_not_shadowed h e
    cases hrun : u.running with
    | false =>
      rw [hrun, if_neg Bool.false_ne_true, hoff] at hchan
      rw [hchan]
      exact ⟨Iff.rfl, rfl, fun _ => rfl, rfl, rfl⟩
    | true =>
      rw [hrun, if_pos rfl] at hchan
      obtain ⟨st, le, trim, mode, window, hframe⟩ := (u.offList c).sendCarry.decided_chan_frame e
      refine ⟨⟨fun hs => ?_, fun hs => by rw [hkept hs]; exact hs⟩, ?_, hkept, ?_, ?_⟩
      · by_contra hne
        refine State.decided_ne_shadowed (u := (u.offList c).sendCarry) (c := e) (by rw [hsend]; exact hne) ?_
        rw [← hchan]
        exact hs
      · rw [hchan, hframe, hsend]
      · rw [hchan, hframe, hsend]
      · rw [hchan, hframe, hsend]

end

/-! ## Several channels -/

/-- What a CARRY record of a lower station makes of the channels that it lists, one after the other, running or not. -/
structure Shadows (s u : State) (hits : List Chan) : Prop where
  only     : Only carryFoot s u
  seqs     : ∀ e, (u.chan e).audioSeq = (s.chan e).audioSeq ∧ (u.chan e).videoSeq = (s.chan e).videoSeq
  shadowed : ∀ e, (u.chan e).state = .shadowed ↔ (s.chan e).state = .shadowed ∨ e ∈ hits
  ends     : ∀ e ∈ hits, (u.chan e).shadowEnd = some (s.now + ms 1000)
  fresh    : ∀ e ∈ hits, (s.chan e).state ≠ .shadowed →
    (u.chan e).demand = [] ∧ (u.chan e).lingerEnd = none ∧ (u.chan e).window = none
  kept     : ∀ e, (s.chan e).state = .shadowed → u.chan e = { s.chan e with shadowEnd := (u.chan e).shadowEnd }

theorem Shadows.refl (s : State) : Shadows s s [] :=
  ⟨.refl _ _, fun _ => ⟨rfl, rfl⟩, fun _ => by simp, nofun, nofun, fun _ _ => rfl⟩

theorem Shadows.shadow {s u : State} {hits : List Chan} (h : Shadows s u hits) (c : Chan) : Shadows s (u.shadow c) (hits ++ [c]) := by
  have hnow : u.now = s.now := h.only.now rfl
  obtain ⟨hself, hends, hfresh, hkept, hseq⟩ := State.shadow_chan_self (u := u) (c := c)
  rw [hnow] at hends hkept
  have hmem : ∀ e, e ∈ hits ++ [c] → e ≠ c → e ∈ hits := fun e he hne =>
    (List.mem_append.mp he).resolve_right fun hc => hne (List.mem_singleton.mp hc)
  refine ⟨h.only.trans (State.shadow_only u c), fun e => ?_, fun e => ?_, fun e he => ?_, fun e he hne => ?_, fun e hs => ?_⟩
  · by_cases hec : e = c
    · subst hec
      exact ⟨hseq.1.trans (h.seqs e).1, hseq.2.trans (h.seqs e).2⟩
    · obtain ⟨_, _, _, ha, hv⟩ := State.shadow_chan_other (u := u) hec
      exact ⟨ha.trans (h.seqs e).1, hv.trans (h.seqs e).2⟩
  · by_cases hec : e = c
    · subst hec
      exact ⟨fun _ => .inr (by simp), fun _ => hself⟩
    · rw [(State.shadow_chan_other (u := u) hec).1, h.shadowed e]
      simp [hec]
  · by_cases hec : e = c
    · subst hec
      exact hends
    · rw [(State.shadow_chan_other (u := u) hec).2.1]
      exact h.ends e (hmem e he hec)
  · by_cases hec : e = c
    · subst hec
      by_cases hu : (u.chan e).state = .shadowed
      · have hin : e ∈ hits := ((h.shadowed e).mp hu).resolve_left hne
        rw [hkept hu]
        exact h.fresh e hin hne
      · exact hfresh hu
    · have hin := hmem e he hec
      rw [(State.shadow_chan_other (u := u) hec).2.2.1 ((h.shadowed e).mpr (.inr hin))]
      exact h.fresh e hin hne
  · have hu : (u.chan e).state = .shadowed := (h.shadowed e).mpr (.inl hs)
    by_cases hec : e = c
    · subst hec
      rw [hkept hu]
      have hk := h.kept e hs
      generalize u.chan e = x at hk
      rw [hk]
    · rw [(State.shadow_chan_other (u := u) hec).2.2.1 hu]
      exact h.kept e hs

theorem Shadows.foldl {s u : State} {hits : List Chan} (h : Shadows s u hits) (l : List Chan) :
    Shadows s (l.foldl State.shadow u) (hits ++ l) := by
  induction l generalizing u hits with
  | nil => rwa [List.append_nil]
  | cons c l ih =>
    have hstep := ih (h.shadow c)
    rwa [List.append_assoc, List.singleton_append] at hstep

/-- Nothing but shadow ends is renewed. -/
structure Renewed (s u : State) : Prop where
  only  : Only carryFoot s u
  trunk : u.trunk = s.trunk
  due   : u.carry.carryDue = s.carry.carryDue
  chan  : ∀ e, u.chan e = { s.chan e with shadowEnd := (u.chan e).shadowEnd }

theorem Renewed.refl (s : State) : Renewed s s := ⟨.refl _ _, rfl, rfl, fun _ => rfl⟩

theorem Renewed.foldl {s u : State} (h : Renewed s u) (l : List Chan) (hl : ∀ c ∈ l, (s.chan c).state = .shadowed) :
    Renewed s (l.foldl State.shadow u) := by
  induction l generalizing u with
  | nil => exact h
  | cons c l ih =>
    have hu : (u.chan c).state = .shadowed := by
      rw [h.chan]
      exact hl c List.mem_cons_self
    refine ih ?_ fun d hd => hl d (List.mem_cons_of_mem _ hd)
    have heq := State.shadow_of_shadowed hu
    refine ⟨h.only.trans (State.shadow_only u c), by rw [heq]; exact h.trunk, by rw [heq]; exact h.due, fun e => ?_⟩
    rw [heq, State.modChan_get]
    have hk := h.chan e
    split
    · next hec =>
      subst hec
      generalize u.chan e = x at hk
      rw [hk]
    · exact hk

/-- While the node is not RUNNING, shadowing touches the channels listed alone. -/
theorem State.shadow_of_not_running {u : State} (h : u.running = false) (c : Chan) :
    (u.shadow c).trunk = u.trunk ∧ (u.shadow c).carry.carryDue = u.carry.carryDue ∧ ∀ e, e ≠ c → (u.shadow c).chan e = u.chan e := by
  by_cases hs : (u.chan c).state = .shadowed
  · rw [State.shadow_of_shadowed hs]
    exact ⟨rfl, rfl, fun e he => (State.modChan_get ..).trans (if_neg he)⟩
  · have hoff : (u.offList c).running ≠ true := Bool.eq_false_iff.mp h
    have heq : u.shadow c = u.offList c := by
      rw [State.shadow_of_not_shadowed hs, State.sendCarry, if_neg hoff, State.carryDecision, if_neg hoff]
    rw [heq]
    exact ⟨rfl, rfl, fun e he => (u.offList_chan c e).trans (if_neg he)⟩

theorem State.foldl_shadow_of_not_running (l : List Chan) {u : State} (h : u.running = false) :
    (l.foldl State.shadow u).trunk = u.trunk ∧ (l.foldl State.shadow u).carry.carryDue = u.carry.carryDue ∧
      ∀ e, e ∉ l → (l.foldl State.shadow u).chan e = u.chan e := by
  induction l generalizing u with
  | nil => exact ⟨rfl, rfl, fun _ _ => rfl⟩
  | cons c l ih =>
    obtain ⟨htrunk, hdue, hchan⟩ := State.shadow_of_not_running h c
    have hrun : (u.shadow c).running = false := by
      rw [State.running, (State.shadow_only u c).startup rfl]
      exact h
    obtain ⟨htrunk', hdue', hchan'⟩ := ih hrun
    exact ⟨htrunk'.trans htrunk, hdue'.trans hdue, fun e he =>
      (hchan' e fun hc => he (List.mem_cons_of_mem _ hc)).trans (hchan e fun hc => he (hc ▸ List.mem_cons_self))⟩

/-! ## The records that follow -/

/-- A channel newly shadowed in RUNNING has one record of the list sent, and one more when the decision changes it (R80, R81). -/
theorem State.shadow_records {u : State} {c : Chan} (hrun : u.running = true) (h : (u.chan c).state ≠ .shadowed) :
    ∃ more : List (List CarryEntry), more ≠ [] ∧ more.getLast? = some (u.shadow c).carryList ∧
      (u.shadow c).trunk = (more.map fun l => handedBy u u (.carry l)).foldl Trunk.fed u.trunk ∧
      (u.shadow c).carry.carryDue = if (u.shadow c).carryList = [] then none else some (u.now + ms 250) := by
  have hoff : (u.offList c).running = true := hrun
  have hsend := State.sendCarry_of_running hoff
  have hrun' := State.offList_running (c := c) hrun
  have hlist : (u.offList c).sendCarry.carryList = (u.offList c).carryList := by rw [hsend]; rfl
  have hnow : (u.offList c).sendCarry.carryDecision.now = u.now := by
    rw [State.carryDecision_only _ |>.now rfl, State.sendCarry_only _ |>.now rfl]
    rfl
  have hstartup : (u.offList c).sendCarry.startup = u.startup := by
    rw [State.sendCarry_only _ |>.startup rfl]
    rfl
  have hfirst : (u.offList c).sendCarry.trunk = u.trunk.fed (handedBy u u (.carry (u.offList c).carryList)) := by
    rw [hsend]
    rfl
  rw [State.shadow_of_not_shadowed h]
  by_cases hsame : (u.offList c).sendCarry.carryDecision.carryList = (u.offList c).sendCarry.carryList
  · obtain ⟨htrunk, hdue⟩ := State.carryDecision_of_unchanged hrun' hsame
    refine ⟨[(u.offList c).carryList], nofun, by rw [hsame, hlist]; rfl, htrunk.trans hfirst, ?_⟩
    rw [hdue, hsame, hlist, hsend]
    rfl
  · obtain ⟨htrunk, hdue⟩ := State.carryDecision_of_changed hrun' hsame
    refine ⟨[(u.offList c).carryList, (u.offList c).sendCarry.carryDecision.carryList], nofun, rfl, ?_, ?_⟩
    · have hhanded : ∀ b, handedBy (u.offList c).sendCarry (u.offList c).sendCarry.carryDecision b = handedBy u u b := fun b => by
        rw [handedBy, handedBy, hstartup, hnow]
      rw [htrunk, hfirst, hhanded]
      rfl
    · rw [hdue, hnow]

/-- The records that follow the channels newly shadowed, one each at least. -/
structure Relisted (s u : State) (news : List Chan) (records : List (List CarryEntry)) : Prop where
  only   : Only carryFoot s u
  trunk  : u.trunk = (records.map fun l => handedBy s s (.carry l)).foldl Trunk.fed s.trunk
  last   : records ≠ [] → records.getLast? = some u.carryList ∧
    u.carry.carryDue = if u.carryList = [] then none else some (s.now + ms 250)
  fresh  : ∀ e, (u.chan e).state = .shadowed → (s.chan e).state = .shadowed ∨ e ∈ news
  count  : news.length ≤ records.length

theorem Relisted.shadow {s u : State} {news : List Chan} {records : List (List CarryEntry)} (h : Relisted s u news records)
    (hrun : u.running = true) (c : Chan) : ∃ news' records', Relisted s (u.shadow c) news' records' := by
  have honly := h.only.trans (State.shadow_only u c)
  by_cases hs : (u.chan c).state = .shadowed
  · have heq := State.shadow_of_shadowed hs
    have hstate : ∀ e, ((u.shadow c).chan e).state = (u.chan e).state := fun e => by
      rw [heq, State.modChan_get]
      split
      · next hec => rw [hec]
      · rfl
    have hlist : (u.shadow c).carryList = u.carryList :=
      State.carryList_congr (congrArg Startup.image ((State.shadow_only u c).startup rfl)) hstate
    have hdue : (u.shadow c).carry.carryDue = u.carry.carryDue := by rw [heq]; rfl
    refine ⟨news, records, honly, by rw [heq]; exact h.trunk, fun hr => ?_, fun e he => h.fresh e (by rw [← hstate]; exact he), h.count⟩
    rw [hlist, hdue]
    exact h.last hr
  · obtain ⟨more, hmore, hlast, htrunk, hdue⟩ := State.shadow_records hrun hs
    have hhanded : ∀ b, handedBy u u b = handedBy s s b := fun b => by
      rw [handedBy, handedBy, h.only.startup rfl, h.only.now rfl]
    refine ⟨news ++ [c], records ++ more, honly, ?_, fun _ => ⟨?_, by rw [hdue, h.only.now rfl]⟩, fun e he => ?_, ?_⟩
    · rw [htrunk, List.map_append, List.foldl_append, ← h.trunk]
      simp only [hhanded]
    · rw [List.getLast?_append, hlast]
      rfl
    · by_cases hec : e = c
      · exact .inr (by simp [hec])
      · rw [(State.shadow_chan_other (u := u) hec).1] at he
        exact (h.fresh e he).imp_right fun hin => List.mem_append_left _ hin
    · have hpos := List.length_pos_of_ne_nil hmore
      have hlength := h.count
      simp only [List.length_append, List.length_singleton]
      omega

theorem Relisted.foldl {s u : State} {news : List Chan} {records : List (List CarryEntry)} (h : Relisted s u news records)
    (hrun : s.running = true) (l : List Chan) : ∃ news' records', Relisted s (l.foldl State.shadow u) news' records' := by
  induction l generalizing u news records with
  | nil => exact ⟨news, records, h⟩
  | cons c l ih =>
    have hu : u.running = true := by
      rw [State.running, h.only.startup rfl]
      exact hrun
    obtain ⟨_, _, hstep⟩ := h.shadow hu c
    exact ih hstep

theorem Relisted.refl (s : State) : Relisted s s [] [] :=
  ⟨.refl _ _, rfl, fun h => absurd rfl h, fun _ => .inl, Nat.le_refl _⟩

/-- What a record and the decision after it left, told of states that are alike in all that it reads. -/
theorem recordThenDecision_congr {s s' t t' : State} {was : Chan → ChanState} (h : recordThenDecision s t was)
    (hstartup : s'.startup = s.startup) (hs : ∀ c, s'.chan c = s.chan c)
    (hqueued : ∀ l, queuedInC s t l → queuedInC s' t' l) (hnow : t'.now = t.now) (hdue : t'.carry.carryDue = t.carry.carryDue)
    (himage : t'.image = t.image) (ht : ∀ c, t'.chan c = { t.chan c with shadowEnd := (t'.chan c).shadowEnd }) :
    recordThenDecision s' t' was := by
  have hstate : ∀ c, (t'.chan c).state = (t.chan c).state := fun c => by rw [ht]
  have hdemand : ∀ c, (t'.chan c).demand = (t.chan c).demand := fun c => by rw [ht]
  have hlinger : ∀ c, (t'.chan c).lingerEnd = (t.chan c).lingerEnd := fun c => by rw [ht]
  have hwindow : ∀ c, (t'.chan c).window = (t.chan c).window ∧ (t'.chan c).trim = (t.chan c).trim ∧
      (t'.chan c).mode = (t.chan c).mode := fun c => by rw [ht]; exact ⟨rfl, rfl, rfl⟩
  have hbuffers : ∀ c, (t'.chan c).filling = (t.chan c).filling ∧ (t'.chan c).ready = (t.chan c).ready ∧
      (t'.chan c).audioSeq = (t.chan c).audioSeq ∧ (t'.chan c).videoSeq = (t.chan c).videoSeq := fun c => by
    rw [ht]
    exact ⟨rfl, rfl, rfl, rfl⟩
  have hcarried : ∀ c, (t'.chan c).carried = (t.chan c).carried := fun c => by rw [Channel.carried, hstate]; rfl
  have himage' : s'.image = s.image := congrArg Startup.image hstartup
  have hlist : t'.carryList = t.carryList := State.carryList_congr himage hstate
  obtain ⟨hrecords, hperiod, hdecided⟩ := h
  unfold recordThenDecision
  dsimp only
  rw [himage', hlist, hdue, hnow]
  refine ⟨hqueued _ hrecords, hperiod, fun hapart => ?_⟩
  have hd := hdecided hapart
  unfold carryDecided at hd ⊢
  simp only [State.inUse, State.chanProgram, himage', hs, hdemand, hstate, hlinger, (hwindow _).1, (hwindow _).2.1, (hwindow _).2.2,
    (hbuffers _).1, (hbuffers _).2.1, (hbuffers _).2.2.1, (hbuffers _).2.2.2, hcarried, hnow] at hd ⊢
  exact hd

end Sys2Proof.Machine
end

section
/-! CARRY records taken: O29. -/

namespace Sys2Proof.Machine

/-- The channels that the entries of a record name, one after the other (R81). -/
def Image.hits (im : Image) (l : List CarryEntry) : List Chan := l.filterMap fun e => im.feeder e.program

theorem Image.mem_hits {im : Image} {l : List CarryEntry} {c : Chan} : c ∈ im.hits l ↔ ∃ e ∈ l, im.feeder e.program = some c :=
  List.mem_filterMap

/-- A record of a lower station shadows the channels that it names. -/
theorem State.takeShadowing_of_lower {s : State} {source : Nat} (hstate : s.running = true ∨ s.startup.state = .listening)
    (hlower : source < s.startup.station) (l : List CarryEntry) :
    s.takeShadowing source l = (s.image.hits l).foldl State.shadow s := by
  unfold State.takeShadowing
  rw [if_pos ⟨hstate, hlower⟩]
  have key : ∀ (l : List CarryEntry) (u : State), u.image = s.image → l.foldl (fun t e => match t.image.feeder e.program with
      | some c => t.shadow c
      | none => t) u = (s.image.hits l).foldl State.shadow u := by
    intro l
    induction l with
    | nil => exact fun _ _ => rfl
    | cons e l ih =>
      intro u hu
      rw [List.foldl_cons, hu, Image.hits, List.filterMap_cons]
      cases hf : s.image.feeder e.program with
      | none => exact ih u hu
      | some c => exact ih (u.shadow c) ((congrArg Startup.image ((State.shadow_only u c).startup rfl)).trans hu)
  exact key l s rfl

theorem State.takeShadowing_of_not_lower {s : State} {source : Nat} (h : ¬source < s.startup.station) (l : List CarryEntry) :
    s.takeShadowing source l = s := if_neg fun hc => h hc.2

/-- The node when a CARRY record has been taken at the catalogue. -/
def State.catalogued (s : State) (source : Nat) (l : List CarryEntry) : State := (s.heard source).takeCatalogue source l

section
variable (s : State) (source : Nat) (l : List CarryEntry)

theorem State.catalogued_frame : s.catalogued source l = { s with
    trunk := (s.heard source).trunk,
    taps := { s.taps with
      catalogue := (s.catalogued source l).taps.catalogue,
      taps := (s.catalogued source l).taps.taps } } := by
  have hframe := State.takeCatalogue_frame source l (s.heard source)
  exact hframe

theorem State.catalogued_chan (c : Chan) : (s.catalogued source l).chan c = s.chan c := by
  rw [s.catalogued_frame source l]
  rfl

theorem exec_carry (hsource : s.takesFrom source = true) :
    exec (.carry source l) s = .next ((s.catalogued source l).takeShadowing source l) :=
  congrArg Host.Outcome.next (State.receive_of_takesFrom (b := .carry l) hsource rfl)

/-- Hearing a station and taking its record at the catalogue leave what class C is told by. -/
theorem queuedInC_of_catalogued {t : State} {bodies : List Body} (h : queuedInC (s.catalogued source l) t bodies) :
    queuedInC s t bodies := by
  rw [s.catalogued_frame source l] at h
  exact h

/-- What shadowing leaves of the node. -/
theorem State.takeShadowing_catalogued : ((s.catalogued source l).takeShadowing source l) = { s with
    trunk := ((s.catalogued source l).takeShadowing source l).trunk,
    taps := { s.taps with
      catalogue := (s.catalogued source l).taps.catalogue,
      taps := (s.catalogued source l).taps.taps },
    carry := ((s.catalogued source l).takeShadowing source l).carry } := by
  have honly := ((s.catalogued source l).takeShadowing_only source l).eq
  generalize (s.catalogued source l).takeShadowing source l = t at honly
  rw [s.catalogued_frame source l] at honly
  exact honly

end

/-- A record that shadows one channel newly, the others named being SHADOWED already: one record, the decision, and one more record
when it changes the list (R81). -/
theorem recordThenDecision_foldl_shadow {s : State} {c : Chan} (hrun : s.running = true) (hc : (s.chan c).state ≠ .shadowed)
    {hits : List Chan} (hin : c ∈ hits) (hothers : ∀ d ∈ hits, d ≠ c → (s.chan d).state = .shadowed) :
    recordThenDecision s (hits.foldl State.shadow s) (fun e => if e = c then .shadowed else (s.chan e).state) ∧
      ∀ e, e ≠ c → ((hits.foldl State.shadow s).chan e).demand = (s.chan e).demand := by
  obtain ⟨before, after, rfl, hfirst⟩ := List.eq_append_cons_of_mem hin
  rw [List.foldl_append, List.foldl_cons]
  have hbefore : Renewed s (before.foldl State.shadow s) := (Renewed.refl s).foldl before fun d hd =>
    hothers d (List.mem_append_left _ hd) fun h => hfirst (h ▸ hd)
  generalize before.foldl State.shadow s = u at hbefore ⊢
  have hstartup : u.startup = s.startup := hbefore.only.startup rfl
  have hu : u.running = true := by
    rw [State.running, hstartup]
    exact hrun
  have hstate : ∀ e, (u.chan e).state = (s.chan e).state := fun e => by rw [hbefore.chan]
  have huc : (u.chan c).state ≠ .shadowed := by rwa [hstate]
  have hafter : Renewed (u.shadow c) (after.foldl State.shadow (u.shadow c)) := (Renewed.refl _).foldl after fun d hd => by
    by_cases hdc : d = c
    · subst hdc
      exact (State.shadow_chan_self (u := u)).1
    · rw [(State.shadow_chan_other (u := u) hdc).1, hstate]
      exact hothers d (List.mem_append_right _ (List.mem_cons_of_mem _ hd)) hdc
  have hready : ∀ e, (s.chan e).readied ((u.offList c).chan e) := fun e => by
    rw [u.offList_chan]
    split
    · next hec =>
      subst hec
      rw [Channel.shadowedUntil_frame, hbefore.chan]
      exact ⟨⟨rfl, rfl, rfl, rfl⟩, .inr ⟨rfl, rfl, fun h => hc h.symm⟩⟩
    · rw [hbefore.chan]
      exact Channel.readied_of_eq rfl
  have hwas : (fun e => ((u.offList c).chan e).state) = fun e => if e = c then .shadowed else (s.chan e).state := funext fun e => by
    rw [u.offList_chan]
    split
    · rfl
    · exact hstate e
  have hrecord := State.recordThenDecision_sendCarry (s := s) (u := u.offList c) hu hstartup hbefore.trunk hready
  rw [hwas, ← State.shadow_of_not_shadowed huc] at hrecord
  have hshadowOnly := State.shadow_only u c
  refine ⟨recordThenDecision_congr hrecord rfl (fun _ => rfl) (fun bodies h => ?_) (hafter.only.now rfl) hafter.due
    (congrArg Startup.image (hafter.only.startup rfl)) hafter.chan, fun e he => ?_⟩
  · have hhanded : handedBy s (after.foldl State.shadow (u.shadow c)) = handedBy s (u.shadow c) := funext fun b => by
      rw [handedBy, handedBy, hafter.only.now rfl]
    rw [queuedInC, hafter.trunk, hhanded]
    exact h
  · rw [hafter.chan, State.shadow_of_not_shadowed huc, State.carryDecision_demand (State.offList_running hu),
      State.sendCarry_chan_eq, u.offList_chan, if_neg he, hbefore.chan]

/-- Settles O29: the catalogue by its last entry for each program, the channels by the order in which they are named. -/
theorem carryRecordsAreTaken : Obligations.CarryRecordsAreTaken := by
  unfold Obligations.CarryRecordsAreTaken
  refine ⟨fun s source l hsource => ?_, fun s source l c hsource hstate hlower hlisted => ?_⟩
  · have hframe := s.takeShadowing_catalogued source l
    have hexec := exec_carry s source l hsource
    have hnotLower : s.startup.station < source → (s.catalogued source l).takeShadowing source l = s.catalogued source l :=
      fun h => State.takeShadowing_of_not_lower (by
        rw [s.catalogued_frame source l]
        exact Nat.not_lt.mpr h.le) l
    generalize (s.catalogued source l).takeShadowing source l = t at hframe hexec hnotLower
    have hcat : ∀ q, t.catEntry? q = (s.catalogued source l).catEntry? q := fun q => by rw [hframe]; rfl
    have htap : ∀ q, t.tap? q = (s.catalogued source l).tap? q := fun q => by rw [hframe]; rfl
    refine ⟨t, hexec, fun q hq => ?_, fun q e h1 h63 hlast => ?_, ?_, ?_, fun h => ?_⟩
    · obtain ⟨hc, ht⟩ := State.takeCatalogue_other source q l hq (s.heard source)
      exact ⟨(hcat q).trans hc, (htap q).trans ht⟩
    · obtain ⟨hc, ht⟩ := State.takeCatalogue_listed source h1 h63 e l hlast (s.heard source)
      have hprogram : e.program = q := by
        have hmem := (List.mem_filter.mp (List.mem_of_getLast? hlast)).2
        exact beq_iff_eq.mp hmem
      have hnew : listedBy e source (s.heard source).now =
          { program := q, source := source, kind := e.kind, status := e.status, listed := s.now } := by
        rw [← hprogram]
        rfl
      have hcat' : t.catEntry? q = _ := (hcat q).trans hc
      have htap' : t.tap? q = _ := (htap q).trans ht
      rw [hnew] at hcat'
      have hheard : (s.heard source).catEntry? q = s.catEntry? q := rfl
      have hheardTap : (s.heard source).tap? q = s.tap? q := rfl
      rw [hheard] at hcat' htap'
      rw [hheardTap] at htap'
      refine ⟨fun h hh hlt => ?_, fun hall => ?_, fun h hh heq => ?_, fun hall x hx => ?_⟩
      · rw [hcat', htap', hh]
        exact ⟨if_neg (by simp; omega), if_neg (by simp; omega)⟩
      · rw [hcat', if_pos hall]
      · rw [htap', hh]
        exact if_neg (by simp [heq])
      · rw [if_pos hall, hx] at htap'
        refine ⟨fun hnone => ?_, fun hsame => ?_, fun o ho hne => ?_⟩
        · rw [htap', Option.map_some, Tap.retarget, hnone]
        · rw [htap', Option.map_some, Tap.retarget, hsame]
          exact congrArg some (if_pos rfl)
        · rw [htap', Option.map_some, Tap.retarget, ho]
          exact congrArg some (if_neg hne)
    · rw [hframe]
    · rw [hframe]
    · rw [hnotLower h, s.catalogued_frame source l]
      exact ⟨rfl, rfl⟩
  · have hframe := s.takeShadowing_catalogued source l
    have hexec := exec_carry s source l hsource
    have hcatalogued := s.catalogued_frame source l
    have hchan := s.catalogued_chan source l
    have hqueued : ∀ t bodies, queuedInC (s.catalogued source l) t bodies → queuedInC s t bodies :=
      fun _ _ => queuedInC_of_catalogued s source l
    generalize s.catalogued source l = u at hframe hexec hcatalogued hchan hqueued
    have hstartup : u.startup = s.startup := by rw [hcatalogued]
    have hnow : u.now = s.now := by rw [hcatalogued]
    have hrunning : u.running = s.running := by rw [State.running, hstartup]; rfl
    have hhits : u.takeShadowing source l = (s.image.hits l).foldl State.shadow u := by
      rw [State.takeShadowing_of_lower (by rw [hrunning, hstartup]; exact hstate) (by rw [hstartup]; exact hlower)]
      rw [State.image, hstartup]
      rfl
    have hmem : ∀ d, d ∈ s.image.hits l ↔ ∃ e ∈ l, s.image.feeder e.program = some d := fun d => Image.mem_hits
    have hshadows := (Shadows.refl u).foldl (s.image.hits l)
    rw [List.nil_append] at hshadows
    have hrecords := fun h => (Relisted.refl u).foldl h (s.image.hits l)
    have hidle := fun h => State.foldl_shadow_of_not_running (s.image.hits l) (u := u) h
    have hrenewed := fun h => (Renewed.refl u).foldl (s.image.hits l) h
    have hsole := fun h hc hothers => recordThenDecision_foldl_shadow (s := u) (c := c) h hc ((hmem c).mpr hlisted) hothers
    rw [hhits] at hframe hexec
    generalize (s.image.hits l).foldl State.shadow u = t at *
    have hc : c ∈ s.image.hits l := (hmem c).mpr hlisted
    refine ⟨t, hexec, (hshadows.shadowed c).mpr (.inr hc), by rw [hshadows.ends c hc, hnow], fun hne => hshadows.fresh c hc (by rwa [hchan]),
      fun heq => ?_, ?_, ?_, ?_, ?_⟩
    · have hkept := hshadows.kept c (by rw [hchan]; exact heq)
      rw [hshadows.ends c hc, hnow, hchan] at hkept
      exact hkept
    · rw [(hshadows.seqs c).1, hchan]
    · rw [(hshadows.seqs c).2, hchan]
    · rw [hframe]
    intro newly
    have hnewly : ∀ d, newly d ↔ (u.chan d).state ≠ .shadowed ∧ d ∈ s.image.hits l := fun d => by rw [hchan, hmem]
    refine ⟨fun hrun hnew => ?_, fun h => ?_⟩
    · have hu : u.running = true := hrunning.trans hrun
      have hfresh : (u.chan c).state ≠ .shadowed := by
        rw [hchan]
        exact hnew.1
      obtain ⟨news, records, hlisted'⟩ := hrecords hu
      have hmemNews : ∀ d, newly d → d ∈ news := fun d hd => by
        obtain ⟨hd, hin⟩ := (hnewly d).mp hd
        exact (hlisted'.fresh d ((hshadows.shadowed d).mpr (.inr hin))).resolve_left hd
      have hcount : ∀ chans : List Chan, chans.Nodup → (∀ d ∈ chans, newly d) → chans.length ≤ records.length :=
        fun chans hnodup hall => ((List.subperm_of_subset hnodup fun d hd => hmemNews d (hall d hd)).length_le).trans hlisted'.count
      have hsome : records ≠ [] := by
        have h1 := hcount [c] (List.nodup_singleton c) fun d hd => by rwa [List.mem_singleton.mp hd]
        exact fun h => by simp [h] at h1
      obtain ⟨hlast, hdue⟩ := hlisted'.last hsome
      refine ⟨by rw [hdue, hnow], ⟨records, hlast, hqueued _ _ (queuedInC_of_fed (fun b hb => ?_) ?_), hcount⟩, fun hsingle => ?_⟩
      · obtain ⟨_, _, rfl⟩ := List.mem_map.mp hb
        rfl
      · have hhanded : handedBy u t = handedBy u u := funext fun b => by rw [handedBy, handedBy, hshadows.only.now rfl]
        rw [hlisted'.trunk, List.map_map, hhanded]
        rfl
      · obtain ⟨hrecord, hdemand⟩ := hsole hu hfresh fun d hd hne => by
          by_contra hs
          exact hne (hsingle d ((hnewly d).mpr ⟨hs, hd⟩))
        simp only [hchan] at hrecord hdemand
        exact ⟨recordThenDecision_congr hrecord hstartup.symm (fun d => (hchan d).symm) (hqueued t) rfl rfl rfl fun _ => rfl, hdemand⟩
    · have htrunk : u.trunk = (s.heard source).trunk := by rw [hcatalogued]
      have hdue : u.carry.carryDue = s.carry.carryDue := by rw [hcatalogued]
      obtain hrun | hnone := h
      · obtain ⟨ht, hd, hother⟩ := hidle (hrunning.trans hrun)
        refine ⟨ht.trans htrunk, hd.trans hdue, fun e he => ?_⟩
        by_cases hs : (u.chan e).state = .shadowed
        · have hkept := hshadows.kept e hs
          rwa [hchan] at hkept
        · rw [hother e fun hin => he ((hnewly e).mpr ⟨hs, hin⟩), hchan]
      · have hren := hrenewed fun d hd => by
          by_contra hs
          exact hnone d ((hnewly d).mpr ⟨hs, hd⟩)
        refine ⟨hren.trunk.trans htrunk, hren.due.trans hdue, fun e _ => ?_⟩
        have hkept := hren.chan e
        rwa [hchan] at hkept

end Sys2Proof.Machine
end

section
/-! A voice left free serves its pending list (R118, R120, R125): the link, the berth record and the records that it leaves. -/

namespace Sys2Proof.Machine

/-! ## What frames and cards leave of a link -/

/-- The control frames that a link holds, and the one that a card may add while none is outstanding (R147, R158). -/
def Link.load (l : Link) : Nat := l.control.length + if l.outstanding.isSome then 0 else 1

/-- A link that has gone on from another: cards handed to it, and a number of control frames beside them. -/
structure LinkOn (l l' : Link) (n : Nat) : Prop where
  state : l'.state = l.state
  video : l'.video = l.video
  flush : l'.counters.videoFlush = l.counters.videoFlush
  load  : l'.load ≤ l.load + n
  holds : ∀ f, l.holds f → l'.holds f
  busy  : l.sending.isSome = true → l'.sending = l.sending ∧ l'.resets = l.resets ∧ l'.cuts = l.cuts ∧ ∃ more, l'.control = l.control ++ more

namespace LinkOn

theorem refl (l : Link) : LinkOn l l 0 :=
  ⟨rfl, rfl, rfl, Nat.le_refl _, fun _ => id, fun _ => ⟨rfl, rfl, rfl, [], (List.append_nil _).symm⟩⟩

theorem trans {l l' l'' : Link} {m n : Nat} (h : LinkOn l l' m) (k : LinkOn l' l'' n) : LinkOn l l'' (m + n) where
  state := k.state.trans h.state
  video := k.video.trans h.video
  flush := k.flush.trans h.flush
  load := by
    have := h.load
    have := k.load
    omega
  holds f hf := k.holds f (h.holds f hf)
  busy hb := by
    obtain ⟨hs, hr, hc, more, hm⟩ := h.busy hb
    obtain ⟨ks, kr, kc, more', km⟩ := k.busy (by rw [hs]; exact hb)
    exact ⟨ks.trans hs, kr.trans hr, kc.trans hc, more ++ more', by rw [km, hm, List.append_assoc]⟩

end LinkOn

theorem Link.kick_control_length_le (l : Link) : l.kick.control.length ≤ l.control.length := by
  unfold Link.kick
  cases l.sending with
  | some f => exact Nat.le_refl _
  | none =>
    cases l.resets with
    | cons f r => exact Nat.le_refl _
    | nil =>
      dsimp only
      split
      · cases hc : l.control with
        | cons f r => exact Nat.le_succ _
        | nil =>
          cases l.audio with
          | some f => simp
          | none =>
            cases l.video with
            | nil => simp [hc]
            | cons c r =>
              dsimp only
              split <;> simp [hc]
      · exact Nat.le_refl _

/-- A transmitter that has a control frame to send takes no video. -/
theorem Link.kick_video_of_control {l : Link} (h : l.control ≠ []) : l.kick.video = l.video := by
  obtain ⟨f, r, hc⟩ := List.exists_cons_of_ne_nil h
  unfold Link.kick
  rw [hc]
  cases l.sending with
  | some g => rfl
  | none =>
    cases l.resets with
    | cons g q => rfl
    | nil =>
      dsimp only
      split <;> rfl

theorem Link.handControl_on (l : Link) (f : SeatFrame) : LinkOn l (l.handControl f) 1 := by
  have hframe := l.handControl_frame f
  have hcounters := l.handControl_counters f
  have hlength : (l.handControl f).control.length ≤ l.control.length + 1 := by
    unfold Link.handControl Link.handControlTold
    split
    · split
      · exact (Link.kick_control_length_le _).trans (by simp)
      · exact Nat.le_succ _
    · exact Nat.le_succ _
  have hload : (l.handControl f).load ≤ l.load + 1 := by
    have hout : (l.handControl f).outstanding = l.outstanding := by rw [hframe]
    rw [Link.load, Link.load, hout]
    omega
  refine ⟨by rw [hframe], ?_, by rw [hcounters], hload, fun g hg => Link.handControl_holds hg f, fun hb => ?_⟩
  · unfold Link.handControl Link.handControlTold
    split
    · split
      · exact Link.kick_video_of_control (by simp)
      · rfl
    · rfl
  · unfold Link.handControl Link.handControlTold
    split
    · split
      · dsimp only
        rw [Link.kick_busy { l with control := l.control ++ [f] } hb]
        exact ⟨rfl, rfl, rfl, [f], rfl⟩
      · exact ⟨rfl, rfl, rfl, [], (List.append_nil _).symm⟩
    · exact ⟨rfl, rfl, rfl, [], (List.append_nil _).symm⟩

theorem Link.handCard_on (l : Link) (now : Time) (c : Card) : LinkOn l (l.handCard now c) 0 := by
  unfold Link.handCard
  split
  · split
    · next hnone =>
      obtain ⟨o, heq, _⟩ := l.putOutstanding_eq now c
      have h := Link.handControl_on { l with cardSerial := l.cardSerial + 1 } (.caption c l.cardSerial)
      have hout : (Link.handControl { l with cardSerial := l.cardSerial + 1 } (.caption c l.cardSerial)).outstanding = none := by
        rw [Link.handControl_frame]
        exact hnone
      have hload := h.load
      rw [Link.load, Link.load, hout] at hload
      rw [heq]
      refine ⟨h.state, h.video, h.flush, ?_, h.holds, h.busy⟩
      rw [Link.load, Link.load]
      simp only [hnone, Option.isSome_none, Option.isSome_some, Bool.false_eq_true, if_true, if_false] at hload ⊢
      omega
    · obtain ⟨q, lost⟩ := pushDropOldest 4 l.waiting c
      refine ⟨rfl, rfl, ?_, Nat.le_refl _, fun _ => id, fun _ => ⟨rfl, rfl, rfl, [], (List.append_nil _).symm⟩⟩
      dsimp only
      split <;> rfl
  · exact .refl l

/-- The emergency flush of an UP link (R157). -/
theorem Link.flushVideo_spec {l : Link} (hup : l.state = .up) : l.flushVideo.state = .up ∧ l.flushVideo.video = [] ∧
    l.flushVideo.counters.videoFlush = bumpBy l.video.length l.counters.videoFlush ∧ l.flushVideo.load ≤ l.load ∧
    (∀ f, (∀ c, f ≠ .video c) → l.holds f → l.flushVideo.holds f) ∧
    (∀ c, l.sending = some (.video c) → l.flushVideo.cuts = l.cuts + 1 ∧
      ∀ f r, l.resets = [] → l.control = f :: r → l.flushVideo.sending = some f) := by
  have heq : l.flushVideo = Link.kick (Link.cutVideo { l with
      video := [], counters := { l.counters with videoFlush := bumpBy l.video.length l.counters.videoFlush } }) := if_pos hup
  generalize hx : ({ l with video := [], counters := { l.counters with
    videoFlush := bumpBy l.video.length l.counters.videoFlush } } : Link) = x at heq
  have hcut := x.cutVideo_frame
  have hkick := (Link.cutVideo x).kick_frame
  have hcontrol : x.control = l.control := by rw [← hx]
  have hout : x.outstanding = l.outstanding := by rw [← hx]
  have hsending : x.sending = l.sending := by rw [← hx]
  refine ⟨?_, ?_, ?_, ?_, fun f hf hheld => ?_, fun c hc => ⟨?_, fun f r hresets hcontrol' => ?_⟩⟩
  · rw [heq, hkick, hcut, ← hx]
    exact hup
  · have hempty : (Link.cutVideo x).video = [] := by rw [hcut, ← hx]
    rw [heq]
    unfold Link.kick
    split
    · exact hempty
    · split
      · exact hempty
      · split
        · split
          · exact hempty
          · exact hempty
          · next hv => rw [hempty] at hv; exact absurd hv nofun
          · exact hempty
        · exact hempty
  · rw [heq, hkick, hcut, ← hx]
  · have hlength := (Link.cutVideo x).kick_control_length_le
    rw [← heq] at hlength
    have hc : (Link.cutVideo x).control = l.control := by rw [hcut]; exact hcontrol
    have ho : l.flushVideo.outstanding = l.outstanding := by rw [heq, hkick, hcut]; exact hout
    rw [hc] at hlength
    rw [Link.load, Link.load, ho]
    omega
  · rw [heq]
    refine Link.kick_holds ?_
    have hcutControl : (Link.cutVideo x).control = l.control := by rw [hcut]; exact hcontrol
    obtain hs | hc := hheld
    · rw [x.cutVideo_other fun c hc => hf c (Option.some.inj (hs.symm.trans (hsending.symm.trans hc)))]
      exact .inl (hsending.trans hs)
    · exact .inr (hcutControl ▸ hc)
  · rw [heq, hkick, x.cutVideo_video c (hsending.trans hc), ← hx]
  · rw [heq, x.cutVideo_video c (hsending.trans hc), Link.kick_control (l := { x with sending := none, cuts := x.cuts + 1 }) rfl
      (by rw [← hx]; exact hresets) (by rw [← hx]; exact hup) (hcontrol.trans hcontrol')]

/-! ## The level on the way -/

/-- The level of a berth whose screen is shown ON (R17). -/
def State.onLevel (s : State) (b : Berth) : Nat := s.image.level s.profile.dimBank b.brightness

/-- The level last reported and the link of a berth on the way of an event: no level frame has been handed, or one of the level of
a screen that is ON. -/
def Mid (s : State) (p : Port) (b : Berth) (r : Option Nat) (l : Link) : Prop :=
  (r = (s.berth p).reported ∧ LinkOn s.links[p] l 0) ∨
    (r = some (s.onLevel b) ∧ b.screen = .on ∧ LinkOn s.links[p] l 1 ∧
      (s.links[p].control.length ≤ 12 → l.holds (.screenLevel (s.onLevel b))))

section
variable {s : State} {p : Port} {b : Berth} {r : Option Nat} {l : Link}

theorem Mid.handCard (h : Mid s p b r l) (now : Time) (c : Card) : Mid s p b r (l.handCard now c) := by
  have hon := l.handCard_on now c
  obtain ⟨hr, hl⟩ | ⟨hr, hscreen, hl, hholds⟩ := h
  · exact .inl ⟨hr, hl.trans hon⟩
  · exact .inr ⟨hr, hscreen, hl.trans hon, fun hc => hon.holds _ (hholds hc)⟩

theorem Mid.linkOn (h : Mid s p b r l) : LinkOn s.links[p] l 1 := by
  obtain ⟨_, hl⟩ | ⟨_, _, hl, _⟩ := h
  · exact ⟨hl.state, hl.video, hl.flush, hl.load.trans (Nat.le_succ _), hl.holds, hl.busy⟩
  · exact hl

/-- A control queue that has room for a level frame. -/
theorem Mid.room (h : LinkOn s.links[p] l 0) (hc : s.links[p].control.length ≤ 12) : l.control.length < 16 := by
  have hload := h.load
  have hout : (if s.links[p].outstanding.isSome then 0 else 1) ≤ 1 := by split <;> omega
  simp only [Link.load] at hload
  have hlength : l.control.length ≤ s.links[p].control.length + 1 := by
    split at hload <;> split at hload <;> omega
  omega

/-- The level of a screen that is ON is reported, in a frame when it is new. -/
theorem Mid.report (h : Mid s p b r l) (hup : s.links[p].state = .up) (hscreen : b.screen = .on) :
    Mid s p b (some (s.onLevel b)) ((levelFrames r (s.onLevel b)).foldl Link.handControl l) := by
  unfold levelFrames
  by_cases hr : r = some (s.onLevel b)
  · rw [if_pos hr, ← hr]
    exact h
  · rw [if_neg hr]
    obtain ⟨_, hl⟩ | ⟨hreported, _⟩ := h
    · exact .inr ⟨rfl, hscreen, hl.trans (l.handControl_on _), fun hc =>
        Link.holds_handControl (hl.state.trans hup) (Mid.room hl hc) _⟩
    · exact absurd hreported hr

end

/-- A state on the way of an event at one port, from the state that the event found: the berth record made so far, but for hold and
level, and the hold. -/
structure Turns (s u : State) (p : Port) (now : Time) (b : Berth) (h : Bool) : Prop where
  startup : u.startup = s.startup
  phase   : u.phase.own = s.phase.own
  now     : u.now = now
  berth   : u.berth p = { b with hold := h, reported := (u.berth p).reported }
  mid     : Mid s p b (u.berth p).reported u.links[p]

section
variable {s u v : State} {p : Port} {now : Time} {b : Berth} {h : Bool}

theorem Turns.image (k : Turns s u p now b h) : u.image = s.image := by rw [State.image, k.startup]; rfl

theorem Turns.profile (k : Turns s u p now b h) : u.profile = s.profile := by
  rw [State.profile, State.profile, k.image]
  simp only [k.phase]

theorem Turns.inService (k : Turns s u p now b h) : u.inService p = s.inService p := by rw [State.inService, k.image]; rfl

theorem Turns.linkUp (k : Turns s u p now b h) : u.linkUp p = s.linkUp p := by
  rw [State.linkUp, k.mid.linkOn.state]
  rfl

/-- The level of a berth whose screen is shown ON. -/
theorem Turns.screenLevel (k : Turns s u p now b h) (hon : b.screen = .on ∨ h = true) : u.screenLevel p = s.onLevel b := by
  have hshown : (u.berth p).shown = .on := by
    rw [k.berth, Berth.shown]
    cases h
    · exact hon.resolve_right nofun
    · rfl
  have hbrightness : (u.berth p).brightness = b.brightness := by rw [k.berth]
  simp only [State.screenLevel, Berth.level, hshown, hbrightness, k.image, k.profile]
  rfl

/-- A step that leaves the berth record and hands cards at most. -/
theorem Turns.step (k : Turns s u p now b h) (hstartup : v.startup = u.startup) (hphase : v.phase = u.phase) (hnow : v.now = u.now)
    (hberth : v.berth p = u.berth p) (hlink : v.links[p] = u.links[p] ∨ ∃ c, v.links[p] = u.links[p].handCard u.now c) :
    Turns s v p now b h where
  startup := hstartup.trans k.startup
  phase := by rw [hphase]; exact k.phase
  now := hnow.trans k.now
  berth := by rw [hberth]; exact k.berth
  mid := by
    rw [hberth]
    obtain hl | ⟨c, hl⟩ := hlink
    · rw [hl]
      exact k.mid
    · rw [hl]
      exact k.mid.handCard _ c

theorem Turns.fix (k : Turns s u p now b h) (id : AnnId) (o : BerthOutcome) : Turns s (u.fix id p o) p now b h :=
  k.step rfl rfl rfl rfl (.inl rfl)

theorem Turns.modVoice (k : Turns s u p now b h) (f : Voice → Voice) : Turns s (u.modVoice p f) p now b h :=
  k.step rfl rfl rfl rfl (.inl rfl)

theorem Turns.showCard (k : Turns s u p now b h) (id : AnnId) : Turns s (u.showCard id p) p now b h := by
  cases he : u.entry? id with
  | none =>
    have heq : u.showCard id p = u := by rw [State.showCard, he]
    rwa [heq]
  | some e =>
    rw [u.showCard_eq id p he]
    split
    · exact k.step rfl rfl rfl rfl (.inr ⟨_, State.modLink_self ..⟩)
    · exact k

/-- A recomputation while the screen is ON. -/
theorem Turns.recompute (k : Turns s u p now b h) (hup : s.linkUp p = true) (hscreen : b.screen = .on) :
    Turns s (u.recompute p) p now b h ∧ (s.inService p = true → ((u.recompute p).berth p).reported = some (s.onLevel b)) := by
  have hlevel := k.screenLevel (.inl hscreen)
  obtain ⟨hlink, hberth⟩ := State.recompute_self (s := u) (p := p)
  have heq := u.recompute_eq p
  rw [k.inService, k.linkUp, hup, hlevel] at hlink hberth
  cases hservice : s.inService p with
  | false =>
    rw [State.recompute_of_out (k.inService.trans hservice)]
    exact ⟨k, fun hc => absurd hc nofun⟩
  | true =>
    rw [hservice] at hlink hberth
    simp only [Bool.and_self, if_true] at hlink hberth
    refine ⟨⟨by rw [heq]; exact k.startup, by rw [heq]; exact k.phase, by rw [heq]; exact k.now, ?_, ?_⟩, fun _ => by rw [hberth]⟩
    · rw [hberth, k.berth]
    · rw [hberth, hlink]
      exact k.mid.report (beq_iff_eq.mp hup) hscreen

theorem Berth.woken_screen (b : Berth) (now : Time) : (b.woken now).screen = .on := by
  unfold Berth.woken
  split <;> rfl

theorem Berth.woken_brightness (b : Berth) (now : Time) : (b.woken now).brightness = b.brightness := by
  unfold Berth.woken
  split <;> rfl

theorem Berth.woken_with (b : Berth) (now : Time) (h : Bool) (r : Option Nat) :
    Berth.woken { b with hold := h, reported := r } now = { b.woken now with hold := h, reported := r } := by
  unfold Berth.woken
  split <;> rfl

theorem Mid.woken {r : Option Nat} {l : Link} (m : Mid s p b r l) : Mid s p (b.woken now) r l := by
  have hlevel : s.onLevel (b.woken now) = s.onLevel b := by rw [State.onLevel, Berth.woken_brightness]; rfl
  obtain hm | ⟨hr, _, hl, hholds⟩ := m
  · exact .inl hm
  · exact .inr ⟨by rw [hlevel]; exact hr, Berth.woken_screen .., hl, by rw [hlevel]; exact hholds⟩

/-- The wake of a berth with an UP link. -/
theorem Turns.wake (k : Turns s u p now b h) (hup : s.linkUp p = true) :
    Turns s (u.wake p) p now (b.woken now) h ∧
      (s.inService p = true → ((u.wake p).berth p).reported = some (s.onLevel (b.woken now))) := by
  have hwoken : (u.modBerth p fun x => x.wake u.now).berth p =
      { b.woken now with hold := h, reported := (u.berth p).reported } := by
    rw [State.modBerth_self, Berth.wake_eq_woken, k.now, ← Berth.woken_with, ← k.berth]
  have k' : Turns s (u.modBerth p fun x => x.wake u.now) p now (b.woken now) h :=
    ⟨k.startup, k.phase, k.now, by rw [hwoken], by rw [hwoken]; exact k.mid.woken⟩
  exact k'.recompute hup (Berth.woken_screen ..)

/-- The level of a screen that is ON has been reported, where the port is in service. -/
def Told (s u : State) (p : Port) (b : Berth) : Prop :=
  s.inService p = true → (u.berth p).reported = some (s.onLevel b)

/-- The berth of an announcement enters emergency service, its screen being ON and reported already (R125, R157). -/
theorem Turns.enterEmergency (k : Turns s u p now b h) (hup : s.linkUp p = true) (hscreen : b.screen = .on)
    (htold : Told s u p b) : ∃ r l,
    Mid s p b r l ∧ (u.enterEmergency p).berth p = { b with hold := true, reported := r } ∧
      (u.enterEmergency p).links[p] = (if h then l else l.flushVideo) ∧ (s.inService p = true → r = some (s.onLevel b)) := by
  have hhold : (u.berth p).hold = h := by rw [k.berth]
  cases h with
  | true =>
    have heq : u.enterEmergency p = u := if_pos hhold
    rw [heq]
    exact ⟨_, _, k.mid, k.berth, rfl, htold⟩
  | false =>
    have heq : u.enterEmergency p = (u.setHold p true).modLink p Link.flushVideo := if_neg (by rw [hhold]; exact Bool.false_ne_true)
    have hset : (u.modBerth p fun x => { x with hold := true }).berth p =
        { b with hold := true, reported := (u.berth p).reported } := by
      rw [State.modBerth_self, k.berth]
    have k' : Turns s (u.modBerth p fun x => { x with hold := true }) p now b true :=
      ⟨k.startup, k.phase, k.now, by rw [hset], by rw [hset]; exact k.mid⟩
    obtain ⟨kset, hreported⟩ := k'.recompute hup hscreen
    rw [heq]
    exact ⟨_, _, kset.mid, kset.berth, State.modLink_self .., hreported⟩

end

end Sys2Proof.Machine
end

section
/-! A voice left free serves its pending list: what the list comes to (R118, R120). -/

namespace Sys2Proof.Machine

/-! ## One turn -/

section
variable {s u : State} {p : Port} {now : Time} {b : Berth} {h : Bool}

/-- The decision of a turn depends on the berth record but for its hold and level (R116). -/
theorem Turns.decision (k : Turns s u p now b h) (c : AnnClass) :
    u.decision c p = (s.modBerth p fun _ => b).decision c p := by
  have hup : (s.modBerth p fun _ => b).linkUp p = s.linkUp p := rfl
  have hprofile : (s.modBerth p fun _ => b).profile = s.profile := rfl
  rw [State.decision, State.decision, k.linkUp, k.profile, hup, hprofile, State.modBerth_self, k.berth]
  cases c <;> rfl

/-- A decision other than UNREACHABLE is made while the link is UP. -/
theorem Turns.linkUp_of_decision (k : Turns s u p now b h) {c : AnnClass} (hd : u.decision c p ≠ .unreachable) :
    s.linkUp p = true := by
  by_contra hdown
  rw [State.decision, k.linkUp, if_neg hdown] at hd
  exact hd rfl

/-- A turn that fixes an outcome, with a card shown for CAPTION and MISSED (R118, R127). -/
def State.pass (u : State) (id : AnnId) (p : Port) (o : BerthOutcome) : State :=
  if (Role.fixed o).shown then (u.fix id p o).showCard id p else u.fix id p o

theorem Turns.pass (k : Turns s u p now b h) (id : AnnId) (o : BerthOutcome) : Turns s (u.pass id p o) p now b h := by
  unfold State.pass
  split
  · exact (k.fix id o).showCard id
  · exact k.fix id o

theorem State.showCard_frame (u : State) (id : AnnId) (p : Port) : u.showCard id p =
    { u with voice := (u.showCard id p).voice, links := (u.showCard id p).links } := by
  unfold State.showCard
  split
  · rfl
  · split <;> rfl

theorem State.showCard_berthVoice (u : State) (id : AnnId) (p q : Port) : (u.showCard id p).berthVoice q = u.berthVoice q := by
  unfold State.showCard
  split
  · rfl
  · split <;> rfl

theorem State.pass_berthVoice (u : State) (id : AnnId) (p : Port) (o : BerthOutcome) (q : Port) :
    (u.pass id p o).berthVoice q = u.berthVoice q := by
  unfold State.pass
  split
  · rw [State.showCard_berthVoice]
    rfl
  · rfl

theorem State.pass_atPort (u : State) (id : AnnId) (p : Port) (o : BerthOutcome) : AtPort p u (u.pass id p o) :=
  .ite ((u.fix_atPort p id o).trans (State.showCard_atPort _ p id)) (u.fix_atPort p id o)

/-- The record of the announcement whose turn it is. -/
theorem State.record?_pass (u : State) (id : AnnId) (p : Port) (o : BerthOutcome) (j : AnnId) (q : Port) :
    (u.pass id p o).record? j q = if j = id ∧ q = p then
      (u.record? id p).map fun r => { r.fixedTo o with card := ((Role.fixed o).shown && u.linkUp p) || (r.fixedTo o).card }
      else u.record? j q := by
  unfold State.pass
  cases hshown : (Role.fixed o).shown with
  | false =>
    rw [if_neg Bool.false_ne_true, State.record?_fix]
    simp
  | true =>
    rw [if_pos rfl, State.record?_showCard]
    split
    · rw [State.record?_fix, if_pos ⟨rfl, rfl⟩, Option.map_map]
      rfl
    · next hne => rw [State.record?_fix, if_neg hne]

/-- A turn that decides against audio. -/
theorem State.turn_of_pass (u : State) (p : Port) (e : Entry) :
    u.turn p e .unreachable = u.pass e.desc.id p (.declined .unreachable) ∧ u.turn p e .decline = u.pass e.desc.id p (.declined .policy) ∧
      u.turn p e .caption = u.pass e.desc.id p .caption := ⟨rfl, rfl, rfl⟩

/-- A turn that decides for audio: the announcement is MISSED when it is too late, and else taken into the voice (R118). -/
theorem State.turn_audio (u : State) (p : Port) (e : Entry) (w : Bool) : u.turn p e (.audio w) =
    if e.tooLate then (if w then u.wake p else u).pass e.desc.id p .missed
    else (if w then u.wake p else u).serve p e (if e.state = .leadIn then .chime e.desc.id else .speaking e.desc.id) := by
  have hlate := e.tooLate_iff
  unfold State.turn
  dsimp only
  generalize (if w = true then u.wake p else u) = u'
  cases hst : e.state with
  | leadIn =>
    have hnot : ¬e.tooLate = true := fun hc => by
      rw [hlate, hst] at hc
      exact absurd hc.1 nofun
    rw [if_neg hnot, if_pos rfl]
  | speech =>
    dsimp only
    by_cases hpos : e.position ≤ 2000
    · have hnot : ¬e.tooLate = true := fun hc => Nat.not_lt.mpr hpos (hlate.mp hc).2
      rw [if_pos hpos, if_neg hnot, if_neg nofun]
    · rw [if_neg hpos, if_pos (hlate.mpr ⟨hst, Nat.lt_of_not_le hpos⟩)]
      rfl

end

/-! ## Taken into the voice -/

/-- The berth of an EMERGENCY that has been taken into its voice: the hold is set, and the video was flushed when it was not set
before (R125, R157). -/
def Alarmed (s t : State) (p : Port) (b : Berth) (h : Bool) : Prop := ∃ r l,
  Mid s p b r l ∧ t.berth p = { b with hold := true, reported := r } ∧ t.links[p] = (if h then l else l.flushVideo) ∧
    (s.inService p = true → r = some (s.onLevel b))

section
variable {s u : State} {p : Port} {now : Time} {b : Berth} {h : Bool} {e : Entry}

theorem State.wake_voice (u : State) (p : Port) : (u.wake p).voice = u.voice := (u.wake_only p).voice rfl

theorem State.enterEmergency_voice (u : State) (p : Port) : (u.enterEmergency p).voice = u.voice := (u.enterEmergency_only p).voice rfl

/-- An announcement taken into the voice: the voice, its record with its card, and the berth (R118). -/
theorem Turns.serve (k : Turns s u p now b h) (hup : s.linkUp p = true)
    (hscreen : e.desc.cls = .emergency → b.screen = .on ∧ Told s u p b) (v : Serving) : (u.serve p e v).berthVoice p = { u.berthVoice p with serving := v } ∧
    (∀ j q, (u.serve p e v).record? j q = if j = e.desc.id ∧ q = p then
      (u.record? e.desc.id p).map fun r => { r with role := .inService, card := true } else u.record? j q) ∧
    (e.desc.cls ≠ .emergency → Turns s (u.serve p e v) p now b h) ∧
    (e.desc.cls = .emergency → Alarmed s (u.serve p e v) p b h) := by
  generalize hu1 : (u.modVoice p fun x => { x with serving := v }).modRec e.desc.id p (fun r => { r with role := .inService }) = u1
  have k1 : Turns s u1 p now b h := by
    rw [← hu1]
    exact k.step rfl rfl rfl rfl (.inl rfl)
  have hvoice : u1.berthVoice p = { u.berthVoice p with serving := v } := by
    rw [← hu1]
    exact u.modVoice_self p fun x => { x with serving := v }
  have hrecord : ∀ j q, u1.record? j q = if j = e.desc.id ∧ q = p then
      (u.record? e.desc.id p).map fun r => { r with role := .inService } else u.record? j q := fun j q => by
    rw [← hu1, State.record?_modRec (f := fun r => { r with role := .inService }) _ _ _ fun _ => rfl]
    rfl
  have hup1 : u1.linkUp p = true := k1.linkUp.trans hup
  have k2 := k1.showCard e.desc.id
  have hvoice2 : (u1.showCard e.desc.id p).berthVoice p = u1.berthVoice p := u1.showCard_berthVoice ..
  have hrecord2 : ∀ j q, (u1.showCard e.desc.id p).record? j q = if j = e.desc.id ∧ q = p then
      (u.record? e.desc.id p).map fun r => { r with role := .inService, card := true } else u.record? j q := fun j q => by
    rw [State.record?_showCard, hup1]
    split
    · rw [hrecord, if_pos ⟨rfl, rfl⟩, Option.map_map]
      rfl
    · next hne => rw [hrecord, if_neg hne]
  have heq : u.serve p e v = if e.desc.cls = .emergency then (u1.showCard e.desc.id p).enterEmergency p
      else u1.showCard e.desc.id p := by
    rw [← hu1]
    rfl
  rw [heq]
  have hberth2 : (u1.showCard e.desc.id p).berth p = u.berth p := by
    rw [State.showCard_frame, ← hu1]
    rfl
  generalize u1.showCard e.desc.id p = u2 at k2 hvoice2 hrecord2 hberth2
  by_cases hcls : e.desc.cls = .emergency
  · rw [if_pos hcls]
    have hkept := u2.enterEmergency_voice p
    refine ⟨?_, fun j q => ?_, fun hne => absurd hcls hne, fun _ => ?_⟩
    · rw [State.berthVoice, hkept, ← hvoice, ← hvoice2]
      rfl
    · rw [State.record?_congr (s := u2) (by rw [hkept]), hrecord2]
    · obtain ⟨hon, htold⟩ := hscreen hcls
      exact k2.enterEmergency hup hon fun hservice => (congrArg Berth.reported hberth2).trans (htold hservice)
  · rw [if_neg hcls]
    exact ⟨hvoice2.trans hvoice, hrecord2, fun _ => k2, fun hc => absurd hc hcls⟩

end

/-! ## The list -/

/-- What a voice left free has come to, at its port, from a state on the way of an event (R118 to R120). -/
structure ServedAt (s u t : State) (p : Port) (now : Time) (b : Berth) (h : Bool) (list : List (AnnId × Time)) : Prop where
  voice  : t.berthVoice p = { serving := (s.servedFrom p now b list).serving, pending := (s.servedFrom p now b list).left }
  calm   : t.currentClass p ≠ some .emergency → Turns s t p now (s.servedFrom p now b list).berth h
  alarm  : t.currentClass p = some .emergency → s.linkUp p = true ∧ (s.servedFrom p now b list).berth.screen = .on ∧
    Alarmed s t p (s.servedFrom p now b list).berth h
  roles  : (list.map Prod.fst).Nodup → ∀ x ∈ (s.servedFrom p now b list).roles, ∀ r, u.record? x.1 p = some r → r.role = .pending →
    t.record? x.1 p = some { r with role := x.2, card := r.card || x.2.shown }
  others : ∀ id, (∀ x ∈ list, x.1 ≠ id) → t.record? id p = u.record? id p

section
variable {s : State} {p : Port} {now : Time}

theorem State.servedFrom_of_none {b : Berth} {x : AnnId × Time} {l : List (AnnId × Time)} (he : s.entry? x.1 = none) :
    s.servedFrom p now b (x :: l) = s.servedFrom p now b l := by
  rw [State.servedFrom, he]

/-- The outcome at which a decision against audio passes an announcement over (R118). -/
def Decision.outcome : Decision → BerthOutcome
  | .unreachable => .declined .unreachable
  | .decline => .declined .policy
  | .caption => .caption
  | .audio _ => .missed

theorem State.servedFrom_of_pass {b : Berth} {x : AnnId × Time} {l : List (AnnId × Time)} {e : Entry} {d : Decision}
    (he : s.entry? x.1 = some e) (hd : (s.modBerth p fun _ => b).decision e.desc.cls p = d) (hpass : ∀ w, d ≠ .audio w) :
    s.servedFrom p now b (x :: l) = (s.servedFrom p now b l).with x.1 (.fixed d.outcome) := by
  rw [State.servedFrom, he]
  dsimp only
  rw [hd]
  cases d with
  | unreachable => rfl
  | decline => rfl
  | caption => rfl
  | audio w => exact absurd rfl (hpass w)

/-- A berth record once a decision for audio has been made (R118). -/
def Berth.met (b : Berth) (now : Time) (w : Bool) : Berth := if w then b.woken now else b

theorem State.servedFrom_of_audio {b : Berth} {x : AnnId × Time} {l : List (AnnId × Time)} {e : Entry} {w : Bool}
    (he : s.entry? x.1 = some e) (hd : (s.modBerth p fun _ => b).decision e.desc.cls p = .audio w) :
    s.servedFrom p now b (x :: l) = if e.tooLate then (s.servedFrom p now (b.met now w) l).with x.1 (.fixed .missed)
      else { serving := if e.state = .leadIn then .chime x.1 else .speaking x.1, left := l, berth := b.met now w,
             roles := [(x.1, .inService)] } := by
  rw [State.servedFrom, he]
  dsimp only
  rw [hd] <;> rfl

/-- What a voice serves, what is left, and the roles taken are of announcements of the list. -/
theorem State.servedFrom_mem (l : List (AnnId × Time)) (b : Berth) :
    (∀ x ∈ (s.servedFrom p now b l).roles, x.1 ∈ l.map Prod.fst) ∧
    (∀ id, (s.servedFrom p now b l).serving.current = some id → id ∈ l.map Prod.fst) ∧
    ∀ x ∈ (s.servedFrom p now b l).left, x ∈ l := by
  induction l generalizing b with
  | nil => exact ⟨nofun, nofun, nofun⟩
  | cons y l ih =>
    have hrest : ∀ (b : Berth) (ro : Role),
        (∀ x ∈ ((s.servedFrom p now b l).with y.1 ro).roles, x.1 ∈ (y :: l).map Prod.fst) ∧
        (∀ id, ((s.servedFrom p now b l).with y.1 ro).serving.current = some id → id ∈ (y :: l).map Prod.fst) ∧
        ∀ x ∈ ((s.servedFrom p now b l).with y.1 ro).left, x ∈ y :: l := fun b ro => by
      obtain ⟨hroles, hserving, hleft⟩ := ih b
      refine ⟨fun x hx => ?_, fun id hid => List.mem_cons_of_mem _ (hserving id hid), fun x hx => List.mem_cons_of_mem _ (hleft x hx)⟩
      obtain rfl | hx := List.mem_cons.mp hx
      · exact List.mem_cons_self
      · exact List.mem_cons_of_mem _ (hroles x hx)
    cases he : s.entry? y.1 with
    | none =>
      rw [State.servedFrom_of_none he]
      obtain ⟨hroles, hserving, hleft⟩ := ih b
      exact ⟨fun x hx => List.mem_cons_of_mem _ (hroles x hx), fun id hid => List.mem_cons_of_mem _ (hserving id hid),
        fun x hx => List.mem_cons_of_mem _ (hleft x hx)⟩
    | some e =>
      cases hd : (s.modBerth p fun _ => b).decision e.desc.cls p with
      | audio w =>
        rw [State.servedFrom_of_audio he hd]
        split
        · exact hrest _ _
        · refine ⟨fun x hx => ?_, fun id hid => ?_, fun x hx => List.mem_cons_of_mem _ hx⟩
          · rw [List.mem_singleton.mp hx]
            exact List.mem_cons_self
          · dsimp only at hid
            split at hid
            · exact Option.some.inj hid ▸ List.mem_cons_self
            · exact Option.some.inj hid ▸ List.mem_cons_self
      | unreachable =>
        rw [State.servedFrom_of_pass he hd nofun]
        exact hrest _ _
      | decline =>
        rw [State.servedFrom_of_pass he hd nofun]
        exact hrest _ _
      | caption =>
        rw [State.servedFrom_of_pass he hd nofun]
        exact hrest _ _

theorem Berth.woken_woken (b : Berth) (now : Time) : (b.woken now).woken now = b.woken now := by
  by_cases h : b.attention = .dnd
  · have hwoken : b.woken now = { b with screen := .on } := if_pos h
    rw [hwoken]
    exact if_pos h
  · have hwoken : b.woken now = { b with attention := .awake, timer := .counting now, screen := .on } := if_neg h
    rw [hwoken]
    exact if_neg nofun

/-- All that the turns of a list do to the berth record is to wake it. -/
theorem State.servedFrom_berth (l : List (AnnId × Time)) (b : Berth) :
    (s.servedFrom p now b l).berth = b ∨ (s.servedFrom p now b l).berth = b.woken now := by
  induction l generalizing b with
  | nil => exact .inl rfl
  | cons y l ih =>
    have hmet : ∀ w, (s.servedFrom p now (b.met now w) l).berth = b ∨ (s.servedFrom p now (b.met now w) l).berth = b.woken now :=
      fun w => by
      cases w with
      | false => exact ih b
      | true =>
        obtain h | h := ih (b.woken now)
        · exact .inr h
        · exact .inr (h.trans (b.woken_woken now))
    cases he : s.entry? y.1 with
    | none =>
      rw [State.servedFrom_of_none he]
      exact ih b
    | some e =>
      cases hd : (s.modBerth p fun _ => b).decision e.desc.cls p with
      | audio w =>
        rw [State.servedFrom_of_audio he hd]
        split
        · exact hmet w
        · cases w with
          | false => exact .inl rfl
          | true => exact .inr rfl
      | unreachable =>
        rw [State.servedFrom_of_pass he hd nofun]
        exact ih b
      | decline =>
        rw [State.servedFrom_of_pass he hd nofun]
        exact ih b
      | caption =>
        rw [State.servedFrom_of_pass he hd nofun]
        exact ih b

/-- An announcement that is passed over, before the rest of the list has its turns. -/
theorem ServedAt.of_pass {u u1 t : State} {b b' : Berth} {h : Bool} {x : AnnId × Time} {l : List (AnnId × Time)} {o : BerthOutcome}
    (hrecords : ∀ id, u1.record? id p = u.record? id p) (hshown : (Role.fixed o).shown = true → u1.linkUp p = true)
    (hserved : s.servedFrom p now b (x :: l) = (s.servedFrom p now b' l).with x.1 (.fixed o))
    (k : ServedAt s (u1.pass x.1 p o) t p now b' h l) : ServedAt s u t p now b h (x :: l) := by
  have hrecord : ∀ id, id ≠ x.1 → (u1.pass x.1 p o).record? id p = u.record? id p := fun id hid => by
    rw [State.record?_pass, if_neg fun hc => hid hc.1, hrecords]
  refine ⟨by rw [hserved]; exact k.voice, fun hc => by rw [hserved]; exact k.calm hc, fun hc => by rw [hserved]; exact k.alarm hc,
    fun hnodup y hy r hr hpending => ?_, fun id hid => ?_⟩
  · rw [List.map_cons, List.nodup_cons] at hnodup
    obtain ⟨hx, hnodup⟩ := hnodup
    rw [hserved] at hy
    obtain rfl | hy := List.mem_cons.mp hy
    · have hlast := k.others x.1 fun z hz hc => hx (List.mem_map.mpr ⟨z, hz, hc⟩)
      rw [hlast, State.record?_pass, if_pos ⟨rfl, rfl⟩, hrecords, hr, Option.map_some, BerthRec.fixedTo_of_pending hpending]
      have hcard : ((Role.fixed o).shown && u1.linkUp p) = (Role.fixed o).shown := by
        cases hs : (Role.fixed o).shown with
        | false => rfl
        | true => rw [hshown hs]; rfl
      rw [hcard, Bool.or_comm]
    · have hne : y.1 ≠ x.1 := fun hc => hx (hc ▸ (State.servedFrom_mem l b').1 y hy)
      exact k.roles hnodup y hy r (by rw [hrecord _ hne]; exact hr) hpending
  · rw [k.others id fun y hy => hid y (List.mem_cons_of_mem _ hy), hrecord id fun hc => hid x List.mem_cons_self hc.symm]

/-- The entries that a list of announcements is served from are those that the event found, but for their records. -/
def EntriesKept (s u : State) (list : List (AnnId × Time)) : Prop :=
  ∀ x ∈ list, (u.entry? x.1).map Entry.bare = (s.entry? x.1).map Entry.bare

theorem EntriesKept.step {u v : State} {x : AnnId × Time} {l : List (AnnId × Time)} (h : EntriesKept s u (x :: l))
    (hv : AtPort p u v) : EntriesKept s v l := fun y hy => (hv.entry y.1).trans (h y (List.mem_cons_of_mem _ hy))

theorem EntriesKept.some {u : State} {x : AnnId × Time} {l : List (AnnId × Time)} (h : EntriesKept s u (x :: l)) {e : Entry}
    (he : s.entry? x.1 = some e) : ∃ e', u.entry? x.1 = Option.some e' ∧ e'.desc = e.desc ∧ e'.state = e.state ∧ e'.tooLate = e.tooLate := by
  have hx := h x List.mem_cons_self
  rw [he] at hx
  obtain ⟨e', he', hbare⟩ := Option.map_eq_some_iff.mp hx
  obtain ⟨hdesc, hstate, hqueue, hplayout, _, _⟩ := Entry.bare_eq hbare
  exact ⟨e', he', hdesc, hstate, by rw [Entry.tooLate, Entry.tooLate, hstate, hqueue, hplayout]⟩

theorem EntriesKept.none {u : State} {x : AnnId × Time} {l : List (AnnId × Time)} (h : EntriesKept s u (x :: l))
    (he : s.entry? x.1 = none) : u.entry? x.1 = Option.none := by
  have hx := h x List.mem_cons_self
  rw [he] at hx
  exact Option.map_eq_none_iff.mp hx

/-- A decision for audio, with the wake that it calls for. -/
theorem Turns.met {u : State} {b : Berth} {h : Bool} (k : Turns s u p now b h) (hup : s.linkUp p = true) (w : Bool) :
    Turns s (if w then u.wake p else u) p now (b.met now w) h ∧ (if w then u.wake p else u).voice = u.voice ∧
      AtPort p u (if w then u.wake p else u) ∧
      (w = true → (b.met now w).screen = .on ∧ Told s (if w then u.wake p else u) p (b.met now w)) := by
  cases w with
  | false => exact ⟨k, rfl, .refl p u, nofun⟩
  | true =>
    obtain ⟨kwake, htold⟩ := k.wake hup
    exact ⟨kwake, u.wake_voice p, u.wake_atPort p, fun _ => ⟨b.woken_screen now, htold⟩⟩

theorem State.decision_emergency {u : State} {w : Bool} (h : u.decision .emergency p = .audio w) : w = true := by
  unfold State.decision at h
  split at h
  · exact (Decision.audio.inj h).symm
  · exact absurd h nofun

/-- The turn of the announcement at the head of the list. -/
def State.turnAt (u : State) (p : Port) (x : AnnId × Time) : State :=
  match u.entry? x.1 with
  | some e => u.turn p e (u.decision e.desc.cls p)
  | none => u

theorem State.serveList_cons (u : State) (p : Port) (x : AnnId × Time) (l : List (AnnId × Time)) :
    State.serveList p (x :: l) u = if ((u.modVoice p fun v => { v with pending := l }).turnAt p x).currentId p = Option.none
      then State.serveList p l ((u.modVoice p fun v => { v with pending := l }).turnAt p x)
      else (u.modVoice p fun v => { v with pending := l }).turnAt p x := rfl

theorem State.currentId_of_idle {v : State} {l : List (AnnId × Time)} (hv : v.berthVoice p = { serving := .idle, pending := l }) :
    v.currentId p = Option.none := by
  rw [State.currentId, hv]
  rfl

/-- An announcement taken into the voice ends the serving. -/
theorem ServedAt.of_serve {u u1 : State} {b b' : Berth} {h : Bool} {x : AnnId × Time} {l : List (AnnId × Time)} {e : Entry}
    (k : Turns s u1 p now b' h) (hup : s.linkUp p = true)
    (hscreen : e.desc.cls = .emergency → b'.screen = .on ∧ Told s u1 p b') (hvoice : u1.berthVoice p = { serving := .idle, pending := l }) (hid : e.desc.id = x.1) (he : u1.entry? x.1 = some e)
    (hrecords : ∀ id, u1.record? id p = u.record? id p) {v : Serving} (hv : v.current = some x.1)
    (hserved : s.servedFrom p now b (x :: l) = { serving := v, left := l, berth := b', roles := [(x.1, .inService)] }) :
    ServedAt s u (u1.serve p e v) p now b h (x :: l) ∧ (u1.serve p e v).currentId p ≠ Option.none := by
  obtain ⟨hvoice', hrecord, hcalm, halarm⟩ := k.serve (e := e) hup hscreen v
  rw [hvoice] at hvoice'
  have hcurrent : (u1.serve p e v).currentId p = some x.1 := by
    rw [State.currentId, hvoice']
    exact hv
  have hclass : (u1.serve p e v).currentClass p = some e.desc.cls := by
    rw [State.currentClass, hcurrent, Option.bind_some, (State.serve_atPort u1 p e v).classOfId, State.classOfId, he]
    rfl
  refine ⟨⟨by rw [hserved]; exact hvoice', fun hc => ?_, fun hc => ?_, fun _ y hy r hr _ => ?_, fun id hne => ?_⟩, by rw [hcurrent]; nofun⟩
  · rw [hserved]
    exact hcalm fun hcls => hc (by rw [hclass, hcls])
  · rw [hserved]
    have hcls : e.desc.cls = .emergency := Option.some.inj (hclass.symm.trans hc)
    exact ⟨hup, (hscreen hcls).1, halarm hcls⟩
  · rw [hserved] at hy
    obtain rfl := List.mem_singleton.mp hy
    rw [hrecord, hid, if_pos ⟨rfl, rfl⟩, hrecords, hr, Option.map_some]
    exact congrArg some (by rw [show (r.card || Role.inService.shown) = true from Bool.or_true _])
  · rw [hrecord, hid, if_neg fun hc => hne x List.mem_cons_self hc.1.symm, hrecords]

/-- A voice left free serves its pending list from the head (R120). -/
theorem State.serveList_spec (list : List (AnnId × Time)) (u : State) (b : Berth) (h : Bool) (k : Turns s u p now b h)
    (hvoice : u.berthVoice p = { serving := .idle, pending := list }) (hentries : EntriesKept s u list) :
    ServedAt s u (State.serveList p list u) p now b h list := by
  induction list generalizing u b with
  | nil =>
    have hnone : u.currentClass p = none := by rw [State.currentClass, State.currentId, hvoice]; rfl
    refine ⟨hvoice, fun _ => k, fun hc => ?_, fun _ => nofun, fun _ _ => rfl⟩
    have hc' : u.currentClass p = some .emergency := hc
    rw [hnone] at hc'
    exact absurd hc' nofun
  | cons x l ih =>
    have hat1 := u.modVoice_atPort p fun v => { v with pending := l }
    have k1 : Turns s (u.modVoice p fun v => { v with pending := l }) p now b h := k.modVoice _
    have hvoice1 : (u.modVoice p fun v => { v with pending := l }).berthVoice p = { serving := .idle, pending := l } := by
      rw [State.modVoice_self, hvoice]
    have hrecords1 : ∀ id, (u.modVoice p fun v => { v with pending := l }).record? id p = u.record? id p := fun _ => rfl
    have hentry1 : (u.modVoice p fun v => { v with pending := l }).entry? x.1 = u.entry? x.1 := rfl
    rw [State.serveList_cons]
    generalize (u.modVoice p fun v => { v with pending := l }) = u1 at hat1 k1 hvoice1 hrecords1 hentry1
    cases he : s.entry? x.1 with
    | none =>
      have hturn : u1.turnAt p x = u1 := by rw [State.turnAt, hentry1, hentries.none he]
      rw [hturn, if_pos (State.currentId_of_idle hvoice1)]
      have hrest := ih u1 b k1 hvoice1 (hentries.step hat1)
      have hserved := State.servedFrom_of_none (p := p) (now := now) (b := b) (l := l) he
      refine ⟨by rw [hserved]; exact hrest.voice, fun hc => by rw [hserved]; exact hrest.calm hc,
        fun hc => by rw [hserved]; exact hrest.alarm hc, fun hnodup y hy r hr => ?_, fun id hid => ?_⟩
      · rw [hserved] at hy
        rw [List.map_cons, List.nodup_cons] at hnodup
        exact hrest.roles hnodup.2 y hy r (by rw [hrecords1]; exact hr)
      · rw [hrest.others id fun y hy => hid y (List.mem_cons_of_mem _ hy), hrecords1]
    | some e =>
      obtain ⟨e', he', hdesc, hstate, hlate⟩ := hentries.some he
      have hid : e'.desc.id = x.1 := State.entry?_id he'
      have hdecision := k1.decision e'.desc.cls
      have hturn : u1.turnAt p x = u1.turn p e' (u1.decision e.desc.cls p) := by rw [State.turnAt, hentry1, he', ← hdesc]
      -- one announcement passed over, and the rest of the list served
      have hpass : ∀ (u2 : State) (b' : Berth) (o : BerthOutcome), Turns s u2 p now b' h →
          u2.berthVoice p = { serving := .idle, pending := l } → AtPort p u u2 → (∀ id, u2.record? id p = u.record? id p) →
          ((Role.fixed o).shown = true → u2.linkUp p = true) →
          s.servedFrom p now b (x :: l) = (s.servedFrom p now b' l).with x.1 (.fixed o) →
          ServedAt s u (if (u2.pass x.1 p o).currentId p = none then State.serveList p l (u2.pass x.1 p o) else u2.pass x.1 p o)
            p now b h (x :: l) := fun u2 b' o k2 hvoice2 hat2 hrecords2 hshown hserved => by
        have hvoice3 := (u2.pass_berthVoice x.1 p o p).trans hvoice2
        rw [if_pos (State.currentId_of_idle hvoice3)]
        exact ServedAt.of_pass hrecords2 hshown hserved
          (ih _ b' (k2.pass x.1 o) hvoice3 (hentries.step (hat2.trans (u2.pass_atPort x.1 p o))))
      cases hd : (s.modBerth p fun _ => b).decision e.desc.cls p with
      | unreachable =>
        rw [hdesc, hd] at hdecision
        rw [hturn, hdecision, (u1.turn_of_pass p e').1, hid]
        exact hpass u1 b _ k1 hvoice1 hat1 hrecords1 nofun (State.servedFrom_of_pass he hd nofun)
      | decline =>
        rw [hdesc, hd] at hdecision
        rw [hturn, hdecision, (u1.turn_of_pass p e').2.1, hid]
        exact hpass u1 b _ k1 hvoice1 hat1 hrecords1 nofun (State.servedFrom_of_pass he hd nofun)
      | caption =>
        rw [hdesc, hd] at hdecision
        rw [hturn, hdecision, (u1.turn_of_pass p e').2.2, hid]
        have hup := k1.linkUp_of_decision (c := e.desc.cls) (by rw [hdecision]; nofun)
        exact hpass u1 b _ k1 hvoice1 hat1 hrecords1 (fun _ => k1.linkUp.trans hup) (State.servedFrom_of_pass he hd nofun)
      | audio w =>
        rw [hdesc, hd] at hdecision
        have hup := k1.linkUp_of_decision (c := e.desc.cls) (by rw [hdecision]; nofun)
        obtain ⟨k2, hvoices, hat2, htold⟩ := k1.met hup w
        have hserved := State.servedFrom_of_audio (now := now) (l := l) he hd
        have hvoice2 : (if w = true then u1.wake p else u1).berthVoice p = { serving := .idle, pending := l } := by
          rw [State.berthVoice, hvoices]
          exact hvoice1
        have hentry2 : (if w = true then u1.wake p else u1).entry? x.1 = some e' := by
          rw [State.entry?_congr (s := u1) (by rw [hvoices]), hentry1, he']
        have hrecords2 : ∀ id, (if w = true then u1.wake p else u1).record? id p = u.record? id p := fun id => by
          rw [State.record?_congr (s := u1) (by rw [hvoices]), hrecords1]
        rw [hturn, hdecision, u1.turn_audio p e' w, hid]
        generalize (if w = true then u1.wake p else u1) = u2 at k2 hat2 hvoice2 hentry2 hrecords2 htold
        rw [hlate, hstate]
        by_cases hl : e.tooLate = true
        · rw [if_pos hl] at hserved ⊢
          exact hpass u2 _ _ k2 hvoice2 (hat1.trans hat2) hrecords2 (fun _ => k2.linkUp.trans hup) hserved
        · rw [if_neg hl] at hserved ⊢
          have hscreen : e'.desc.cls = .emergency → (b.met now w).screen = .on ∧ Told s u2 p (b.met now w) := fun hcls => by
            rw [hdesc] at hcls
            rw [hcls] at hdecision
            exact htold (State.decision_emergency hdecision)
          obtain ⟨hresult, hnone⟩ := ServedAt.of_serve (u := u) k2 hup hscreen hvoice2 hid hentry2 hrecords2
            (v := if e.state = .leadIn then .chime x.1 else .speaking x.1) (by split <;> rfl) hserved
          rw [if_neg hnone]
          exact hresult

end

end Sys2Proof.Machine
end

section
/-! A voice left free serves its pending list: the hold is settled, and what is left, as the statements say it (R120, R125). -/

namespace Sys2Proof.Machine

/-- What an event has left of the berth record and the link of a port, the voice served and the hold settled: a level newly
reported is the level, in a frame. -/
structure Settled (s t : State) (p : Port) (b : Berth) : Prop where
  berth : t.berth p = { b with hold := (t.berth p).hold, reported := (t.berth p).reported }
  state : t.links[p].state = s.links[p].state
  load  : t.links[p].load ≤ s.links[p].load + 1
  flush : t.links[p].counters.videoFlush = (if (t.berth p).hold = true ∧ (s.berth p).hold = false
    then bumpBy s.links[p].video.length s.links[p].counters.videoFlush else s.links[p].counters.videoFlush)
  hold  : (s.inService p && s.linkUp p) = true → (t.berth p).hold ≠ (s.berth p).hold → (t.berth p).reported = some (t.screenLevel p)
  level : (s.inService p && s.linkUp p) = true → (t.berth p).reported ≠ (s.berth p).reported →
    (t.berth p).reported = some (t.screenLevel p) ∧
      (s.links[p].control.length ≤ 12 → (t.links[p]).holds (.screenLevel (t.screenLevel p)))

section
variable {s t : State} {p : Port} {now : Time} {b : Berth} {h : Bool}

/-- The level of a berth whose screen is ON. -/
theorem State.screenLevel_on {r : Option Nat} (hstartup : t.startup = s.startup) (hphase : t.phase.own = s.phase.own)
    (hberth : t.berth p = { b with hold := h, reported := r }) (hscreen : b.screen = .on) : t.screenLevel p = s.onLevel b := by
  have hshown : (t.berth p).shown = .on := by
    rw [hberth, Berth.shown]
    cases h
    · exact hscreen
    · rfl
  have hbrightness : (t.berth p).brightness = b.brightness := by rw [hberth]
  simp only [State.screenLevel, Berth.level, hshown, hbrightness, State.image, State.profile, hstartup, hphase]
  rfl

/-- The hold stands as it was. -/
theorem Turns.settled (k : Turns s t p now b (s.berth p).hold) : Settled s t p b := by
  have hhold : (t.berth p).hold = (s.berth p).hold := by rw [k.berth]
  have hon := k.mid.linkOn
  refine ⟨by rw [hhold]; exact k.berth, hon.state, hon.load, ?_, fun _ hne => absurd hhold hne, fun _ hne => ?_⟩
  · rw [hhold, hon.flush, if_neg (by simp)]
  · obtain ⟨hr, _⟩ | ⟨hr, hscreen, _, hholds⟩ := k.mid
    · exact absurd hr hne
    · rw [k.screenLevel (.inl hscreen)]
      exact ⟨hr, hholds⟩

/-- The level at the end of an event, on a link on the way of it: one level frame at most has been handed. -/
theorem Mid.reportLast {r : Option Nat} {l : Link} {level : Nat} (m : Mid s p b r l) (hup : s.links[p].state = .up)
    (hlevel : b.screen = .on → level = s.onLevel b) :
    LinkOn s.links[p] ((levelFrames r level).foldl Link.handControl l) 1 ∧
      (some level ≠ (s.berth p).reported → s.links[p].control.length ≤ 12 →
        ((levelFrames r level).foldl Link.handControl l).holds (.screenLevel level)) := by
  obtain ⟨hr, hl⟩ | ⟨hr, hscreen, hl, hholds⟩ := id m
  · unfold levelFrames
    by_cases hsame : r = some level
    · rw [if_pos hsame]
      exact ⟨m.linkOn, fun hne => absurd (hsame.symm.trans hr) hne⟩
    · rw [if_neg hsame]
      exact ⟨hl.trans (l.handControl_on _), fun _ hc => Link.holds_handControl (hl.state.trans hup) (Mid.room hl hc) _⟩
  · rw [hlevel hscreen, levelFrames, if_pos hr]
    exact ⟨hl, fun _ => hholds⟩

/-- The hold is cleared (R125, R19). -/
theorem Turns.settled_setHold (k : Turns s t p now b h) : Settled s (t.setHold p false) p b ∧
    ((t.setHold p false).berth p).hold = false := by
  generalize hv : (t.modBerth p fun x => { x with hold := false }) = v
  have hberth : v.berth p = { b with hold := false, reported := (t.berth p).reported } := by
    rw [← hv, State.modBerth_self, k.berth]
  have hlinks : v.links[p] = t.links[p] := by rw [← hv]; rfl
  have k' : Turns s v p now b false :=
    ⟨by rw [← hv]; exact k.startup, by rw [← hv]; exact k.phase, by rw [← hv]; exact k.now, by rw [hberth],
      by rw [hberth, hlinks]; exact k.mid⟩
  have hset : t.setHold p false = v.recompute p := by rw [← hv]; rfl
  rw [hset]
  obtain ⟨hlink, hself⟩ := State.recompute_self (s := v) (p := p)
  rw [k'.inService, k'.linkUp] at hlink hself
  have hhold : ((v.recompute p).berth p).hold = false := by
    rw [hself]
    split <;> rw [hberth]
  cases hlive : s.inService p && s.linkUp p with
  | false =>
    rw [hlive, if_neg Bool.false_ne_true] at hlink
    have hon := k'.mid.linkOn
    refine ⟨⟨?_, by rw [hlink]; exact hon.state, by rw [hlink]; exact hon.load, by rw [hlink, hhold, hon.flush, if_neg (by simp)],
      fun hc => absurd (hlive.symm.trans hc) nofun, fun hc => absurd (hlive.symm.trans hc) nofun⟩, hhold⟩
    rw [hself, hberth]
  | true =>
    obtain ⟨hservice, hup⟩ := (Bool.and_eq_true _ _).mp hlive
    rw [hlive, if_pos rfl] at hlink
    rw [hservice, hup, if_pos rfl, if_pos rfl] at hself
    obtain ⟨hon, hholds⟩ := k'.mid.reportLast (level := v.screenLevel p) (beq_iff_eq.mp hup) fun hscreen => k'.screenLevel (.inl hscreen)
    have hreported : ((v.recompute p).berth p).reported = some (v.screenLevel p) := by rw [hself]
    rw [← hlink] at hon hholds
    refine ⟨⟨by rw [hself, hberth], hon.state, hon.load, by rw [hhold, hon.flush, if_neg (by simp)], fun _ _ => ?_, fun _ hne => ?_⟩, hhold⟩
    · rw [hreported, State.recompute_screenLevel]
    · rw [hreported] at hne
      rw [hreported, State.recompute_screenLevel]
      exact ⟨rfl, hholds hne⟩

/-- An EMERGENCY is served (R125, R157). -/
theorem Alarmed.settled (hup : s.linkUp p = true) (hstartup : t.startup = s.startup)
    (hphase : t.phase.own = s.phase.own) (k : Alarmed s t p b (s.berth p).hold) : Settled s t p b ∧ (t.berth p).hold = true := by
  obtain ⟨r, l, hmid, hberth, hlink, hnew⟩ := k
  have hhold : (t.berth p).hold = true := by rw [hberth]
  have hreported : (t.berth p).reported = r := by rw [hberth]
  have hon := hmid.linkOn
  have hlup : l.state = .up := hon.state.trans (beq_iff_eq.mp hup)
  have hlevel : t.screenLevel p = s.onLevel b := by
    simp only [State.screenLevel, hberth, Berth.level, Berth.shown, State.image, State.profile, hstartup, hphase, State.onLevel]
    rfl
  obtain ⟨hfstate, _, hflush, hfload, hfholds, _⟩ := Link.flushVideo_spec hlup
  refine ⟨⟨by rw [hhold, hreported]; exact hberth, ?_, ?_, ?_, fun hlive _ => ?_, fun _ hne => ?_⟩, hhold⟩
  · rw [hlink]
    split
    · exact hon.state
    · exact hfstate.trans (hlup.symm.trans hon.state)
  · rw [hlink]
    split
    · exact hon.load
    · exact hfload.trans hon.load
  · rw [hlink, hhold]
    cases hs : (s.berth p).hold with
    | true => rw [if_pos rfl, if_neg (by simp), hon.flush]
    | false => rw [if_neg Bool.false_ne_true, if_pos ⟨rfl, rfl⟩, hflush, hon.video, hon.flush]
  · rw [hreported, hlevel]
    exact hnew ((Bool.and_eq_true _ _).mp hlive).1
  · rw [hreported] at hne
    obtain ⟨hr, _⟩ | ⟨hr, _, _, hholds⟩ := hmid
    · exact absurd hr hne
    · rw [hreported, hlevel, hlink]
      refine ⟨hr, fun hc => ?_⟩
      split
      · exact hholds hc
      · exact hfholds _ nofun (hholds hc)

end

/-! ## The pending list served -/

/-- What an event leaves at a berth whose voice serves its pending list: the statements' words, the records that have no turn, and
the bounds of the link. -/
structure ServesOn (s u t : State) (p : Port) (b : Berth) (list : List (AnnId × Time)) : Prop where
  serves  : servesOn s t p b list
  settled : Settled s t p (s.servedFrom p t.now b list).berth
  others  : ∀ id, (∀ x ∈ list, x.1 ≠ id) → t.record? id p = u.record? id p

/-- The hold is settled at the end of an event: it is set exactly while an EMERGENCY is served (R125). -/
theorem State.settleHold_spec {s v : State} {p : Port} {now : Time} {b : Berth}
    (hcalm : v.currentClass p ≠ some .emergency → Turns s v p now b (s.berth p).hold)
    (halarm : v.currentClass p = some .emergency → s.linkUp p = true ∧ Alarmed s v p b (s.berth p).hold)
    (hstartup : v.startup = s.startup) (hphase : v.phase.own = s.phase.own) :
    Settled s (v.settleHold p) p b ∧ (((v.settleHold p).berth p).hold = true ↔ v.currentClass p = some .emergency) := by
  by_cases hemergency : v.currentClass p = some .emergency
  · have hsame : v.settleHold p = v := if_neg (by simp [State.inEmergency, hemergency])
    obtain ⟨hup, hberth⟩ := halarm hemergency
    obtain ⟨hleft, hhold⟩ := hberth.settled hup hstartup hphase
    rw [hsame]
    exact ⟨hleft, iff_of_true hhold hemergency⟩
  · have hturns := hcalm hemergency
    have hnot : v.inEmergency p = false := beq_eq_false_iff_ne.mpr hemergency
    have hvhold : (v.berth p).hold = (s.berth p).hold := by rw [hturns.berth]
    cases hs : (s.berth p).hold with
    | false =>
      have hsame : v.settleHold p = v := if_neg (by rw [hvhold, hs]; exact Bool.false_ne_true)
      rw [hsame]
      exact ⟨hturns.settled, iff_of_false (by rw [hvhold, hs]; exact Bool.false_ne_true) hemergency⟩
    | true =>
      have hset : v.settleHold p = v.setHold p false := if_pos (by rw [hvhold, hs, hnot]; rfl)
      obtain ⟨hleft, hhold⟩ := hturns.settled_setHold
      rw [hset]
      exact ⟨hleft, iff_of_false (by rw [hhold]; exact Bool.false_ne_true) hemergency⟩

theorem State.settleHold_voice (v : State) (p : Port) : (v.settleHold p).voice = v.voice := (v.settleHold_only p).voice rfl

/-- The voice serves its list, and the hold is settled (R120, R125): what it leaves of the berth and the link, and the records of
the announcements that are not in the list. -/
theorem Turns.servePending_left {s u : State} {p : Port} {b : Berth} {list : List (AnnId × Time)}
    (k : Turns s u p u.now b (s.berth p).hold) (hvoice : u.berthVoice p = { serving := .idle, pending := list })
    (hentries : EntriesKept s u list) : ServedAt s u (State.serveList p list u) p u.now b (s.berth p).hold list ∧
      u.servePending p = (State.serveList p list u).settleHold p ∧
      Settled s (u.servePending p) p (s.servedFrom p u.now b list).berth ∧
      (((u.servePending p).berth p).hold = true ↔ (State.serveList p list u).currentClass p = some .emergency) ∧
      ∀ id, (∀ x ∈ list, x.1 ≠ id) → (u.servePending p).record? id p = u.record? id p := by
  have hserved := State.serveList_spec list u b _ k hvoice hentries
  have hat := State.serveList_atPort p list u
  have heq : u.servePending p = (State.serveList p list u).settleHold p := by
    rw [State.servePending, if_pos (State.currentId_of_idle hvoice), hvoice]
  obtain ⟨hleft, hhold⟩ := State.settleHold_spec hserved.calm (fun hc => ⟨(hserved.alarm hc).1, (hserved.alarm hc).2.2⟩)
    (hat.startup.trans k.startup) (by rw [hat.phase]; exact k.phase)
  rw [← heq] at hleft hhold
  refine ⟨hserved, heq, hleft, hhold, fun id hid => ?_⟩
  rw [heq, State.record?_congr (s := State.serveList p list u) (by rw [State.settleHold_voice]), hserved.others id hid]

/-- What a voice left free leaves, in the statements' words. -/
theorem Turns.servePending {s u : State} {p : Port} {b : Berth} {list : List (AnnId × Time)}
    (k : Turns s u p u.now b (s.berth p).hold) (hvoice : u.berthVoice p = { serving := .idle, pending := list })
    (hentries : EntriesKept s u list) (hrecords : ∀ x ∈ list, u.record? x.1 p = s.record? x.1 p) :
    ServesOn s u (u.servePending p) p b list := by
  obtain ⟨hserved, heq, hleft, hhold, hothers⟩ := k.servePending_left hvoice hentries
  have hnow : (u.servePending p).now = u.now := (u.servePending_atPort p).now
  rw [heq] at hnow hleft hhold hothers ⊢
  generalize State.serveList p list u = v at hserved hnow hleft hhold hothers
  have hvoices := v.settleHold_voice p
  have hclass : (v.settleHold p).currentClass p = v.currentClass p := by
    have hentry : ∀ id, (v.settleHold p).classOfId id = v.classOfId id := fun id => by
      rw [State.classOfId, State.entry?_congr (s := v) (by rw [hvoices])]
      rfl
    simp only [State.currentClass, State.currentId, State.berthVoice, hvoices, funext hentry]
  have hrecord : ∀ id, (v.settleHold p).record? id p = v.record? id p := fun id => State.record?_congr (by rw [hvoices]) id p
  refine ⟨⟨?_, ?_, ?_, hleft.flush, fun hnodup x hx r hr hpending => ?_, fun hlive => ⟨hleft.hold hlive, hleft.level hlive⟩⟩, ?_,
    hothers⟩
  · rw [hnow, State.berthVoice, hvoices]
    exact hserved.voice
  · rw [hnow]
    exact hleft.berth
  · rw [hhold, ← hclass]
    rfl
  · rw [hnow] at hx
    rw [hrecord]
    refine hserved.roles hnodup x hx r ?_ hpending
    obtain ⟨y, hy, hyx⟩ := List.mem_map.mp ((State.servedFrom_mem list b).1 x hx)
    rw [← hyx, hrecords y hy, hyx]
    exact hr
  · rw [hnow]
    exact hleft

end Sys2Proof.Machine
end

section
/-! Announcements dismissed by SKIP and DND, pending announcements at their wait limit, and attention: O35 and O44. -/

namespace Sys2Proof.Machine

/-! ## What is left at a port by operations elsewhere -/

/-- Two states alike at one port, and in what its statements read beside it. -/
structure SameAt (p : Port) (t t' : State) : Prop where
  now     : t'.now = t.now
  startup : t'.startup = t.startup
  phase   : t'.phase = t.phase
  berth   : t'.berth p = t.berth p
  link    : t'.links[p] = t.links[p]
  voice   : t'.berthVoice p = t.berthVoice p
  record  : ∀ id, t'.record? id p = t.record? id p
  cls     : ∀ id, t'.classOfId id = t.classOfId id

theorem AtPort.sameAt {p q : Port} {t t' : State} (h : AtPort q t t') (hne : p ≠ q) : SameAt p t t' :=
  ⟨h.now, h.startup, h.phase, h.berth p hne, h.link p hne, h.voice p hne, fun id => h.record id p hne, h.classOfId⟩

theorem SameAt.refl (p : Port) (t : State) : SameAt p t t := ⟨rfl, rfl, rfl, rfl, rfl, rfl, fun _ => rfl, fun _ => rfl⟩

theorem SameAt.trans {p : Port} {t u v : State} (h : SameAt p t u) (k : SameAt p u v) : SameAt p t v :=
  ⟨k.now.trans h.now, k.startup.trans h.startup, k.phase.trans h.phase, k.berth.trans h.berth, k.link.trans h.link,
    k.voice.trans h.voice, fun id => (k.record id).trans (h.record id), fun id => (k.cls id).trans (h.cls id)⟩

theorem SameAt.screenLevel {p : Port} {t t' : State} (h : SameAt p t t') : t'.screenLevel p = t.screenLevel p :=
  State.screenLevel_congr (by rw [h.berth]) h.startup (by rw [h.phase])

theorem SameAt.currentId {p : Port} {t t' : State} (h : SameAt p t t') : t'.currentId p = t.currentId p := by
  rw [State.currentId, h.voice]
  rfl

/-- What a voice has served, told of a state that differs in the level reported and in control frames at most. -/
theorem servesOn_of_eq {s v t : State} {p : Port} {b : Berth} {list : List (AnnId × Time)} (h : servesOn s v p b list)
    (hnow : t.now = v.now) (hvoice : t.berthVoice p = v.berthVoice p) (hrecord : ∀ id, t.record? id p = v.record? id p)
    (hcls : ∀ id, t.classOfId id = v.classOfId id)
    (hberth : t.berth p = { v.berth p with reported := (t.berth p).reported })
    (hflush : t.links[p].counters.videoFlush = v.links[p].counters.videoFlush)
    (hlevel : (s.inService p && s.linkUp p) = true →
      ((t.berth p).hold ≠ (s.berth p).hold → (t.berth p).reported = some (t.screenLevel p)) ∧
      ((t.berth p).reported ≠ (s.berth p).reported → (t.berth p).reported = some (t.screenLevel p) ∧
        (s.links[p].control.length ≤ 12 → (t.links[p]).holds (.screenLevel (t.screenLevel p))))) : servesOn s t p b list := by
  obtain ⟨hv, hb, hh, hf, hr, _⟩ := h
  have hhold : (t.berth p).hold = (v.berth p).hold := by rw [hberth]
  have hcurrent : t.currentId p = v.currentId p := by rw [State.currentId, hvoice]; rfl
  refine ⟨by rw [hvoice, hnow]; exact hv, ?_, ?_, by rw [hflush, hhold]; exact hf, fun hn x hx r hrec hp => ?_, hlevel⟩
  · rw [hnow, hhold, hberth, hb]
  · rw [hhold, hcurrent, hh, show t.classOfId = v.classOfId from funext hcls]
  · rw [hrecord]
    rw [hnow] at hx
    exact hr hn x hx r hrec hp

theorem SameAt.servesOn {s t t' : State} {p : Port} {b : Berth} {list : List (AnnId × Time)} (h : SameAt p t t')
    (k : servesOn s t p b list) : servesOn s t' p b list := by
  refine servesOn_of_eq k h.now h.voice h.record h.cls (by rw [h.berth]) (by rw [h.link]) ?_
  obtain ⟨_, _, _, _, _, hlevel⟩ := k
  rw [h.berth, h.link, h.screenLevel]
  exact hlevel

/-! ## The answer after a dismissal -/

theorem LinkOn.weaken {l l' : Link} {m n : Nat} (h : LinkOn l l' m) (hmn : m ≤ n) : LinkOn l l' n :=
  ⟨h.state, h.video, h.flush, h.load.trans (Nat.add_le_add_left hmn _), h.holds, h.busy⟩

theorem levelFrames_on (l : Link) (r : Option Nat) (level : Nat) :
    LinkOn l ((levelFrames r level).foldl Link.handControl l) 1 := by
  unfold levelFrames
  split
  · exact (LinkOn.refl l).weaken (Nat.zero_le _)
  · exact l.handControl_on _

theorem Link.control_length_le_load (l : Link) : l.control.length ≤ l.load ∧ l.load ≤ l.control.length + 1 := by
  unfold Link.load
  split <;> omega

/-- The ANSWER and the level behind it, once the voice has served its list (R4, R18). -/
theorem ServesOn.answered {s u v : State} {p : Port} {b : Berth} {list : List (AnnId × Time)} (h : ServesOn s u v p b list)
    (hservice : v.inService p = true) (hup : s.links[p].state = .up) (k : RequestKind) (a : Answer) :
    servesOn s ((v.answer p k a).recompute p) p b list ∧
      (((v.answer p k a).recompute p).berth p).reported = some (((v.answer p k a).recompute p).screenLevel p) ∧
      (s.links[p].control.length ≤ 12 → (((v.answer p k a).recompute p).links[p]).holds (.answer k a)) := by
  obtain ⟨hberth, _, _, _, heq⟩ := v.recompute_answer_frame p k a
  have hvup : v.links[p].state = .up := h.settled.state.trans hup
  obtain ⟨⟨hframes, hreported⟩, hanswer⟩ := v.recompute_answer_sent p k a hservice hvup
  obtain ⟨hlink, _⟩ := State.recompute_self (s := v.answer p k a) (p := p)
  have hlinks : (v.answer p k a).links[p] = v.links[p].handControl (.answer k a) := by
    simp only [State.answer_links]
    exact State.modLink_self ..
  have hlive : ((v.answer p k a).inService p && (v.answer p k a).linkUp p) = true := by
    rw [Bool.and_eq_true]
    refine ⟨by rw [State.answer_eq]; exact hservice, ?_⟩
    rw [State.linkUp, hlinks, (v.links[p].handControl_on _).state, hvup]
    rfl
  have hlevel : ((v.answer p k a).recompute p).screenLevel p = v.screenLevel p :=
    State.screenLevel_congr hberth (by rw [heq]) (by rw [heq])
  have hlevel' : (v.answer p k a).screenLevel p = v.screenLevel p := State.recompute_screenLevel.symm.trans hlevel
  rw [if_pos hlive, hlinks, State.answer_berth, hlevel'] at hlink
  have hload := h.settled.load
  have hroom : s.links[p].control.length ≤ 12 → v.links[p].load ≤ 14 := fun hc => by
    have := (s.links[p].control_length_le_load).2
    omega
  refine ⟨servesOn_of_eq h.serves (by rw [heq]) (by rw [heq]; rfl) (fun id => by rw [heq]; rfl) (fun id => by rw [heq]; rfl) hberth ?_
    fun hs => ⟨fun _ => hreported, fun hne => ⟨hreported, fun hc => ?_⟩⟩, hreported, fun hc => hanswer ?_⟩
  · rw [hlink, (levelFrames_on _ _ _).flush, (v.links[p].handControl_on _).flush]
  · rw [hreported, hlevel] at hne
    rw [hlevel, hlink]
    by_cases hsame : (v.berth p).reported = some (v.screenLevel p)
    · have hheld := (h.settled.level hs (by rw [hsame]; exact hne)).2 hc
      exact Link.foldl_handControl_holds (Link.handControl_holds hheld _) _
    · rw [levelFrames, if_neg hsame]
      have hon := v.links[p].handControl_on (.answer k a)
      have hle := (v.links[p].handControl (.answer k a)).control_length_le_load.1
      have hload' := hon.load
      have hv := hroom hc
      exact Link.holds_handControl (hon.state.trans hvup) (by omega) _
  · have hle := v.links[p].control_length_le_load.1
    have hv := hroom hc
    omega

/-! ## A dismissal -/

section
variable {s u : State} {p : Port} {now : Time} {b : Berth} {h : Bool}

/-- CLEAR hands a card at most (R127). -/
theorem Turns.clearCard (k : Turns s u p now b h) (id : AnnId) : Turns s (u.clearCard id p) p now b h := by
  cases he : u.entry? id with
  | none =>
    have heq : u.clearCard id p = u := by rw [State.clearCard, he]
    rwa [heq]
  | some e =>
    rw [u.clearCard_eq id p he]
    split
    · split
      · exact k.step rfl rfl rfl rfl (.inr ⟨_, State.modLink_self ..⟩)
      · exact k.step rfl rfl rfl rfl (.inl rfl)
    · exact k

theorem State.clearCard_berthVoice (u : State) (id : AnnId) (p q : Port) : (u.clearCard id p).berthVoice q = u.berthVoice q := by
  unfold State.clearCard
  split
  · rfl
  · split
    · dsimp only
      split <;> rfl
    · rfl

/-- The link of a port whose card is cleared (R127). -/
theorem State.clearCard_link {id : AnnId} {e : Entry} (he : u.entry? id = some e) : (u.clearCard id p).links[p] =
    if (e.recs.any fun r => r.port == p && r.card) && u.linkUp p then u.links[p].handCard u.now (e.card .clear) else u.links[p] := by
  rw [u.clearCard_eq id p he]
  cases e.recs.any fun r => r.port == p && r.card with
  | false => rfl
  | true =>
    cases u.linkUp p with
    | false => rfl
    | true => exact State.modLink_self u p fun l => l.handCard u.now (e.card .clear)

/-- The link of a port whose card is shown (R127). -/
theorem State.showCard_link {id : AnnId} {e : Entry} (he : u.entry? id = some e) : (u.showCard id p).links[p] =
    if u.linkUp p then u.links[p].handCard u.now (e.card .show) else u.links[p] := by
  rw [u.showCard_eq id p he]
  cases u.linkUp p with
  | false => rfl
  | true => exact State.modLink_self u p fun l => l.handCard u.now (e.card .show)

/-- The current announcement leaves the voice, its outcome fixed and its card cleared (R121, R123). -/
def State.takeOff (u : State) (p : Port) (id : AnnId) (o : BerthOutcome) : State := ((u.fix id p o).clearCard id p).freeVoice p

theorem State.takeOff_atPort (u : State) (p : Port) (id : AnnId) (o : BerthOutcome) : AtPort p u (u.takeOff p id o) :=
  ((u.fix_atPort p id o).trans (State.clearCard_atPort _ p id)).trans (State.freeVoice_atPort _ p)

theorem Turns.takeOff (k : Turns s u p now b h) (id : AnnId) (o : BerthOutcome) : Turns s (u.takeOff p id o) p now b h :=
  ((k.fix id o).clearCard id).modVoice fun v => { v with serving := .idle }

theorem State.takeOff_berthVoice (u : State) (p : Port) (id : AnnId) (o : BerthOutcome) :
    (u.takeOff p id o).berthVoice p = { u.berthVoice p with serving := .idle } := by
  rw [State.takeOff, State.freeVoice, State.modVoice_self, State.clearCard_berthVoice]
  rfl

theorem State.record?_takeOff (u : State) (p : Port) (id : AnnId) (o : BerthOutcome) (j : AnnId) :
    (u.takeOff p id o).record? j p = if j = id then (u.record? id p).map fun r => { r.fixedTo o with card := false }
      else u.record? j p := by
  have hfree : (u.takeOff p id o).record? j p = ((u.fix id p o).clearCard id p).record? j p := rfl
  rw [hfree, State.record?_clearCard]
  by_cases hj : j = id
  · rw [if_pos ⟨hj, rfl⟩, if_pos hj, State.record?_fix, if_pos ⟨rfl, rfl⟩, Option.map_map]
    rfl
  · rw [if_neg fun hc => hj hc.1, if_neg hj, State.record?_fix, if_neg fun hc => hj hc.1]

/-- The voice from which an announcement is taken off serves its pending list (R120, R121, R123). -/
theorem Turns.takeOff_servePending (k : Turns s u p u.now b (s.berth p).hold) (hvoices : u.voice = s.voice) (id : AnnId)
    (o : BerthOutcome) (hpending : ∀ x ∈ (s.berthVoice p).pending, x.1 ≠ id) :
    ServesOn s (u.takeOff p id o) ((u.takeOff p id o).servePending p) p b (s.berthVoice p).pending := by
  have hat := u.takeOff_atPort p id o
  have hentries : EntriesKept s (u.takeOff p id o) (s.berthVoice p).pending := fun x _ => by
    rw [hat.entry, State.entry?_congr (s := s) (by rw [hvoices])]
  refine Turns.servePending (by rw [hat.now]; exact k.takeOff id o) ?_ hentries fun x hx => ?_
  · rw [State.takeOff_berthVoice, State.berthVoice, hvoices]
    rfl
  · rw [State.record?_takeOff, if_neg (hpending x hx), State.record?_congr (s := s) (by rw [hvoices])]

/-- A request that dismisses the announcement in service (R9, R10, R123). -/
theorem dismissed_of {id : AnnId} (hlink : (s.linkRuns p && s.linkUp p) = true) (kind : RequestKind)
    (hu : u = { s with berths := u.berths }) (hberth : u.berth p = b)
    (hkept : b.reported = (s.berth p).reported ∧ b.hold = (s.berth p).hold)
    (hother : ∀ q, q ≠ p → u.berth q = s.berth q)
    (hcounters : u.berths.requests = bump s.berths.requests ∧ u.berths.refusals = s.berths.refusals)
    (hpending : ∀ x ∈ (s.berthVoice p).pending, x.1 ≠ id) :
    dismissed s (((u.dismiss p id).answer p kind .accepted).recompute p) p id kind b ∧
      (((u.dismiss p id).answer p kind .accepted).recompute p).currentId p ≠ some id := by
  have hvoices : u.voice = s.voice := by rw [hu]
  have k : Turns s u p u.now b (s.berth p).hold := by
    refine ⟨by rw [hu], by rw [hu], rfl, ?_, .inl ⟨by rw [hberth]; exact hkept.1, ?_⟩⟩
    · rw [hberth, ← hkept.2]
    · rw [hu]
      exact .refl _
  have hserves := k.takeOff_servePending hvoices id .dismissed hpending
  have hdismiss : u.dismiss p id = (u.takeOff p id .dismissed).servePending p := rfl
  have hat : AtPort p u (u.dismiss p id) := (u.takeOff_atPort p id .dismissed).trans (State.servePending_atPort _ p)
  rw [← hdismiss] at hserves
  generalize u.dismiss p id = v at hserves hat
  have hservice : v.inService p = true := by
    rw [State.inService, State.image, hat.startup, hu]
    exact ((Bool.and_eq_true _ _).mp ((Bool.and_eq_true _ _).mp hlink).1).1
  obtain ⟨hserved, hreported, hanswer⟩ := hserves.answered hservice (linkRuns_and_linkUp hlink) kind .accepted
  obtain ⟨_, hrest, hrequests, hrefusals, heq⟩ := v.recompute_answer_frame p kind .accepted
  have hframe := hat.frame
  refine ⟨⟨fun r hr hin => ?_, hserved, hreported, ?_, ?_, hanswer, fun q hq => ⟨?_, ?_, ?_⟩, ?_⟩, ?_⟩
  · have hrecord : (((v.answer p kind .accepted).recompute p)).record? id p = v.record? id p := by rw [heq]; rfl
    rw [hrecord, hserves.others id hpending, State.record?_takeOff, if_pos rfl, State.record?_congr (s := s) (by rw [hvoices]), hr,
      Option.map_some, BerthRec.fixedTo_of_inService hin]
  · rw [hrequests, hframe]
    exact hcounters.1
  · rw [hrefusals, if_pos rfl, hframe]
    exact hcounters.2
  · rw [(hrest q hq).1, hat.berth q hq, hother q hq]
  · rw [(hrest q hq).2, hat.link q hq, hu]
  · rw [heq]
    exact (hat.voice q hq).trans (by rw [hu]; rfl)
  · generalize State.recompute _ p = t at heq
    rw [heq, hframe, hu]
  · rw [State.currentId, hserved.1]
    intro hc
    obtain ⟨x, hx, hid⟩ := List.mem_map.mp ((State.servedFrom_mem _ _).2.1 id hc)
    exact hpending x hx hid

end

end Sys2Proof.Machine
end

section
/-! Pending announcements at their wait limit, SKIP, DND and inactivity: O35 and O44. -/

namespace Sys2Proof.Machine

/-! ## SKIP -/

section
variable {s : State} {p : Port}

theorem State.skipEffect_of_none (h : s.currentId p = none) : s.skipEffect p = (s, .refused .nothing) := by
  rw [State.skipEffect, h]

theorem State.skipEffect_of_class {id : AnnId} {k : AnnClass} (h : s.currentId p = some id) (hk : s.classOfId id = some k) :
    s.skipEffect p = if k = .service ∨ k = .stop then (s.dismiss p id, .accepted) else (s, .refused .notAllowed) := by
  rw [State.skipEffect, h]
  dsimp only
  rw [hk]
  cases k <;> rfl

/-- The node when a request's own effect begins, told by parts. -/
theorem State.requested_eq (s : State) (p : Port) (r : PassengerRequest) :
    s.requested p r = { s with berths := (s.requested p r).berths } := rfl

theorem State.requested_counters (s : State) (p : Port) (r : PassengerRequest) :
    (s.requested p r).berths.requests = bump s.berths.requests ∧ (s.requested p r).berths.refusals = s.berths.refusals := ⟨rfl, rfl⟩

theorem State.requested_other (s : State) {p q : Port} (r : PassengerRequest) (h : q ≠ p) :
    (s.requested p r).berth q = s.berth q := State.modBerth_other _ h _

theorem Berth.activity_hold (b : Berth) (now : Time) : (b.activity now).hold = b.hold := by
  cases h : b.attention <;> simp [Berth.activity, h]

/-! ## The wait limit -/

theorem exec_pendingWaitLimit {id : AnnId} {x : AnnId × Time}
    (h : (s.berthVoice p).pending.find? (fun y => y.1 == id) = some x) :
    exec (.pendingWaitLimit p id) s =
      .next ((((s.reach (x.2 + ms 20000)).leavePending p id).fix id p .missed).showCard id p) := by
  change execPendingWaitLimit p id s = _
  rw [execPendingWaitLimit, h]

end

/-- Settles O44. -/
theorem pendingEndsAndSkips : Obligations.PendingEndsAndSkips := by
  intro s p
  refine ⟨fun id x r hx hr hpending => ?_, fun hlink => ⟨fun hnone => ?_, fun id k hid hk hkept => ?_, fun id k hid hk hgone hpend => ?_⟩⟩
  · have hat : AtPort p (s.reach (x.2 + ms 20000)) (((s.reach (x.2 + ms 20000)).leavePending p id).fix id p .missed) :=
      (State.leavePending_atPort _ p id).trans (State.fix_atPort _ p id _)
    have hvoice : (((s.reach (x.2 + ms 20000)).leavePending p id).fix id p .missed).berthVoice p =
        { s.berthVoice p with pending := (s.berthVoice p).pending.filter fun y => y.1 ≠ id } :=
      (s.reach (x.2 + ms 20000)).modVoice_self p fun v => { v with pending := v.pending.filter fun y => y.1 ≠ id }
    have hrecord : (((s.reach (x.2 + ms 20000)).leavePending p id).fix id p .missed).record? id p =
        some { r with role := .fixed .missed } := by
      rw [State.record?_fix, if_pos ⟨rfl, rfl⟩, ← BerthRec.fixedTo_of_pending hpending]
      exact congrArg (Option.map fun r : BerthRec => r.fixedTo .missed) hr
    have hlinks : (((s.reach (x.2 + ms 20000)).leavePending p id).fix id p .missed).links = s.links := rfl
    refine ⟨_, exec_pendingWaitLimit hx, ?_⟩
    have hnow := hat.now
    have hframe : (((s.reach (x.2 + ms 20000)).leavePending p id).fix id p .missed) = { s with
        now := max s.now (x.2 + ms 20000),
        voice := (((s.reach (x.2 + ms 20000)).leavePending p id).fix id p .missed).voice } := rfl
    generalize (((s.reach (x.2 + ms 20000)).leavePending p id).fix id p .missed) = u at hat hvoice hrecord hlinks hnow hframe
    have hat' := u.showCard_atPort p id
    have hshow := u.showCard_frame id p
    have hnow' : (u.showCard id p).now = max s.now (x.2 + ms 20000) := hat'.now.trans hnow
    have hvoice' := u.showCard_berthVoice id p p
    have hup : u.linkUp p = s.linkUp p := by rw [State.linkUp, hlinks]; rfl
    refine ⟨hnow', fun y hy => ?_, ?_, ?_, fun e he => ?_, fun q hq => ⟨?_, ?_⟩, ?_⟩
    · rw [hvoice', hvoice] at hy
      exact of_decide_eq_true (List.mem_filter.mp hy).2
    · rw [hvoice', hvoice]
    · rw [State.record?_showCard, if_pos ⟨rfl, rfl⟩, hrecord, hup]
      rfl
    · obtain ⟨e', he', hbare⟩ := hat.entry_some (id := id) (e := e) he
      obtain ⟨hdesc, _⟩ := Entry.bare_eq hbare
      rw [State.showCard_link he', hup, hat'.now, hlinks, Entry.card, hdesc]
    · exact (hat'.voice q hq).trans (hat.voice q hq)
    · exact (hat'.link q hq).trans (hat.link q hq)
    · generalize u.showCard id p = t at hshow
      rw [hshow, hframe]
  · exact ⟨_, rfl, requestTaken_of_no_effect (r := .skip) hlink (State.skipEffect_of_none (s := s.requested p .skip) hnone) rfl⟩
  · refine ⟨_, rfl, requestTaken_of_no_effect (r := .skip) hlink ?_ rfl⟩
    have heffect := State.skipEffect_of_class (s := s.requested p .skip) (p := p) hid hk
    rw [if_neg (by obtain rfl | rfl := hkept <;> simp)] at heffect
    exact heffect
  · have heffect : (s.requested p .skip).requestEffect p .skip = ((s.requested p .skip).dismiss p id, .accepted) :=
      (State.skipEffect_of_class (s := s.requested p .skip) (p := p) hid hk).trans (if_pos hgone)
    obtain ⟨hdismissed, hfree⟩ := dismissed_of (s := s) (u := s.requested p .skip) (b := (s.berth p).activity s.now) hlink .skip
      (s.requested_eq p .skip) (s.requested_berth p .skip) ⟨Berth.activity_reported .., Berth.activity_hold ..⟩
      (fun q hq => s.requested_other .skip hq) (s.requested_counters p .skip) hpend
    refine ⟨s.takeRequest p .skip, rfl, ?_⟩
    rw [State.takeRequest_of_taken hlink, heffect]
    exact ⟨hfree, hdismissed⟩

/-! ## DND and inactivity -/

/-- A berth that DND is set on or off for, as the statements say it (R5, R9). -/
def dndSet (screen : Screen) (now : Time) (on : Bool) (b : Berth) : Berth :=
  match on, b.attention with
  | true, .dnd => b
  | true, _ => { b with attention := .dnd, timer := .held (b.timer.value now), screen := screen }
  | false, .dnd => { b with attention := .awake, timer := .counting now, screen := if b.screen = .dim then .on else b.screen }
  | false, _ => b

theorem Berth.activity_of_dnd {b : Berth} (h : b.attention = .dnd) (now : Time) : b.activity now = b := by
  rw [Berth.activity, h]

theorem Berth.requestActivity_of_dnd {b : Berth} (h : b.attention = .dnd) (now : Time) :
    b.requestActivity (.dnd true) now = b := by
  rw [Berth.requestActivity, Berth.activity_of_dnd h]

theorem Berth.setDnd_requestActivity (b : Berth) (now : Time) (on : Bool) :
    (b.requestActivity (.dnd on) now).setDnd on now = dndSet b.screen now on (b.activity now) := by
  cases on with
  | false => cases h : b.attention <;> simp [Berth.requestActivity, Berth.setDnd, Berth.activity, dndSet, h]
  | true =>
    cases h : b.attention with
    | dnd =>
      have hset : dndSet b.screen now true b = b := by simp only [dndSet, h]
      rw [Berth.requestActivity_of_dnd h, Berth.activity_of_dnd h, hset, Berth.setDnd, if_pos rfl, h]
    | awake => simp [Berth.requestActivity, Berth.setDnd, Berth.activity, dndSet, h]
    | resting => simp [Berth.requestActivity, Berth.setDnd, Berth.activity, dndSet, h]

/-- The berth of a dismissal by DND on, as the statements say it. -/
theorem Berth.setDnd_on (b : Berth) (now : Time) : (b.requestActivity (.dnd true) now).setDnd true now =
    match b.attention with
    | .dnd => b
    | _ => { b.activity now with
             attention := .dnd, timer := .held ((b.activity now).timer.value now), screen := b.screen } := by
  cases h : b.attention with
  | dnd => rw [Berth.requestActivity_of_dnd h, Berth.setDnd, if_pos rfl, h]
  | awake => simp [Berth.requestActivity, Berth.setDnd, Berth.activity, h]
  | resting => simp [Berth.requestActivity, Berth.setDnd, Berth.activity, h]

theorem Berth.setDnd_kept (b : Berth) (on : Bool) (now : Time) :
    (b.setDnd on now).reported = b.reported ∧ (b.setDnd on now).hold = b.hold := by
  cases on with
  | false => cases h : b.attention <;> simp [Berth.setDnd, h]
  | true => cases h : b.attention <;> simp [Berth.setDnd, h]

theorem Berth.setDnd_true_attention (b : Berth) (now : Time) : (b.setDnd true now).attention = .dnd := by
  cases h : b.attention <;> simp [Berth.setDnd, h]

section
variable {s : State} {p : Port}

theorem State.dndDismisses_of_none (h : s.currentId p = none ∨ (s.currentId p).bind s.classOfId = some .emergency) :
    s.dndDismisses p = none := by
  unfold State.dndDismisses
  cases hid : s.currentId p with
  | none => rfl
  | some id =>
    obtain h | h := h
    · exact absurd (hid.symm.trans h) nofun
    · rw [hid] at h
      exact if_pos h

theorem State.dndDismisses_of_class {id : AnnId} {k : AnnClass} (h : s.currentId p = some id) (hk : s.classOfId id = some k)
    (hne : k ≠ .emergency) : s.dndDismisses p = some id := by
  rw [State.dndDismisses, h]
  exact if_neg (by rw [hk]; exact fun hc => hne (Option.some.inj hc))

theorem requestEffect_dnd_of_kept {on : Bool} (h : on = false ∨ s.dndDismisses p = none) :
    s.requestEffect p (.dnd on) = (s.modBerth p fun b => b.setDnd on s.now, .accepted) := by
  cases on with
  | false => rfl
  | true =>
    have hnone : s.dndDismisses p = none := h.resolve_left nofun
    simp only [State.requestEffect, hnone]

theorem requestEffect_dnd_of_dismissed {id : AnnId} (h : s.dndDismisses p = some id) :
    s.requestEffect p (.dnd true) = ((s.modBerth p fun b => b.setDnd true s.now).dismiss p id, .accepted) := by
  simp only [State.requestEffect, h]

end

/-- Wakes and turns leave a berth under DND so. -/
theorem State.servedFrom_attention {s : State} {p : Port} {now : Time} (l : List (AnnId × Time)) (b : Berth)
    (h : b.attention = .dnd) : (s.servedFrom p now b l).berth.attention = .dnd := by
  obtain hb | hb := State.servedFrom_berth (s := s) (p := p) (now := now) l b
  · rw [hb]
    exact h
  · have hwoken : b.woken now = { b with screen := .on } := if_pos h
    rw [hb, hwoken]
    exact h

/-- Settles O35. -/
theorem attentionMoves : Obligations.AttentionMoves := by
  refine ⟨fun s p on hlink => ⟨fun hkept => ?_, fun id k hid hk hne hpend => ?_⟩,
    fun s p => ⟨fun t0 htimer hawake hservice => ?_, fun h => exec_inactivityExpiry_of_not fun t0 _ hawake => h.resolve_left (not_not.mpr hawake)⟩⟩
  · refine ⟨_, rfl, requestTaken_of_effect (r := .dnd on) (g := fun b => b.setDnd on s.now) hlink
      (requestEffect_dnd_of_kept (hkept.imp_right State.dndDismisses_of_none)) (fun b => (b.setDnd_kept on s.now).1)
      ((s.berth p).setDnd_requestActivity s.now on)⟩
  · have hdismisses : (s.requested p (.dnd true)).dndDismisses p = some id := State.dndDismisses_of_class (p := p) hid hk hne
    have heffect := requestEffect_dnd_of_dismissed hdismisses
    have hberth : ((s.requested p (.dnd true)).modBerth p fun b => b.setDnd true (s.requested p (.dnd true)).now).berth p =
        ((s.berth p).requestActivity (.dnd true) s.now).setDnd true s.now := by
      rw [State.modBerth_self, State.requested_berth]
      rfl
    have hkept := ((s.berth p).requestActivity (.dnd true) s.now).setDnd_kept true s.now
    have hattention := ((s.berth p).requestActivity (.dnd true) s.now).setDnd_true_attention s.now
    have hactivity : ((s.berth p).requestActivity (.dnd true) s.now).reported = (s.berth p).reported ∧
        ((s.berth p).requestActivity (.dnd true) s.now).hold = (s.berth p).hold :=
      ⟨Berth.requestActivity_reported .., Berth.activity_hold ..⟩
    obtain ⟨hdismissed, hfree⟩ := dismissed_of (s := s)
      (u := (s.requested p (.dnd true)).modBerth p fun b => b.setDnd true (s.requested p (.dnd true)).now) hlink .dnd rfl hberth
      ⟨hkept.1.trans hactivity.1, hkept.2.trans hactivity.2⟩
      (fun q hq => (State.modBerth_other _ hq _).trans (s.requested_other (.dnd true) hq)) (s.requested_counters p (.dnd true)) hpend
    refine ⟨s.takeRequest p (.dnd true), rfl, ?_⟩
    rw [State.takeRequest_of_taken hlink, heffect]
    have hserves := hdismissed.2.1
    obtain ⟨_, hleft, _⟩ := hserves
    refine ⟨?_, hfree, ?_⟩
    · exact (congrArg Berth.attention hleft).trans (State.servedFrom_attention _ _ hattention)
    · rw [Berth.setDnd_on] at hdismissed
      exact hdismissed
  · have hself := State.recompute_self (s := (s.reach (t0 + inactivityLimit)).modBerth p Berth.rest) (p := p)
    have heq := ((s.reach (t0 + inactivityLimit)).modBerth p Berth.rest).recompute_eq p
    have hother := fun q hq => State.recompute_other (s := (s.reach (t0 + inactivityLimit)).modBerth p Berth.rest) (p := p) (q := q) hq
    have hup : ((s.reach (t0 + inactivityLimit)).modBerth p Berth.rest).linkUp p = s.linkUp p := rfl
    have hserves : ((s.reach (t0 + inactivityLimit)).modBerth p Berth.rest).inService p = true := hservice
    have hlinks : ((s.reach (t0 + inactivityLimit)).modBerth p Berth.rest).links[p] = s.links[p] := rfl
    have hberth : ((s.reach (t0 + inactivityLimit)).modBerth p Berth.rest).berth p = (s.berth p).rest := State.modBerth_self ..
    obtain ⟨hlink, hrecord⟩ := hself
    rw [hup, hserves, hlinks] at hlink
    rw [hup, hserves, hberth] at hrecord
    refine ⟨_, exec_inactivityExpiry_of_awake htimer hawake hservice, ?_, fun h => ?_, fun h => ?_, fun q hq => ?_, ?_⟩
    · rw [hrecord, State.recompute_screenLevel]
      rfl
    · exact levelSent_recompute (frames := []) hservice (beq_iff_eq.mp h) rfl (by rw [hberth]; rfl)
    · rw [hlink, h]
      rfl
    · obtain ⟨hl, hb⟩ := hother q hq
      exact ⟨hb.trans (State.modBerth_other _ hq _), hl⟩
    · generalize State.recompute _ p = t at heq
      rw [heq]
      rfl

end Sys2Proof.Machine
end

section
/-! An entry leaves the announcement table (R113, R126): what its removal leaves of the voices, the links and the table. -/

namespace Sys2Proof.Machine

/-! ## The voices -/

/-- A voice that an announcement has left. -/
def Voice.without (v : Voice) (id : AnnId) : Voice :=
  { serving := if v.serving.current = some id then .idle else v.serving, pending := v.pending.filter fun x => x.1 ≠ id }

theorem State.modVoice_congr (t : State) (p : Port) {f g : Voice → Voice} (h : f (t.berthVoice p) = g (t.berthVoice p)) :
    t.modVoice p f = t.modVoice p g := by
  have h' : f t.voice.voices[p] = g t.voice.voices[p] := h
  rw [State.modVoice, State.modVoice, h']

theorem State.modVoice_modVoice (t : State) (p : Port) (f g : Voice → Voice) :
    (t.modVoice p f).modVoice p g = t.modVoice p fun v => g (f v) := by
  have hget : (t.modVoice p f).voice.voices[p] = f t.voice.voices[p] := t.modVoice_self p f
  rw [State.modVoice, hget]
  simp [State.modVoice]

theorem State.giveUp_eq (t : State) (id : AnnId) (p : Port) :
    (if t.serves id p then t.freeVoice p else t).leavePending p id = t.modVoice p fun v => v.without id := by
  have hserves : t.serves id p = true ↔ (t.berthVoice p).serving.current = some id := beq_iff_eq
  split
  · next h =>
    rw [State.leavePending, State.freeVoice, State.modVoice_modVoice]
    exact t.modVoice_congr p (by rw [Voice.without, if_pos (hserves.mp h)])
  · next h => exact t.modVoice_congr p (by rw [Voice.without, if_neg (mt hserves.mpr h)])

/-! ## The cards -/

/-- An entry with no card shown at a port. -/
def Entry.uncarded (e : Entry) (p : Port) : Entry :=
  { e with recs := e.recs.map fun r => if r.port = p then { r with card := false } else r }

/-- A card of an entry is shown at a port (R127). -/
def Entry.cardAt (e : Entry) (p : Port) : Bool := e.recs.any fun r => r.port == p && r.card

theorem Entry.cardAt_iff (e : Entry) (p : Port) : e.cardAt p = true ↔ ∃ r ∈ e.recs, r.port = p ∧ r.card = true := by
  simp [Entry.cardAt, List.any_eq_true]

/-- A card is shown at a port of the entry's records. -/
theorem Entry.cardAt_mem {e : Entry} {p : Port} (h : e.cardAt p = true) : p ∈ e.recs.map BerthRec.port := by
  obtain ⟨r, hr, hp, _⟩ := (e.cardAt_iff p).mp h
  exact List.mem_map.mpr ⟨r, hr, hp⟩

theorem Entry.cardAt_uncarded (e : Entry) (p q : Port) : (e.uncarded p).cardAt q = if q = p then false else e.cardAt q := by
  rw [Entry.cardAt, Entry.uncarded, List.any_map]
  split
  · next h =>
    rw [h, List.any_eq_false]
    intro r _
    by_cases hr : r.port = p <;> simp [hr]
  · next h =>
    congr 1
    funext r
    by_cases hr : r.port = p
    · have hne : ¬p = q := fun hc => h hc.symm
      simp [hr, hne]
    · simp [hr]

theorem Entry.uncarded_of_none {e : Entry} {p : Port} (h : ¬e.cardAt p = true) : e.uncarded p = e := by
  have hrecs : (e.recs.map fun r => if r.port = p then { r with card := false } else r) = e.recs :=
    (List.map_congr_left (g := id) fun r hr => by
      split
      · next hp =>
        have hcard : r.card = false := Bool.eq_false_iff.mpr fun hc => h ((e.cardAt_iff p).mpr ⟨r, hr, hp, hc⟩)
        rw [← hcard]
        rfl
      · rfl).trans (List.map_id _)
  rw [Entry.uncarded, hrecs]

section
variable (u : State) (id : AnnId) (p : Port)

theorem State.entry?_modRec (f : BerthRec → BerthRec) (o : AnnId) : (u.modRec id p f).entry? o =
    if o = id then (u.entry? id).map fun e => { e with recs := e.recs.map fun r => if r.port = p then f r else r }
    else u.entry? o :=
  u.entry?_modEntry id o (f := fun e => { e with recs := e.recs.map fun r => if r.port = p then f r else r }) fun _ => rfl

theorem State.clearCard_frame : u.clearCard id p =
    { u with voice := { u.voice with table := (u.clearCard id p).voice.table }, links := (u.clearCard id p).links } := by
  unfold State.clearCard
  split
  · rfl
  · split
    · dsimp only
      split <;> rfl
    · rfl

theorem State.entry?_clearCard_other {o : AnnId} (h : o ≠ id) : (u.clearCard id p).entry? o = u.entry? o := by
  cases he : u.entry? id with
  | none =>
    have heq : u.clearCard id p = u := by rw [State.clearCard, he]
    rw [heq]
  | some e =>
    rw [u.clearCard_eq id p he]
    split
    · rw [State.entry?_modRec, if_neg h]
      split <;> rfl
    · rfl

theorem State.entry?_clearCard_self {e : Entry} (he : u.entry? id = some e) :
    (u.clearCard id p).entry? id = some (e.uncarded p) := by
  rw [u.clearCard_eq id p he]
  split
  · have hfind : (if u.linkUp p = true then u.modLink p fun l => l.handCard u.now (e.card .clear) else u).entry? id = some e := by
      split
      · exact he
      · exact he
    rw [State.entry?_modRec, if_pos rfl, hfind]
    rfl
  · next hnone => rw [Entry.uncarded_of_none hnone, he]

end

/-- The cards of an entry cleared at several ports: each port's card goes to its link once. -/
theorem State.foldl_clearCard (id : AnnId) (l : List Port) (u : State) {e : Entry} (he : u.entry? id = some e) :
    l.foldl (fun t q => t.clearCard id q) u = { u with
      voice := { u.voice with table := (l.foldl (fun t q => t.clearCard id q) u).voice.table },
      links := (l.foldl (fun t q => t.clearCard id q) u).links } ∧
    (∀ o, o ≠ id → (l.foldl (fun t q => t.clearCard id q) u).entry? o = u.entry? o) ∧
    ∀ p : Port, (l.foldl (fun t q => t.clearCard id q) u).links[p] =
      if p ∈ l ∧ e.cardAt p = true ∧ u.linkUp p = true then u.links[p].handCard u.now (e.card .clear) else u.links[p] := by
  induction l generalizing u e with
  | nil => exact ⟨rfl, fun _ _ => rfl, fun p => (if_neg fun hc => absurd hc.1 nofun).symm⟩
  | cons q l ih =>
    obtain ⟨hframe, hother, hlinks⟩ := ih (u.clearCard id q) (u.entry?_clearCard_self id q he)
    have hstep := u.clearCard_frame id q
    have hat := u.clearCard_atPort q id
    rw [List.foldl_cons]
    refine ⟨?_, fun o ho => (hother o ho).trans (u.entry?_clearCard_other id q ho), fun p => ?_⟩
    · generalize l.foldl (fun t q => t.clearCard id q) (u.clearCard id q) = v at hframe
      rw [hframe, hstep]
    · have hcard : (e.uncarded q).card .clear = e.card .clear := rfl
      rw [hlinks, e.cardAt_uncarded, hcard, hat.now]
      by_cases hp : p = q
      · subst hp
        have hself := State.clearCard_link (p := p) he
        rw [if_pos rfl, if_neg fun hc => absurd hc.2.1 Bool.false_ne_true, hself]
        simp [Entry.cardAt]
      · have hup : (u.clearCard id q).linkUp p = u.linkUp p := by rw [State.linkUp, hat.link p hp]; rfl
        rw [if_neg hp, hup, hat.link p hp]
        simp [hp]

/-! ## The removal -/

/-- The node without an entry: it is in the table no more, its id is closed, no voice has it, its cards at the given ports are
cleared and its ACK is handed over (R113, R126). -/
structure Removed (s u : State) (id : AnnId) (e : Entry) (ports : List Port) (ack : Body) : Prop where
  frame  : u = { s with
    trunk := u.trunk,
    voice := { s.voice with table := u.voice.table, closed := u.voice.closed, voices := u.voice.voices },
    links := u.links }
  gone   : u.entry? id = none
  kept   : ∀ o, o ≠ id → u.entry? o = s.entry? o
  closed : id ∈ u.voice.closed
  voice  : ∀ p, u.berthVoice p = (s.berthVoice p).without id
  link   : ∀ p : Port, u.links[p] = if p ∈ ports ∧ e.cardAt p = true ∧ s.linkUp p = true
    then s.links[p].handCard s.now (e.card .clear) else s.links[p]
  trunk  : s.running = true → u.trunk = s.trunk.fed (handedBy s s ack)

/-- The ACK of an entry whose outcomes are fixed (R128). -/
def Entry.ackOf (e : Entry) (served pend : BerthOutcome) : Body :=
  .ack e.desc.id (totalsOf (ackItems (e.close served pend).recs)) (ackItems (e.close served pend).recs)

/-- The entry of the table that is found by the id may be another of the same id. -/
theorem State.removeEntry_spec {s : State} {e e₀ : Entry} (he : s.entry? e.desc.id = some e₀) (served pend : BerthOutcome) :
    Removed s (s.removeEntry e served pend) e.desc.id e₀ (e.recs.map BerthRec.port) (e.ackOf served pend) := by
  generalize hs1 : (s.modEntry e.desc.id fun x => x.close served pend) = s1
  generalize hs2 : allPorts.foldl (fun t p => t.modVoice p fun v => v.without e.desc.id) s1 = s2
  generalize hs3 : (e.recs.map BerthRec.port).foldl (fun t q => t.clearCard e.desc.id q) s2 = s3
  generalize hs4 : s3.handOver (e.ackOf served pend) = s4
  have heq : s.removeEntry e served pend =
      ({ s4 with voice := { s4.voice with table := s4.voice.table.filter fun x => x.desc.id ≠ e.desc.id } }).closeId e.desc.id := by
    rw [← hs4, ← hs3, ← hs2, ← hs1, List.foldl_map, State.removeEntry]
    simp only [State.giveUp_eq]
    rfl
  obtain ⟨hframe2, hvoices⟩ := State.foldl_modVoice allPorts (List.nodup_finRange 12) (fun v => v.without e.desc.id) s1
  rw [hs2] at hframe2 hvoices
  have hentry1 : ∀ o, s1.entry? o = if o = e.desc.id then some (e₀.close served pend) else s.entry? o := fun o => by
    rw [← hs1, State.entry?_modEntry (f := fun x => x.close served pend) _ _ _ fun _ => rfl, he]
    rfl
  have hentry2 : ∀ o, s2.entry? o = s1.entry? o := fun o => State.entry?_congr (by rw [hframe2]) o
  obtain ⟨hframe3, hother, hlinks⟩ := State.foldl_clearCard e.desc.id (e.recs.map BerthRec.port) s2
    (e := e₀.close served pend) ((hentry2 _).trans ((hentry1 _).trans (if_pos rfl)))
  rw [hs3] at hframe3 hother hlinks
  have hframe1 : s1 = { s with voice := { s.voice with table := s1.voice.table } } := by
    rw [← hs1]
    rfl
  have hframe4 : s4 = { s3 with trunk := s4.trunk } := by
    have honly := (s3.handOver_only (e.ackOf served pend)).eq
    rw [hs4] at honly
    exact honly
  have hs3' : s3 = { s with voice := { s.voice with table := s3.voice.table, voices := s2.voice.voices }, links := s3.links } := by
    have h := hframe3
    rw [hframe2, hframe1] at h
    exact h
  have hfind : ∀ o, (s.removeEntry e served pend).entry? o = if o = e.desc.id then none else s3.entry? o := fun o => by
    rw [heq]
    have hremove := find_remove (fun x : Entry => x.desc.id) e.desc.id o s4.voice.table
    rw [hframe4] at hremove ⊢
    exact hremove
  refine ⟨?_, (hfind _).trans (if_pos rfl), fun o ho => ?_, ?_, fun p => ?_, fun p => ?_, fun hrun => ?_⟩
  · generalize s.removeEntry e served pend = t at heq
    rw [heq, hframe4, hs3']
    rfl
  · rw [hfind, if_neg ho, hother o ho, hentry2, hentry1, if_neg ho]
  · rw [heq]
    exact mem_pushDropOldest 8 s4.voice.closed e.desc.id
  · have hv : (s.removeEntry e served pend).berthVoice p = s2.berthVoice p := by
      rw [heq, hframe4, hs3']
      rfl
    have hall := (hvoices p).trans (if_pos (List.mem_finRange p))
    rw [hv, hall, ← hs1]
    rfl
  · have hl : (s.removeEntry e served pend).links = s3.links := by
      rw [heq, hframe4]
      rfl
    have hcard : (e₀.close served pend).cardAt p = e₀.cardAt p := by
      simp only [Entry.cardAt, Entry.close, List.any_map]
      congr 1
      funext r
      simp only [Function.comp]
      cases r.role <;> rfl
    have hs2links : s2.links = s.links ∧ s2.now = s.now := by
      rw [hframe2, hframe1]
      exact ⟨rfl, rfl⟩
    have hup : s2.linkUp p = s.linkUp p := by rw [State.linkUp, hs2links.1]; rfl
    simp only [hl, hlinks, hcard, hup, hs2links.1, hs2links.2]
    split <;> rfl
  · have hrun3 : s3.running = true := by
      rw [hs3']
      exact hrun
    have ht : (s.removeEntry e served pend).trunk = s4.trunk := by rw [heq]; rfl
    rw [ht, ← hs4, State.handOver_of_running hrun3, hs3']
    rfl

end Sys2Proof.Machine
end

section
/-! The end of an entry (R126): O43. -/

namespace Sys2Proof.Machine

/-! ## Work at several ports, one after the other -/

/-- Nothing changes but berth records, links, voices and what the berth records of the announcement table say. -/
structure Ported (s t : State) : Prop where
  frame : t = { s with
    berths := { s.berths with records := t.berths.records },
    voice := { s.voice with table := t.voice.table, voices := t.voice.voices },
    links := t.links }
  table : t.voice.table.map Entry.bare = s.voice.table.map Entry.bare

namespace Ported

variable {s t u : State}

theorem refl (s : State) : Ported s s := ⟨rfl, rfl⟩

theorem trans (h : Ported s t) (k : Ported t u) : Ported s u where
  frame := by
    have hs := h.frame
    have ht := k.frame
    rw [hs] at ht
    exact ht
  table := k.table.trans h.table

theorem of_atPort {p : Port} (h : AtPort p s t) : Ported s t := ⟨h.frame, h.table⟩

theorem now (h : Ported s t) : t.now = s.now := by rw [h.frame]

theorem startup (h : Ported s t) : t.startup = s.startup := by rw [h.frame]

theorem phase (h : Ported s t) : t.phase = s.phase := by rw [h.frame]

theorem entry_none (h : Ported s t) {id : AnnId} (he : s.entry? id = none) : t.entry? id = none := by
  have hid := State.entry?_bare h.table id
  rw [he] at hid
  exact Option.map_eq_none_iff.mp hid

theorem desc (h : Ported s t) (id : AnnId) : (t.entry? id).map Entry.desc = (s.entry? id).map Entry.desc := by
  have key : ∀ o : Option Entry, o.map Entry.desc = (o.map Entry.bare).map Entry.desc := fun o => by
    rw [Option.map_map]
    rfl
  rw [key, State.entry?_bare h.table, ← key]

end Ported

/-- Each port's work finds what stood at the port, and leaves the other ports. -/
theorem foldl_atPort {op : State → Port → State} (hop : ∀ s p, AtPort p s (op s p)) (l : List Port) (hl : l.Nodup) (s : State) :
    Ported s (l.foldl op s) ∧ (∀ p, p ∉ l → SameAt p s (l.foldl op s)) ∧
      ∀ p ∈ l, ∃ v, Ported s v ∧ SameAt p s v ∧ SameAt p (op v p) (l.foldl op s) := by
  induction l generalizing s with
  | nil => exact ⟨.refl s, fun p _ => .refl p s, nofun⟩
  | cons q l ih =>
    rw [List.nodup_cons] at hl
    obtain ⟨hq, hl⟩ := hl
    obtain ⟨hported, hother, hself⟩ := ih hl (op s q)
    have hstep := hop s q
    refine ⟨(Ported.of_atPort hstep).trans hported, fun p hp => ?_, fun p hp => ?_⟩
    · rw [List.mem_cons, not_or] at hp
      exact (hstep.sameAt hp.1).trans (hother p hp.2)
    · by_cases hpq : p = q
      · subst hpq
        exact ⟨s, .refl s, .refl p s, hother p hq⟩
      · obtain ⟨v, hv, hsame, hlast⟩ := hself p ((List.mem_cons.mp hp).resolve_left hpq)
        exact ⟨v, (Ported.of_atPort hstep).trans hv, (hstep.sameAt hpq).trans hsame, hlast⟩

/-! ## A voice freed by an entry that is gone -/

section
variable {s v : State} {p : Port}

/-- A berth that an event has found as it was, but for a card handed to its link. -/
theorem Turns.of_card (hstartup : v.startup = s.startup) (hphase : v.phase = s.phase) (hberth : v.berth p = s.berth p)
    (hlink : v.links[p] = s.links[p] ∨ ∃ n c, v.links[p] = s.links[p].handCard n c) :
    Turns s v p v.now (s.berth p) (s.berth p).hold := by
  refine ⟨hstartup, by rw [hphase], rfl, by rw [hberth], .inl ⟨by rw [hberth], ?_⟩⟩
  obtain hl | ⟨n, c, hl⟩ := hlink
  · rw [hl]
    exact .refl _
  · rw [hl]
    exact Link.handCard_on _ n c

theorem Voice.without_of_current {x : Voice} {id : AnnId} (h : x.serving.current = some id) :
    x.without id = { serving := .idle, pending := x.pending.filter fun y => y.1 ≠ id } := by
  rw [Voice.without, if_pos h]

theorem Voice.without_of_other {x : Voice} {id : AnnId} (h : x.serving.current ≠ some id) :
    x.without id = { x with pending := x.pending.filter fun y => y.1 ≠ id } := by
  rw [Voice.without, if_neg h]

/-- A voice that has nothing to serve, at a berth without hold, is left as it is. -/
theorem State.servePending_of_empty (hvoice : v.berthVoice p = { serving := .idle, pending := [] }) (hhold : (v.berth p).hold = false) :
    v.servePending p = v := by
  rw [State.servePending, if_pos (State.currentId_of_idle hvoice), hvoice]
  exact if_neg (by rw [State.serveList, hhold]; exact Bool.false_ne_true)

/-- A voice whose list is empty is IDLE, and its hold clear (R120, R125). -/
theorem idle_of_servesOn {t : State} {b : Berth} (h : servesOn s t p b []) :
    t.berthVoice p = { serving := .idle, pending := [] } ∧ (t.berth p).hold = false := by
  obtain ⟨hvoice, _, hhold, _⟩ := h
  refine ⟨hvoice, Bool.eq_false_iff.mpr fun hc => ?_⟩
  have hemergency := hhold.mp hc
  rw [State.currentId_of_idle hvoice] at hemergency
  exact absurd hemergency nofun

/-- No voice that has served such a list has an announcement that is not in it. -/
theorem absent_of_servesOn {t : State} {b : Berth} {list : List (AnnId × Time)} {id : AnnId} (h : servesOn s t p b list)
    (hlist : ∀ x ∈ list, x.1 ≠ id) : t.currentId p ≠ some id ∧ ∀ x ∈ (t.berthVoice p).pending, x.1 ≠ id := by
  obtain ⟨hvoice, _⟩ := h
  obtain ⟨_, hserving, hleft⟩ := State.servedFrom_mem (s := s) (p := p) (now := t.now) list b
  refine ⟨fun hc => ?_, fun x hx => ?_⟩
  · rw [State.currentId, hvoice] at hc
    obtain ⟨x, hx, hid⟩ := List.mem_map.mp (hserving id hc)
    exact hlist x hx hid
  · rw [hvoice] at hx
    exact hlist x (hleft x hx)

end

/-- The state in which an entry ends is the state that the event found, but for time, trunk and the count of lost entries. -/
def EndsFrom (s s0 : State) : Prop :=
  s0 = { s with now := s0.now, trunk := s0.trunk, voice := { s.voice with lost := s0.voice.lost } }

/-- What the end of an entry leaves (R126). -/
theorem endEntry_spec {s s0 : State} {e : Entry} (hs0 : EndsFrom s s0) (he : s.entry? e.desc.id = some e) (r : Option EndReason) :
    (s0.endEntry e r).now = s0.now ∧ entryEnded s (s0.endEntry e r) e.desc.id ∧ berthsFreed s (s0.endEntry e r) e.desc.id e ∧
      (s0.endEntry e r).voice.lost = s0.voice.lost ∧
      (s0.running = true → (s0.endEntry e r).trunk = s0.trunk.fed (handedBy s0 s0 (e.ackOf (endOutcome r) .missed))) := by
  have he0 : s0.entry? e.desc.id = some e := by
    rw [hs0]
    exact he
  have hremoved := State.removeEntry_spec he0 (endOutcome r) .missed
  have hnodup : (allPorts.filter (s0.serves e.desc.id)).Nodup := (List.nodup_finRange 12).filter _
  have hend : s0.endEntry e r = (allPorts.filter (s0.serves e.desc.id)).foldl State.servePending
      (s0.removeEntry e (endOutcome r) .missed) := rfl
  rw [hend]
  generalize s0.removeEntry e (endOutcome r) .missed = u at hremoved
  obtain ⟨hported, hother, hself⟩ := foldl_atPort State.servePending_atPort _ hnodup u
  have hmem : ∀ p, p ∈ allPorts.filter (s0.serves e.desc.id) ↔ s.currentId p = some e.desc.id := fun p => by
    have hserving : s0.currentId p = s.currentId p := by rw [hs0]; rfl
    refine List.mem_filter.trans ((and_iff_right (List.mem_finRange p)).trans ?_)
    rw [State.serves, beq_iff_eq, hserving]
  generalize (allPorts.filter (s0.serves e.desc.id)).foldl State.servePending u = t at hported hother hself
  have hvoice : ∀ p, u.berthVoice p = (s.berthVoice p).without e.desc.id := fun p => by
    rw [hremoved.voice, hs0]
    rfl
  have hberth : ∀ p, u.berth p = s.berth p := fun p => by
    rw [hremoved.frame, hs0]
    rfl
  have hlink : ∀ p : Port, u.links[p] = if e.cardAt p && s.linkUp p then s.links[p].handCard s0.now (e.card .clear) else s.links[p] :=
    fun p => by
    have hlinks : s0.links = s.links := by rw [hs0]
    have hup : s0.linkUp p = s.linkUp p := by rw [State.linkUp, hlinks]; rfl
    rw [hremoved.link, hup, hlinks]
    by_cases hc : (e.cardAt p && s.linkUp p) = true
    · obtain ⟨hcard, hlive⟩ := (Bool.and_eq_true _ _).mp hc
      rw [if_pos hc, if_pos ⟨Entry.cardAt_mem hcard, hcard, hlive⟩]
    · rw [if_neg hc, if_neg fun h => hc ((Bool.and_eq_true _ _).mpr h.2)]
  have hentry : ∀ o, o ≠ e.desc.id → u.entry? o = s.entry? o := fun o ho => by
    rw [hremoved.kept o ho, hs0]
    rfl
  have hnow : t.now = s0.now := hported.now.trans (by rw [hremoved.frame])
  have hfiltered : ∀ p, ∀ x ∈ (s.berthVoice p).pending.filter fun y => y.1 ≠ e.desc.id, x.1 ≠ e.desc.id := fun p x hx =>
    of_decide_eq_true (List.mem_filter.mp hx).2
  have hserves : ∀ p, s.currentId p = some e.desc.id →
      servesOn s t p (s.berth p) ((s.berthVoice p).pending.filter fun y => y.1 ≠ e.desc.id) := fun p hp => by
    obtain ⟨v, hv, hsame, hlast⟩ := hself p ((hmem p).mpr hp)
    have hturns : Turns s v p v.now (s.berth p) (s.berth p).hold := by
      refine Turns.of_card (by rw [hv.startup, hremoved.frame, hs0]) (by rw [hv.phase, hremoved.frame, hs0])
        (hsame.berth.trans (hberth p)) ?_
      rw [hsame.link, hlink]
      split
      · exact .inr ⟨_, _, rfl⟩
      · exact .inl rfl
    refine hlast.servesOn (hturns.servePending (hsame.voice.trans ((hvoice p).trans (Voice.without_of_current hp)))
      (fun x hx => ?_) fun x hx => ?_).serves
    · rw [State.entry?_bare hv.table, hentry _ (hfiltered p x hx)]
    · rw [hsame.record, State.record?, hentry _ (hfiltered p x hx)]
      rfl
  have hkept : ∀ p, s.currentId p ≠ some e.desc.id → SameAt p u t := fun p hp => hother p (mt (hmem p).mp hp)
  refine ⟨hnow, ⟨?_, ?_, fun p => ?_, fun o ho => ?_, ?_⟩, fun p => ⟨hserves p, fun hp hrest => ?_, fun hp => ?_, fun hp => ?_⟩, ?_,
    fun hrun => ?_⟩
  · exact hported.entry_none hremoved.gone
  · have hclosed : t.voice.closed = u.voice.closed := by rw [hported.frame]
    rw [hclosed]
    exact hremoved.closed
  · by_cases hp : s.currentId p = some e.desc.id
    · exact absent_of_servesOn (hserves p hp) (hfiltered p)
    · have hv : t.berthVoice p = { s.berthVoice p with pending := (s.berthVoice p).pending.filter fun y => y.1 ≠ e.desc.id } :=
        (hkept p hp).voice.trans ((hvoice p).trans (Voice.without_of_other hp))
      refine ⟨?_, ?_⟩
      · rw [State.currentId, hv]
        exact hp
      · rw [hv]
        exact hfiltered p
  · rw [hported.desc, hentry o ho]
  · rw [hported.frame, hremoved.frame, hs0]
  · have hserved := hserves p hp
    rw [hrest] at hserved
    exact idle_of_servesOn hserved
  · exact ⟨(hkept p hp).berth.trans (hberth p), (hkept p hp).voice.trans ((hvoice p).trans (Voice.without_of_other hp))⟩
  · rw [hnow]
    refine Eq.trans ?_ (hlink p)
    by_cases hcur : s.currentId p = some e.desc.id
    · obtain ⟨hrest, hhold⟩ := hp.resolve_left (not_not.mpr hcur)
      obtain ⟨v, _, hsame, hlast⟩ := hself p ((hmem p).mpr hcur)
      have hv : v.berthVoice p = { serving := .idle, pending := [] } := by
        rw [hsame.voice, hvoice, Voice.without_of_current hcur, hrest]
      rw [State.servePending_of_empty hv (by rw [hsame.berth, hberth]; exact hhold)] at hlast
      exact hlast.link.trans hsame.link
    · exact (hkept p hcur).link
  · rw [hported.frame, hremoved.frame]
  · have htrunk : t.trunk = u.trunk := by rw [hported.frame]
    rw [htrunk]
    exact hremoved.trunk hrun

/-- A class A body handed over in the state that an event ends from. -/
theorem queuedA_of_handed {s s0 t : State} {b : Body} (hb : accessClass b = .a) (hnow : t.now = s0.now)
    (hstartup : s0.startup = s.startup) (h : t.trunk = s.trunk.fed (handedBy s0 s0 b)) : queuedA s t b :=
  queuedA_of_fed hb (by rw [handedBy, hnow, ← hstartup]; exact h)

/-- Settles O43. -/
theorem endingClosesTheId : Obligations.EndingClosesTheId := by
  intro s
  refine ⟨fun source d r e hsource hrun hd hopen he => ?_, fun id e he => ?_⟩
  · have hid : e.desc.id = d.id := State.entry?_id he
    have hexec : exec (.announceEnd source d r) s = .next ((s.heard source).endEntry e (some r)) := by
      have hreceived : exec (.announceEnd source d r) s = .next ((s.heard source).takeAnnounce d (.fin r)) :=
        congrArg Host.Outcome.next (State.receive_of_takesFrom (b := .announce d (.fin r)) hsource hd)
      have hrun' : (s.heard source).running = true := hrun
      have hopen' : d.id ∉ (s.heard source).voice.closed := hopen
      have hentry : (s.heard source).entry? d.id = some e := he
      rw [hreceived]
      unfold State.takeAnnounce
      rw [if_pos hrun', if_neg hopen', hentry]
    obtain ⟨hnow, hended, hfreed, hlost, htrunk⟩ := endEntry_spec (s := s) (s0 := s.heard source) rfl (by rw [hid]; exact he) (some r)
    rw [hid] at hended hfreed
    refine ⟨_, hexec, hnow, hended, hfreed, hlost, ?_⟩
    have houtcome : endOutcome (some r) = if r = .aborted then .cut .aborted else .audio := by cases r <;> rfl
    rw [houtcome, Entry.ackOf, hid] at htrunk
    exact queuedA_of_handed (s := s.heard source) rfl hnow rfl (htrunk hrun)
  · have hid : e.desc.id = id := State.entry?_id he
    have hexec : exec (.entryLost id) s = .next (({ s.reach (e.lastPacket + ms 300) with
        voice := { s.voice with lost := bump s.voice.lost } }).endEntry e none) := by
      change execEntryLost id s = _
      rw [execEntryLost, he]
      rfl
    obtain ⟨hnow, hended, hfreed, hlost, htrunk⟩ := endEntry_spec (s := s) (s0 := { s.reach (e.lastPacket + ms 300) with
        voice := { s.voice with lost := bump s.voice.lost } }) rfl (by rw [hid]; exact he) none
    rw [hid] at hended hfreed
    rw [Entry.ackOf, hid] at htrunk
    exact ⟨_, hexec, hnow, hended, hfreed, hlost, fun hrun => queuedA_of_handed rfl hnow rfl (htrunk hrun)⟩

end Sys2Proof.Machine
end

section
/-! A targeted berth meets a new announcement (R117, R118, R121, R122). -/

namespace Sys2Proof.Machine

/-! ## A turn that decides for audio, at a voice that is free -/

section
variable {s u : State} {p : Port} {b : Berth} {h w : Bool} {e : Entry}

/-- What the turn of an announcement leaves at a voice, when the decision is for audio (R118). -/
structure TurnedAt (s u t : State) (p : Port) (e : Entry) (b : Berth) (h : Bool) : Prop where
  voice  : t.berthVoice p = if e.tooLate then u.berthVoice p else
    { u.berthVoice p with serving := if e.state = .leadIn then .chime e.desc.id else .speaking e.desc.id }
  record : t.record? e.desc.id p = (u.record? e.desc.id p).map fun r =>
    if e.tooLate then { r.fixedTo .missed with card := true } else { r with role := .inService, card := true }
  others : ∀ j, j ≠ e.desc.id → t.record? j p = u.record? j p
  calm   : (e.tooLate = true ∨ e.desc.cls ≠ .emergency) → Turns s t p u.now b h
  alarm  : ¬e.tooLate = true → e.desc.cls = .emergency → Alarmed s t p b h

/-- A berth at which an EMERGENCY may enter: it is to be woken, or its screen is ON and the level told. -/
def Ready (s u : State) (p : Port) (b : Berth) (w : Bool) : Prop := w = true ∨ (b.screen = .on ∧ Told s u p b)

theorem Turns.turn_audio (k : Turns s u p u.now b h) (hup : s.linkUp p = true) (hready : e.desc.cls = .emergency → Ready s u p b w) :
    TurnedAt s u (u.turn p e (.audio w)) p e (b.met u.now w) h := by
  obtain ⟨k1, hvoices, _, htold⟩ := k.met hup w
  have hscreen : e.desc.cls = .emergency → (b.met u.now w).screen = .on ∧
      Told s (if w then u.wake p else u) p (b.met u.now w) := fun hcls => by
    cases w with
    | true => exact htold rfl
    | false => exact (hready hcls).resolve_left nofun
  have hvoice1 : (if w = true then u.wake p else u).berthVoice p = u.berthVoice p := by
    rw [State.berthVoice, hvoices]
    rfl
  have hrecord1 : ∀ j, (if w = true then u.wake p else u).record? j p = u.record? j p := fun j =>
    State.record?_congr (by rw [hvoices]) j p
  rw [u.turn_audio p e w]
  generalize (if w = true then u.wake p else u) = u1 at k1 hscreen hvoice1 hrecord1
  by_cases hlate : e.tooLate = true
  · rw [if_pos hlate]
    refine ⟨?_, ?_, fun j hj => ?_, fun _ => k1.pass e.desc.id _, fun hc => absurd hlate hc⟩
    · rw [if_pos hlate, State.pass_berthVoice, hvoice1]
    · have hcard : ((Role.fixed .missed).shown && u1.linkUp p) = true := by rw [k1.linkUp, hup]; rfl
      rw [State.record?_pass, if_pos ⟨rfl, rfl⟩, hrecord1, hcard]
      simp only [hlate, if_true, Bool.true_or]
    · rw [State.record?_pass, if_neg fun hc => hj hc.1, hrecord1]
  · rw [if_neg hlate]
    obtain ⟨hvoice, hrecord, hcalm, halarm⟩ := k1.serve (e := e) hup hscreen
      (if e.state = .leadIn then .chime e.desc.id else .speaking e.desc.id)
    refine ⟨?_, ?_, fun j hj => ?_, fun hc => hcalm (hc.resolve_left hlate), fun _ => halarm⟩
    · rw [if_neg hlate, hvoice, hvoice1]
    · rw [hrecord, if_pos ⟨rfl, rfl⟩, hrecord1]
      simp only [if_neg hlate]
    · rw [hrecord, if_neg fun hc => hj hc.1, hrecord1]

/-- What such a turn leaves of the berth and the link, and what the voice's pending list leaves after it. -/
theorem Turns.turn_settled {list : List (AnnId × Time)} (k : Turns s u p u.now b (s.berth p).hold) (hup : s.linkUp p = true)
    (hready : e.desc.cls = .emergency → Ready s u p b w) (hvoice : u.berthVoice p = { serving := .idle, pending := list })
    (hclass : u.classOfId e.desc.id = some e.desc.cls) (hentries : EntriesKept s u list) :
    Settled s (u.turn p e (.audio w)) p (b.met u.now w) ∧
      ∃ b', (b' = b.met u.now w ∨ b' = (b.met u.now w).woken u.now) ∧ Settled s ((u.turn p e (.audio w)).servePending p) p b' := by
  have hat := u.turn_atPort p e (.audio w)
  have hturned := k.turn_audio hup hready
  generalize u.turn p e (.audio w) = t at hat hturned
  have hstartup := hat.startup.trans k.startup
  have hphase : t.phase.own = s.phase.own := by rw [hat.phase]; exact k.phase
  have hv := hturned.voice
  rw [hvoice] at hv
  by_cases hlate : e.tooLate = true
  · have kt := hturned.calm (.inl hlate)
    rw [if_pos hlate] at hv
    refine ⟨kt.settled, (s.servedFrom p t.now (b.met u.now w) list).berth, by rw [hat.now]; exact State.servedFrom_berth _ _,
      (Turns.servePending_left ?_ hv fun x hx => ?_).2.2.1⟩
    · exact ⟨kt.startup, kt.phase, rfl, kt.berth, kt.mid⟩
    · rw [hat.entry]
      exact hentries x hx
  · rw [if_neg hlate] at hv
    have hcurrent : t.currentId p = some e.desc.id := by
      rw [State.currentId, hv]
      dsimp only
      split <;> rfl
    have hserves : t.servePending p = t.settleHold p := by rw [State.servePending, if_neg (by rw [hcurrent]; nofun)]
    have hcls : t.currentClass p = some e.desc.cls := by
      rw [State.currentClass, hcurrent, Option.bind_some, hat.classOfId, hclass]
    have hspec := State.settleHold_spec (s := s) (v := t) (p := p) (now := u.now) (b := b.met u.now w)
      (fun hc => hturned.calm (.inr fun he => hc (by rw [hcls, he])))
      (fun hc => ⟨hup, hturned.alarm hlate (Option.some.inj (hcls.symm.trans hc))⟩) hstartup hphase
    rw [hserves]
    refine ⟨?_, _, .inl rfl, hspec.1⟩
    by_cases he : e.desc.cls = .emergency
    · exact ((hturned.alarm hlate he).settled hup hstartup hphase).1
    · exact (hturned.calm (.inr he)).settled

end

/-- A berth that a decision for audio has woken: its screen is ON, and a level that is new is reported in a frame (R13, R18). -/
def Roused (s t : State) (p : Port) : Prop :=
  (t.berth p).screen = .on ∧ ((s.berth p).attention ≠ .dnd → (t.berth p).attention = .awake) ∧
    (s.inService p = true → (t.berth p).reported = some (t.screenLevel p) ∧
      ((s.berth p).reported ≠ some (t.screenLevel p) → s.links[p].control.length ≤ 12 →
        (t.links[p]).holds (.screenLevel (t.screenLevel p))))

section
variable {s u t : State} {p : Port} {b : Berth} {now : Time}

/-- The berth of an event that has woken it, seen from the state that the event found and from the state after the wake. -/
theorem Roused.of_settled {b' : Berth} (hsettled : Settled s t p ((s.berth p).woken now)) (hlater : Settled u t p b')
    (htold : Told s u p ((s.berth p).woken now)) (hup : s.linkUp p = true) (hstartup : t.startup = s.startup)
    (hphase : t.phase.own = s.phase.own) (hupu : u.inService p = s.inService p ∧ u.linkUp p = s.linkUp p) : Roused s t p := by
  have hscreen := (s.berth p).woken_screen now
  refine ⟨by rw [hsettled.berth]; exact hscreen, fun hdnd => ?_, fun hservice => ?_⟩
  · rw [hsettled.berth, Berth.woken, if_neg hdnd]
  · have hlevel : t.screenLevel p = s.onLevel ((s.berth p).woken now) :=
      State.screenLevel_on hstartup hphase hsettled.berth hscreen
    have hreported : (t.berth p).reported = some (t.screenLevel p) := by
      by_cases hsame : (t.berth p).reported = (u.berth p).reported
      · rw [hsame, hlevel, htold hservice]
      · exact (hlater.level (by rw [hupu.1, hupu.2, hservice, hup]; rfl) hsame).1
    refine ⟨hreported, fun hne => (hsettled.level (by rw [hservice, hup]; rfl) ?_).2⟩
    rw [hreported]
    exact hne.symm

end

/-- The berth of a voice left free, woken by a turn that decides for audio, before and after the pending list is served. -/
theorem Turns.roused {s u : State} {p : Port} {e : Entry} {list : List (AnnId × Time)}
    (k : Turns s u p u.now (s.berth p) (s.berth p).hold) (hup : s.linkUp p = true)
    (hvoice : u.berthVoice p = { serving := .idle, pending := list })
    (hclass : u.classOfId e.desc.id = some e.desc.cls) (hentries : EntriesKept s u list) :
    Roused s (u.turn p e (.audio true)) p ∧ Roused s ((u.turn p e (.audio true)).servePending p) p := by
  obtain ⟨hfirst, b', hb', hnext⟩ := k.turn_settled (w := true) hup (fun _ => .inl rfl) hvoice hclass hentries
  have hb : b' = (s.berth p).woken u.now := hb'.elim id fun h => h.trans (Berth.woken_woken ..)
  rw [hb] at hnext
  have hat := u.turn_atPort p e (.audio true)
  have hat2 := (u.turn p e (.audio true)).servePending_atPort p
  obtain ⟨kwake, htold⟩ := k.wake hup
  have hatw := u.wake_atPort p
  have hsame : u.turn p e (.audio true) = (u.wake p).turn p e (.audio false) := rfl
  have hscreen : ((u.wake p).berth p).screen = .on := by rw [kwake.berth]; exact Berth.woken_screen ..
  have hvoicew : (u.wake p).berthVoice p = { serving := .idle, pending := list } := by
    rw [State.berthVoice, u.wake_voice]
    exact hvoice
  have hready : Told (u.wake p) (u.wake p) p ((u.wake p).berth p) := fun hservice => by
    have hlevel : (u.wake p).onLevel ((u.wake p).berth p) = s.onLevel ((s.berth p).woken u.now) := by
      rw [State.onLevel, kwake.image, kwake.profile, kwake.berth]
      rfl
    rw [hlevel]
    exact htold (kwake.inService.symm.trans hservice)
  have kself : Turns (u.wake p) (u.wake p) p (u.wake p).now ((u.wake p).berth p) ((u.wake p).berth p).hold :=
    Turns.of_card rfl rfl rfl (.inl rfl)
  obtain ⟨hfirst', c, _, hnext'⟩ := kself.turn_settled (e := e) (w := false) (kwake.linkUp.trans hup)
    (fun _ => .inr ⟨hscreen, hready⟩) hvoicew (by rw [hatw.classOfId]; exact hclass) fun _ _ => rfl
  rw [← hsame] at hfirst' hnext'
  have hrunsw : (u.wake p).inService p = s.inService p ∧ (u.wake p).linkUp p = s.linkUp p := ⟨kwake.inService, kwake.linkUp⟩
  exact ⟨.of_settled hfirst hfirst' htold hup (hat.startup.trans k.startup) (by rw [hat.phase]; exact k.phase) hrunsw,
    .of_settled hnext hnext' htold hup ((hat2.startup.trans hat.startup).trans k.startup)
      (by rw [hat2.phase, hat.phase]; exact k.phase) hrunsw⟩

/-! ## An EMERGENCY taken into the voice -/

/-- The link of a berth that enters emergency service: no video waits, and a VIDEO frame in progress is cut (R125, R157). -/
def Flushed (l l' : Link) : Prop :=
  l'.video = [] ∧ l'.counters.videoFlush = bumpBy l.video.length l.counters.videoFlush ∧
    ∀ c, l.sending = some (.video c) → l'.cuts = l.cuts + 1 ∧
      ∀ f r, l.resets = [] → l.control = f :: r → l'.sending = some f

theorem Alarmed.flushed {s t : State} {p : Port} {b : Berth} (k : Alarmed s t p b false) (hup : s.linkUp p = true) :
    Flushed s.links[p] t.links[p] := by
  obtain ⟨_, l, hmid, _, hlink, _⟩ := k
  have hon := hmid.linkOn
  obtain ⟨_, hvideo, hflush, _, _, hcut⟩ := Link.flushVideo_spec (hon.state.trans (beq_iff_eq.mp hup))
  rw [if_neg Bool.false_ne_true] at hlink
  rw [hlink]
  refine ⟨hvideo, by rw [hflush, hon.video, hon.flush], fun c hc => ?_⟩
  obtain ⟨hsending, hresets, hcuts, more, hcontrol⟩ := hon.busy (by rw [hc]; rfl)
  obtain ⟨hcount, hnext⟩ := hcut c (hsending.trans hc)
  exact ⟨by rw [hcount, hcuts], fun f r hr hf => hnext f (r ++ more) (hresets.trans hr) (by rw [hcontrol, hf]; rfl)⟩

end Sys2Proof.Machine
end

section
/-! What the meeting of a targeted berth with a new announcement leaves at its port (R116 to R118, R121, R122, R125, R127). -/

namespace Sys2Proof.Machine

/-- The voice of an announcement that a packet brings: CHIME for an entry in LEAD_IN, SPEAKING for one in SPEECH (R118). -/
def servingOf (tail : AnnTail) (id : AnnId) : Serving :=
  match tail with
  | .speech _ _ => .speaking id
  | _ => .chime id

/-- The state in which a targeted berth meets a new announcement: at its port all is as the event found it, and the announcement
is in the table with the berth's record pending. -/
structure AtMeeting (s v : State) (p : Port) (d : Descriptor) (tail : AnnTail) (e : Entry) : Prop where
  now     : v.now = s.now
  startup : v.startup = s.startup
  phase   : v.phase = s.phase
  berth   : v.berth p = s.berth p
  link    : v.links[p] = s.links[p]
  voice   : v.berthVoice p = s.berthVoice p
  entry   : v.entry? d.id = some e
  desc    : e.desc = d
  late    : e.tooLate = true ↔ ∃ i l, tail = .speech i l ∧ 2000 < i.toNat
  serving : (if e.state = .leadIn then Serving.chime d.id else .speaking d.id) = servingOf tail d.id
  others  : ∀ o, o ≠ d.id → (v.entry? o).map Entry.bare = (s.entry? o).map Entry.bare
  record  : v.record? d.id p = some { port := p, berth := s.berthNumber p, role := .pending, card := false }
  records : ∀ o, o ≠ d.id → v.record? o p = s.record? o p

/-- A priority is told by an entry without its records. -/
theorem State.priorityOf_bare {s v : State} {o : AnnId} (h : (v.entry? o).map Entry.bare = (s.entry? o).map Entry.bare) :
    v.priorityOf o = s.priorityOf o := by
  have key : ∀ x : Option Entry, x.map Entry.priority = (x.map Entry.bare).map Entry.priority := fun x => by
    rw [Option.map_map]
    rfl
  rw [State.priorityOf, State.priorityOf, key, h, ← key]

namespace AtMeeting

variable {s v : State} {p : Port} {d : Descriptor} {tail : AnnTail} {e : Entry}

theorem turns (h : AtMeeting s v p d tail e) : Turns s v p v.now (s.berth p) (s.berth p).hold :=
  Turns.of_card h.startup h.phase h.berth (.inl h.link)

theorem decision (h : AtMeeting s v p d tail e) (c : AnnClass) : v.decision c p = s.decision c p := by
  rw [State.decision, State.decision, h.turns.linkUp, h.turns.profile, h.berth]

theorem currentId (h : AtMeeting s v p d tail e) : v.currentId p = s.currentId p := by
  rw [State.currentId, h.voice]
  rfl

theorem priorityOf (h : AtMeeting s v p d tail e) {o : AnnId} (ho : o ≠ d.id) : v.priorityOf o = s.priorityOf o :=
  State.priorityOf_bare (h.others o ho)

theorem priority (h : AtMeeting s v p d tail e) : e.priority = annClassCode d.cls := by rw [Entry.priority, h.desc]

theorem classOfId (h : AtMeeting s v p d tail e) : v.classOfId e.desc.id = some e.desc.cls := by
  rw [State.classOfId, h.desc, h.entry, Option.map_some, h.desc]

/-- A meeting whose decision is against audio (R117). -/
theorem meet_of_pass (h : AtMeeting s v p d tail e) {c : Decision} (hd : s.decision d.cls p = c) (hpass : ∀ w, c ≠ .audio w) :
    v.meet d.id p = v.pass d.id p c.outcome := by
  rw [State.meet, h.entry]
  dsimp only
  rw [h.desc, h.decision, hd]
  obtain ⟨hunreachable, hdecline, hcaption⟩ := v.turn_of_pass p e
  rw [h.desc] at hunreachable hdecline hcaption
  cases c with
  | unreachable => exact hunreachable
  | decline => exact hdecline
  | caption => exact hcaption
  | audio w => exact absurd rfl (hpass w)

/-- A meeting whose decision is for audio (R117): at a free voice, at one that serves an announcement of lower priority, and at one
that does not. -/
theorem meet_of_audio (h : AtMeeting s v p d tail e) {w : Bool} (hd : s.decision d.cls p = .audio w) :
    (s.currentId p = none → v.meet d.id p = v.turn p e (.audio w)) ∧
    (∀ cur, s.currentId p = some cur → cur ≠ d.id → s.priorityOf cur < annClassCode d.cls →
      v.meet d.id p = ((v.takeOff p cur (.cut .preempted)).turn p e (.audio w)).servePending p) ∧
    (∀ cur, s.currentId p = some cur → cur ≠ d.id → annClassCode d.cls ≤ s.priorityOf cur →
      v.meet d.id p = v.joinPending p d.id) := by
  have hmeet : v.meet d.id p = match v.currentId p with
      | none => v.turn p e (.audio w)
      | some cur => if v.priorityOf cur < e.priority then ((v.preempt p cur).turn p e (.audio w)).servePending p
          else v.joinPending p d.id := by
    rw [State.meet, h.entry]
    dsimp only
    rw [h.desc, h.decision, hd] <;> rfl
  rw [hmeet, h.currentId, h.priority]
  refine ⟨fun hc => by rw [hc], fun cur hc hne hlow => ?_, fun cur hc hne hhigh => ?_⟩
  · rw [hc]
    exact if_pos (by rw [h.priorityOf hne]; exact hlow)
  · rw [hc]
    exact if_neg (by rw [h.priorityOf hne]; exact Nat.not_lt.mpr hhigh)

end AtMeeting

/-! ## The voice is free, or an announcement of lower priority is taken off it -/

/-- The state in which the announcement has its turn at a targeted berth. -/
def State.cleared (v : State) (p : Port) : State :=
  match v.currentId p with
  | none => v
  | some cur => v.takeOff p cur (.cut .preempted)

/-- The voice serves an announcement of lower priority than a class, if any. -/
def State.givesWay (s : State) (p : Port) (c : AnnClass) : Bool :=
  (s.currentId p).all fun cur => decide (s.priorityOf cur < annClassCode c)

/-- A voice that is made free for an announcement. -/
structure MadeFree (s u : State) (p : Port) (d : Descriptor) (e : Entry) : Prop where
  turns   : Turns s u p u.now (s.berth p) (s.berth p).hold
  now     : u.now = s.now
  voice   : u.berthVoice p = { serving := .idle, pending := (s.berthVoice p).pending }
  cls     : u.classOfId e.desc.id = some e.desc.cls
  others  : ∀ o, o ≠ d.id → (u.entry? o).map Entry.bare = (s.entry? o).map Entry.bare
  record  : u.record? d.id p = some { port := p, berth := s.berthNumber p, role := .pending, card := false }
  records : ∀ o, o ≠ d.id → s.currentId p ≠ some o → u.record? o p = s.record? o p
  cut     : ∀ cur r, s.currentId p = some cur → s.record? cur p = some r → r.role = .inService →
    u.record? cur p = some { r with role := .fixed (.cut .preempted), card := false }

section
variable {s v : State} {p : Port} {d : Descriptor} {tail : AnnTail} {e : Entry}

theorem AtMeeting.cleared (h : AtMeeting s v p d tail e) (hne : s.currentId p ≠ some d.id) : MadeFree s (v.cleared p) p d e := by
  have hturns := h.turns
  cases hcur : s.currentId p with
  | none =>
    have hclear : v.cleared p = v := by rw [State.cleared, h.currentId, hcur]
    have hidle : (s.berthVoice p).serving = .idle := by
      rw [State.currentId] at hcur
      cases hs : (s.berthVoice p).serving with
      | idle => rfl
      | chime id => rw [hs] at hcur; exact absurd hcur nofun
      | speaking id => rw [hs] at hcur; exact absurd hcur nofun
    rw [hclear]
    refine ⟨hturns, h.now, by rw [h.voice, ← hidle], h.classOfId, h.others, h.record, fun o ho _ => h.records o ho,
      fun cur r hc => absurd (hcur.symm.trans hc) nofun⟩
  | some cur =>
    have hid : cur ≠ d.id := fun hc => hne (by rw [hcur, hc])
    have hclear : v.cleared p = v.takeOff p cur (.cut .preempted) := by rw [State.cleared, h.currentId, hcur]
    have hat := v.takeOff_atPort p cur (.cut .preempted)
    have hvoice := v.takeOff_berthVoice p cur (.cut .preempted)
    have hrecord := v.record?_takeOff p cur (.cut .preempted)
    have kt := hturns.takeOff cur (.cut .preempted)
    rw [hclear]
    generalize v.takeOff p cur (.cut .preempted) = u at hat hvoice hrecord kt
    refine ⟨⟨kt.startup, kt.phase, rfl, kt.berth, kt.mid⟩, hat.now.trans h.now, by rw [hvoice, h.voice], by rw [hat.classOfId]; exact h.classOfId,
      fun o ho => (hat.entry o).trans (h.others o ho), ?_, fun o ho hoc => ?_, fun cur' r hc hr hrole => ?_⟩
    · rw [hrecord, if_neg (Ne.symm hid)]
      exact h.record
    · rw [hrecord, if_neg fun hc => hoc (by rw [hcur, hc]), h.records o ho]
    · obtain rfl := Option.some.inj (hcur.symm.trans hc)
      rw [hrecord, if_pos rfl, h.records cur hid, hr, Option.map_some, BerthRec.fixedTo_of_inService hrole]

/-- A meeting at a voice that gives way is a turn at the voice made free, after which a preempted voice serves on. -/
theorem AtMeeting.meet_of_givesWay (h : AtMeeting s v p d tail e) {w : Bool} (hd : s.decision d.cls p = .audio w)
    (hne : s.currentId p ≠ some d.id) (hgive : s.givesWay p d.cls = true) : v.meet d.id p =
      if s.currentId p = none then (v.cleared p).turn p e (.audio w) else ((v.cleared p).turn p e (.audio w)).servePending p := by
  obtain ⟨hidle, hlower, _⟩ := h.meet_of_audio hd
  cases hcur : s.currentId p with
  | none => rw [if_pos rfl, hidle hcur, State.cleared, h.currentId, hcur]
  | some cur =>
    rw [State.givesWay, hcur] at hgive
    rw [if_neg nofun, hlower cur hcur (fun hc => hne (by rw [hcur, hc])) (of_decide_eq_true hgive), State.cleared, h.currentId, hcur]

end

/-- A list is cut at one place by conditions that agree on its elements. -/
theorem takeWhile_dropWhile_congr {α : Type} {f g : α → Bool} {l : List α} (h : ∀ x ∈ l, f x = g x) :
    l.takeWhile f = l.takeWhile g ∧ l.dropWhile f = l.dropWhile g := by
  induction l with
  | nil => exact ⟨rfl, rfl⟩
  | cons x l ih =>
    obtain ⟨htake, hdrop⟩ := ih fun y hy => h y (List.mem_cons_of_mem _ hy)
    simp only [List.takeWhile_cons, List.dropWhile_cons, h x List.mem_cons_self, htake, hdrop, and_self]

/-! ## What the meeting leaves -/

namespace AtMeeting

variable {s v : State} {p : Port} {d : Descriptor} {tail : AnnTail} {e : Entry}

/-- An outcome fixed at the meeting (R117, R127). -/
theorem pass_spec (h : AtMeeting s v p d tail e) (o : BerthOutcome) :
    (v.pass d.id p o).record? d.id p =
      some { port := p, berth := s.berthNumber p, role := .fixed o, card := (Role.fixed o).shown && s.linkUp p } ∧ (v.pass d.id p o).berth p = s.berth p ∧
    (v.pass d.id p o).berthVoice p = s.berthVoice p ∧
    (v.pass d.id p o).links[p] = if (Role.fixed o).shown && s.linkUp p then
      s.links[p].handCard s.now { caption := d.caption, language := d.language, cls := d.cls, action := .show } else s.links[p] := by
  refine ⟨?_, ?_, (v.pass_berthVoice ..).trans h.voice, ?_⟩
  · rw [State.record?_pass, if_pos ⟨rfl, rfl⟩, h.record, h.turns.linkUp, Option.map_some, BerthRec.fixedTo_of_pending rfl, Bool.or_false]
  · unfold State.pass
    split
    · rw [State.showCard_frame]
      exact h.berth
    · exact h.berth
  · unfold State.pass
    obtain ⟨e', he', hbare⟩ := (v.fix_atPort p d.id o).entry_some h.entry
    obtain ⟨hdesc, _⟩ := Entry.bare_eq hbare
    have hup : (v.fix d.id p o).linkUp p = s.linkUp p := h.turns.linkUp
    have hlink : (v.fix d.id p o).links[p] = s.links[p] := h.link
    have hnow : (v.fix d.id p o).now = s.now := h.now
    cases (Role.fixed o).shown with
    | false => exact hlink
    | true =>
      rw [if_pos rfl, State.showCard_link he', hup, hlink, hnow, Entry.card, hdesc, h.desc, Bool.true_and]

/-- A decision for audio is made while the link is UP (R116). -/
theorem linkUp {c : AnnClass} {w : Bool} (hd : s.decision c p = .audio w) : s.linkUp p = true := by
  by_contra hdown
  rw [State.decision, if_neg hdown] at hd
  exact absurd hd nofun

section
variable {w : Bool} (h : AtMeeting s v p d tail e) (hd : s.decision d.cls p = .audio w) (hne : s.currentId p ≠ some d.id)
  (hgive : s.givesWay p d.cls = true)
include h hd hne

/-- The turn at the voice made free. -/
theorem turned : TurnedAt s (v.cleared p) ((v.cleared p).turn p e (.audio w)) p e ((s.berth p).met (v.cleared p).now w) (s.berth p).hold :=
  (h.cleared hne).turns.turn_audio (linkUp hd) fun hcls => .inl (State.decision_emergency (by
    rw [← hcls, h.desc]
    exact hd))

include hgive

/-- A berth that the decision wakes. -/
theorem roused (hpend : ∀ x ∈ (s.berthVoice p).pending, x.1 ≠ d.id) (hw : w = true) : Roused s (v.meet d.id p) p := by
  have hfree := h.cleared hne
  obtain ⟨hfirst, hnext⟩ := hfree.turns.roused (linkUp hd) hfree.voice hfree.cls fun x hx => hfree.others x.1 (hpend x hx)
  rw [h.meet_of_givesWay hd hne hgive, hw]
  split
  · exact hfirst
  · exact hnext

/-- An announcement that is not too late is taken into the voice. -/
theorem taken (hlate : ¬e.tooLate = true) :
    (v.meet d.id p).berthVoice p = { s.berthVoice p with serving := servingOf tail d.id } ∧
    (v.meet d.id p).record? d.id p = some { port := p, berth := s.berthNumber p, role := .inService, card := true } ∧
    (d.cls = .emergency → ((v.meet d.id p).berth p).hold = true ∧
      ((s.berth p).hold = false → Flushed s.links[p] (v.meet d.id p).links[p])) := by
  have hfree := h.cleared hne
  have hturned := h.turned hd hne
  have hup := linkUp hd
  have hat := (v.cleared p).turn_atPort p e (.audio w)
  have hmeet := h.meet_of_givesWay hd hne hgive
  generalize (v.cleared p).turn p e (.audio w) = t at hturned hat hmeet
  have hvoice : t.berthVoice p = { s.berthVoice p with serving := servingOf tail d.id } := by
    rw [hturned.voice, if_neg hlate, hfree.voice, h.desc, h.serving]
  have hcurrent : t.currentId p = some d.id := by
    rw [State.currentId, hvoice]
    cases tail <;> rfl
  have hclass : t.currentClass p = some d.cls := by
    have hcls := hfree.cls
    rw [h.desc] at hcls
    rw [State.currentClass, hcurrent, Option.bind_some, hat.classOfId, hcls]
  have hserves : t.servePending p = t.settleHold p := by rw [State.servePending, if_neg (by rw [hcurrent]; nofun)]
  rw [hserves] at hmeet
  have hvoices : (v.meet d.id p).voice = t.voice := by
    rw [hmeet]
    split
    · rfl
    · exact t.settleHold_voice p
  refine ⟨?_, ?_, fun hcls => ?_⟩
  · rw [State.berthVoice, hvoices]
    exact hvoice
  · have hrecord := hturned.record
    rw [h.desc] at hrecord
    rw [State.record?_congr (s := t) (by rw [hvoices]), hrecord, hfree.record, Option.map_some, if_neg hlate]
  · have hsame : v.meet d.id p = t := by
      rw [hmeet]
      split
      · rfl
      · exact if_neg (by simp [State.inEmergency, hclass, hcls])
    have halarm := hturned.alarm hlate (by rw [h.desc]; exact hcls)
    rw [hsame]
    refine ⟨?_, fun hhold => ?_⟩
    · obtain ⟨_, _, _, hberth, _⟩ := halarm
      rw [hberth]
    · rw [hhold] at halarm
      exact halarm.flushed hup

/-- What the turn of an announcement leaves at the port, told of the meeting: records of announcements that do not wait. -/
theorem record_kept (hpend : ∀ x ∈ (s.berthVoice p).pending, x.1 ≠ d.id) {o : AnnId}
    (ho : ∀ x ∈ (s.berthVoice p).pending, x.1 ≠ o) :
    (v.meet d.id p).record? o p = ((v.cleared p).turn p e (.audio w)).record? o p := by
  have hfree := h.cleared hne
  have hturned := h.turned hd hne
  have hat := (v.cleared p).turn_atPort p e (.audio w)
  rw [h.meet_of_givesWay hd hne hgive]
  generalize (v.cleared p).turn p e (.audio w) = t at hturned hat
  split
  · rfl
  · by_cases hlate : e.tooLate = true
    · have kt := hturned.calm (.inl hlate)
      have hvoice := hturned.voice
      rw [if_pos hlate, hfree.voice] at hvoice
      exact (Turns.servePending_left ⟨kt.startup, kt.phase, rfl, kt.berth, kt.mid⟩ hvoice
        fun x hx => (hat.entry x.1).trans (hfree.others x.1 (hpend x hx))).2.2.2.2 o ho
    · have hcurrent : t.currentId p ≠ none := by
        rw [State.currentId, hturned.voice, if_neg hlate]
        dsimp only
        split <;> nofun
      rw [State.servePending, if_neg hcurrent, State.record?_congr (s := t) (by rw [State.settleHold_voice])]

/-- An announcement that is too late is MISSED. -/
theorem missed (hpend : ∀ x ∈ (s.berthVoice p).pending, x.1 ≠ d.id) (hlate : e.tooLate = true) :
    (v.meet d.id p).record? d.id p = some { port := p, berth := s.berthNumber p, role := .fixed .missed, card := true } ∧
    (s.currentId p = none → (v.meet d.id p).berthVoice p = s.berthVoice p) := by
  have hturned := h.turned hd hne
  have hrecord := hturned.record
  rw [h.desc, (h.cleared hne).record, Option.map_some, if_pos hlate, BerthRec.fixedTo_of_pending rfl] at hrecord
  refine ⟨(h.record_kept hd hne hgive hpend hpend).trans hrecord, fun hnone => ?_⟩
  have hclear : v.cleared p = v := by rw [State.cleared, h.currentId, hnone]
  rw [h.meet_of_givesWay hd hne hgive, if_pos hnone, hturned.voice, if_pos hlate, hclear, h.voice]

/-- The announcement that is preempted. -/
theorem preempted (hpend : ∀ x ∈ (s.berthVoice p).pending, x.1 ≠ d.id) {cur : AnnId} {r : BerthRec} (hcur : s.currentId p = some cur)
    (hr : s.record? cur p = some r) (hrole : r.role = .inService) (hother : ∀ x ∈ (s.berthVoice p).pending, x.1 ≠ cur) :
    (v.meet d.id p).record? cur p = some { r with role := .fixed (.cut .preempted), card := false } := by
  have hid : cur ≠ e.desc.id := fun hc => hne (by rw [hcur, hc, h.desc])
  rw [h.record_kept hd hne hgive hpend hother, (h.turned hd hne).others cur hid, (h.cleared hne).cut cur r hcur hr hrole]

/-- A voice whose announcement is preempted by one that is too late serves its pending list. -/
theorem serves (hpend : ∀ x ∈ (s.berthVoice p).pending, x.1 ≠ d.id) (hlate : e.tooLate = true) {cur : AnnId}
    (hcur : s.currentId p = some cur) (hother : ∀ x ∈ (s.berthVoice p).pending, x.1 ≠ cur) :
    servesOn s (v.meet d.id p) p (if w then (s.berth p).woken s.now else s.berth p) (s.berthVoice p).pending := by
  have hfree := h.cleared hne
  have hturned := h.turned hd hne
  have hat := (v.cleared p).turn_atPort p e (.audio w)
  rw [h.meet_of_givesWay hd hne hgive, if_neg (by rw [hcur]; nofun)]
  generalize (v.cleared p).turn p e (.audio w) = t at hturned hat
  have kt := hturned.calm (.inl hlate)
  rw [hfree.now] at kt
  have hvoice := hturned.voice
  rw [if_pos hlate, hfree.voice] at hvoice
  refine (Turns.servePending (b := (s.berth p).met s.now w) ⟨kt.startup, kt.phase, rfl, kt.berth, kt.mid⟩ hvoice
    (fun x hx => (hat.entry x.1).trans (hfree.others x.1 (hpend x hx))) fun x hx => ?_).serves
  rw [hturned.others x.1 (by rw [h.desc]; exact hpend x hx), hfree.records x.1 (hpend x hx) fun hc => ?_]
  exact hother x hx (Option.some.inj (hc.symm.trans hcur))

end

/-- An announcement that does not rank above the one in service joins the pending list, the last of four BUSY (R122). -/
theorem joins (h : AtMeeting s v p d tail e) (hpend : ∀ x ∈ (s.berthVoice p).pending, x.1 ≠ d.id) :
    let ahead : AnnId × Time → Bool := fun x => decide (annClassCode d.cls ≤ s.priorityOf x.1)
    let joined := (s.berthVoice p).pending.takeWhile ahead ++ (d.id, s.now) :: (s.berthVoice p).pending.dropWhile ahead
    (v.joinPending p d.id).berthVoice p = { s.berthVoice p with pending := joined.take 3 } ∧
    (v.joinPending p d.id).berth p = s.berth p ∧ (v.joinPending p d.id).links[p] = s.links[p] ∧
    (v.joinPending p d.id).record? d.id p = some { port := p, berth := s.berthNumber p, card := false,
                                                        role := if (joined.drop 3).any (fun x => x.1 == d.id) then .fixed (.declined .busy) else .pending } ∧
    ∀ x r, x ∈ joined.drop 3 → x.1 ≠ d.id → s.record? x.1 p = some r → r.role = .pending →
      (v.joinPending p d.id).record? x.1 p = some { r with role := .fixed (.declined .busy) } := by
  intro ahead joined
  have hjoined : insertBefore (fun x y => decide (v.priorityOf y.1 < v.priorityOf x.1)) (d.id, v.now) (v.berthVoice p).pending =
      joined := by
    have hprio : v.priorityOf d.id = annClassCode d.cls := by
      rw [State.priorityOf, h.entry]
      exact h.priority
    have hahead : ∀ x ∈ (s.berthVoice p).pending, (!decide (v.priorityOf x.1 < v.priorityOf d.id)) = ahead x := fun x hx => by
      rw [hprio, h.priorityOf (hpend x hx), ← decide_not]
      exact decide_eq_decide.mpr Nat.not_lt
    rw [insertBefore_eq, h.voice, h.now]
    dsimp only
    obtain ⟨htake, hdrop⟩ := takeWhile_dropWhile_congr hahead
    rw [htake, hdrop]
  generalize hu : (v.modVoice p fun x => { x with pending := joined.take 3 }).modRec d.id p (fun r => { r with role := .pending }) = u
  have hjoin : v.joinPending p d.id = (joined.drop 3).foldl (fun t x => t.fix x.1 p (.declined .busy)) u := by
    rw [← hu, ← hjoined]
    rfl
  obtain ⟨hframe, hvoices, hrecord⟩ := State.foldl_fix (joined.drop 3) p (.declined .busy) u
  have hfirst : ∀ o, u.record? o p = v.record? o p := fun o => by
    rw [← hu, State.record?_modRec (f := fun r => { r with role := .pending }) _ _ _ fun _ => rfl]
    split
    · next ho =>
      have hself : (v.modVoice p fun x => { x with pending := joined.take 3 }).record? d.id p = v.record? d.id p := rfl
      rw [hself, ho.1, h.record, Option.map_some]
    · rfl
  have hvoice : u.berthVoice p = { v.berthVoice p with pending := joined.take 3 } := by
    rw [← hu]
    exact v.modVoice_self p fun x => { x with pending := joined.take 3 }
  have hkept : u.berth p = v.berth p ∧ u.links[p] = v.links[p] := by
    rw [← hu]
    exact ⟨rfl, rfl⟩
  rw [← hjoin] at hframe hvoices hrecord
  generalize v.joinPending p d.id = t at hframe hvoices hrecord
  refine ⟨?_, ?_, ?_, ?_, fun x r hx ho hr hrole => ?_⟩
  · rw [State.berthVoice, hvoices, ← h.voice]
    exact hvoice
  · rw [hframe]
    exact hkept.1.trans h.berth
  · rw [hframe]
    exact hkept.2.trans h.link
  · have hmem : (joined.drop 3).any (fun x => x.1 == d.id) = true ↔ d.id ∈ (joined.drop 3).map Prod.fst := by
      rw [List.any_eq_true, List.mem_map]
      simp only [beq_iff_eq]
    rw [hrecord, hfirst, h.record]
    by_cases hin : d.id ∈ (joined.drop 3).map Prod.fst
    · rw [if_pos hin, if_pos (hmem.mpr hin)]
      rfl
    · rw [if_neg hin, if_neg (mt hmem.mp hin)]
  · rw [hrecord, if_pos (List.mem_map_of_mem hx), hfirst, h.records x.1 ho, hr, Option.map_some, BerthRec.fixedTo_of_pending hrole]

/-- A targeted berth meets the announcement by its delivery decision (R117). -/
theorem berthMeets (h : AtMeeting s v p d tail e) : berthMeets s (v.meet d.id p) d tail p := by
  refine ⟨fun hd => ?_, fun hd => ?_, fun hd => ?_, fun w hd hne hpend => ?_⟩
  · obtain ⟨hrecord, hberth, hvoice, hlink⟩ := h.pass_spec (.declined .unreachable)
    rw [h.meet_of_pass hd nofun]
    exact ⟨hrecord, hberth, hlink, hvoice⟩
  · obtain ⟨hrecord, hberth, hvoice, hlink⟩ := h.pass_spec (.declined .policy)
    rw [h.meet_of_pass hd nofun]
    exact ⟨hrecord, hberth, hlink, hvoice⟩
  · obtain ⟨hrecord, hberth, hvoice, hlink⟩ := h.pass_spec .caption
    have hup : s.linkUp p = true := by
      by_contra hdown
      rw [State.decision, if_neg hdown] at hd
      exact absurd hd nofun
    rw [h.meet_of_pass hd nofun]
    rw [hup] at hrecord hlink
    exact ⟨hrecord, hberth, hvoice, hlink⟩
  · have hlate := h.late
    refine ⟨fun hw hgive => ?_, fun hgive hnot => ?_, fun hgive hl => ?_, fun cur hcur hlow hl hother => ?_,
      fun cur r hcur hlow hr hrole hother => ?_, fun cur hcur hhigh => ?_⟩
    · exact h.roused hd hne hgive hpend hw
    · obtain ⟨hvoice, hrecord, hemergency⟩ := h.taken hd hne hgive (mt hlate.mp hnot)
      exact ⟨hvoice, hrecord, hemergency⟩
    · exact h.missed hd hne hgive hpend (hlate.mpr hl)
    · exact h.serves hd hne (by rw [State.givesWay, hcur]; exact decide_eq_true hlow) hpend (hlate.mpr hl) hcur hother
    · exact h.preempted hd hne (by rw [State.givesWay, hcur]; exact decide_eq_true hlow) hpend hcur hr hrole hother
    · have hid : cur ≠ d.id := fun hc => hne (by rw [hcur, hc])
      rw [(h.meet_of_audio hd).2.2 cur hcur hid hhigh]
      exact h.joins hpend

end AtMeeting

end Sys2Proof.Machine
end

section
/-! New announcements (R108, R113, R115): O41. -/

namespace Sys2Proof.Machine

/-! ## An announcement that a port has nothing of -/

/-- A voice neither serves an announcement nor has it in its pending list. -/
def State.freeOf (t : State) (id : AnnId) (p : Port) : Prop := t.currentId p ≠ some id ∧ ∀ x ∈ (t.berthVoice p).pending, x.1 ≠ id

section
variable {t u : State} {id : AnnId} {p : Port}

theorem State.freeOf_congr (h : u.berthVoice p = t.berthVoice p) (k : t.freeOf id p) : u.freeOf id p := by
  obtain ⟨hcurrent, hpending⟩ := k
  refine ⟨?_, by rw [h]; exact hpending⟩
  rw [State.currentId, h]
  exact hcurrent

theorem State.freeOf_servePending (k : t.freeOf id p) : (t.servePending p).freeOf id p := by
  by_cases hnone : t.currentId p = none
  · have hidle : t.berthVoice p = { serving := .idle, pending := (t.berthVoice p).pending } := by
      rw [State.currentId] at hnone
      cases hs : (t.berthVoice p).serving with
      | idle => rw [← hs]
      | chime id => rw [hs] at hnone; exact absurd hnone nofun
      | speaking id => rw [hs] at hnone; exact absurd hnone nofun
    have hturns : Turns t t p t.now (t.berth p) (t.berth p).hold := Turns.of_card rfl rfl rfl (.inl rfl)
    exact absent_of_servesOn (hturns.servePending hidle (fun _ _ => rfl) fun _ _ => rfl).serves k.2
  · rw [State.servePending, if_neg hnone]
    refine State.freeOf_congr ?_ k
    rw [State.berthVoice, State.settleHold_voice]
    rfl

theorem State.serve_berthVoice (t : State) (p : Port) (e : Entry) (v : Serving) :
    (t.serve p e v).berthVoice p = { t.berthVoice p with serving := v } := by
  have hserve : (t.serve p e v).voice = (((t.modVoice p fun x => { x with serving := v }).modRec e.desc.id p
      fun r => { r with role := .inService }).showCard e.desc.id p).voice := by
    unfold State.serve
    dsimp only
    split
    · exact State.enterEmergency_voice ..
    · rfl
  have hvoice := t.modVoice_self p fun x => { x with serving := v }
  have hcard := ((t.modVoice p fun x => { x with serving := v }).modRec e.desc.id p
    fun r => { r with role := .inService }).showCard_berthVoice e.desc.id p p
  rw [State.berthVoice, hserve]
  exact hcard.trans hvoice

/-- A turn takes its own announcement into the voice, if any. -/
theorem State.freeOf_turn {e : Entry} (he : e.desc.id ≠ id) (k : t.freeOf id p) (d : Decision) : (t.turn p e d).freeOf id p := by
  obtain ⟨hunreachable, hdecline, hcaption⟩ := t.turn_of_pass p e
  cases d with
  | unreachable => rw [hunreachable]; exact State.freeOf_congr (t.pass_berthVoice ..) k
  | decline => rw [hdecline]; exact State.freeOf_congr (t.pass_berthVoice ..) k
  | caption => rw [hcaption]; exact State.freeOf_congr (t.pass_berthVoice ..) k
  | audio w =>
    have hvoice : (if w = true then t.wake p else t).berthVoice p = t.berthVoice p := by
      cases w with
      | false => rfl
      | true => exact congrArg (fun x : VoiceArb => x.voices[p]) (t.wake_voice p)
    rw [t.turn_audio p e w]
    split
    · exact State.freeOf_congr ((State.pass_berthVoice ..).trans hvoice) k
    · have hserve := State.serve_berthVoice (if w = true then t.wake p else t) p e
        (if e.state = .leadIn then .chime e.desc.id else .speaking e.desc.id)
      rw [hvoice] at hserve
      refine ⟨?_, by rw [hserve]; exact k.2⟩
      rw [State.currentId, hserve]
      dsimp only
      split <;> exact fun hc => he (Option.some.inj hc)

theorem State.freeOf_takeOff (k : t.freeOf id p) (cur : AnnId) (o : BerthOutcome) : (t.takeOff p cur o).freeOf id p := by
  have hvoice := t.takeOff_berthVoice p cur o
  refine ⟨?_, by rw [hvoice]; exact k.2⟩
  rw [State.currentId, hvoice]
  exact nofun

theorem State.freeOf_joinPending {i : AnnId} (hi : i ≠ id) (k : t.freeOf id p) : (t.joinPending p i).freeOf id p := by
  generalize hl : insertBefore (fun x y : AnnId × Time => decide (t.priorityOf y.1 < t.priorityOf x.1)) (i, t.now)
    (t.berthVoice p).pending = l
  have hvoice : (t.joinPending p i).berthVoice p = { t.berthVoice p with pending := l.take 3 } := by
    have hjoin : t.joinPending p i = (l.drop 3).foldl (fun t x => t.fix x.1 p (.declined .busy))
        ((t.modVoice p fun x => { x with pending := l.take 3 }).modRec i p fun r => { r with role := .pending }) := by
      rw [← hl]
      rfl
    obtain ⟨_, hvoices, _⟩ := State.foldl_fix (l.drop 3) p (.declined .busy)
      ((t.modVoice p fun x => { x with pending := l.take 3 }).modRec i p fun r => { r with role := .pending })
    rw [← hjoin] at hvoices
    rw [State.berthVoice, hvoices]
    exact t.modVoice_self p fun x => { x with pending := l.take 3 }
  refine ⟨?_, fun x hx => ?_⟩
  · rw [State.currentId, hvoice]
    exact k.1
  · rw [hvoice] at hx
    have hmem : x ∈ l := List.mem_of_mem_take hx
    rw [← hl, (insertBefore_perm ..).mem_iff, List.mem_cons] at hmem
    obtain rfl | hold := hmem
    · exact hi
    · exact k.2 x hold

/-- A meeting brings its own announcement, if any. -/
theorem State.freeOf_meet {i : AnnId} (hi : i ≠ id) (k : t.freeOf id p) : (t.meet i p).freeOf id p := by
  unfold State.meet
  split
  · exact k
  · next e he =>
    have hid : e.desc.id ≠ id := by rw [State.entry?_id he]; exact hi
    dsimp only
    split
    · split
      · exact State.freeOf_turn hid k _
      · next cur _ =>
        split
        · exact State.freeOf_servePending (State.freeOf_turn hid (State.freeOf_takeOff k cur (.cut .preempted)) _)
        · exact State.freeOf_joinPending hi k
    · exact State.freeOf_turn hid k _

/-- Work at several ports that brings no announcement to any. -/
theorem State.freeOf_foldl {op : State → Port → State} (hop : ∀ s p, AtPort p s (op s p))
    (hkeep : ∀ s p, State.freeOf s id p → (op s p).freeOf id p) (l : List Port) (hl : l.Nodup) (hfree : t.freeOf id p) :
    (l.foldl op t).freeOf id p := by
  obtain ⟨_, hother, hself⟩ := foldl_atPort hop l hl t
  by_cases hp : p ∈ l
  · obtain ⟨v, _, hsame, hlast⟩ := hself p hp
    exact State.freeOf_congr hlast.voice (hkeep v p (State.freeOf_congr hsame.voice hfree))
  · exact State.freeOf_congr (hother p hp).voice hfree

end

/-! ## The entry that a packet brings -/

/-- The state and the blocks of an entry that a packet creates (R108). -/
def entersAs (tail : AnnTail) : EntryState × List SpeechBlock :=
  match tail with
  | .speech i l => (.speech, [{ index := i, samples := l }])
  | _ => (.leadIn, [])

/-- The entry that a packet creates (R108, R115). -/
def State.newEntry (s : State) (d : Descriptor) (tail : AnnTail) : Entry :=
  { desc := d, state := (entersAs tail).1, queue := (entersAs tail).2, playout := .notStarted, lastPacket := s.now,
    recs := (s.targets d).map fun p => { port := p, berth := s.berthNumber p, role := .pending, card := false } }

theorem State.newEntry_tooLate (s : State) (d : Descriptor) (tail : AnnTail) :
    (s.newEntry d tail).tooLate = true ↔ ∃ i l, tail = .speech i l ∧ 2000 < i.toNat := by
  cases tail with
  | speech i l =>
    refine ⟨fun h => ⟨i, l, rfl, of_decide_eq_true h⟩, fun ⟨j, k, hjk, hlate⟩ => ?_⟩
    obtain ⟨rfl, rfl⟩ := AnnTail.speech.inj hjk
    exact decide_eq_true hlate
  | leadIn => exact ⟨nofun, nofun⟩
  | hold => exact ⟨nofun, nofun⟩
  | fin r => exact ⟨nofun, nofun⟩

theorem State.mem_targets_nodup (s : State) (d : Descriptor) : (s.targets d).Nodup := (List.nodup_finRange 12).filter _

/-- The node with a new entry in its table. -/
def State.withEntry (s : State) (d : Descriptor) (tail : AnnTail) : State :=
  { s with voice := { s.voice with table := s.voice.table ++ [s.newEntry d tail] } }

section
variable {s : State} {d : Descriptor} {tail : AnnTail}

theorem State.entry?_withEntry_other {o : AnnId} (ho : o ≠ d.id) : (s.withEntry d tail).entry? o = s.entry? o := by
  have hnew : (s.newEntry d tail).desc.id ≠ o := fun hc => ho hc.symm
  rw [State.entry?, State.withEntry, List.find?_append]
  simp [State.entry?, hnew]

theorem State.entry?_withEntry_self (hnone : s.entry? d.id = none) : (s.withEntry d tail).entry? d.id = some (s.newEntry d tail) := by
  have hold : s.voice.table.find? (fun e => e.desc.id == d.id) = none := hnone
  have hnew : (s.newEntry d tail).desc.id = d.id := rfl
  rw [State.entry?, State.withEntry, List.find?_append, hold]
  simp [hnew]

/-- The record of a targeted port in the new entry. -/
theorem State.record?_withEntry (hnone : s.entry? d.id = none) {p : Port} (hp : p ∈ s.targets d) :
    (s.withEntry d tail).record? d.id p = some { port := p, berth := s.berthNumber p, role := .pending, card := false } := by
  rw [State.record?_of_entry (State.entry?_withEntry_self hnone), State.newEntry, List.find?_map]
  have hport : (s.targets d).find? (fun q => q == p) = some p := by
    cases h : (s.targets d).find? fun q => q == p with
    | none => exact absurd (List.find?_eq_none.mp h p hp) (by simp)
    | some q => exact congrArg some (key_of_find (fun q : Port => q) p h)
  exact congrArg _ hport

/-- The new entry is created, and its targeted berths meet it one after the other (R115, R117). -/
theorem State.createEntry_eq : s.createEntry d (entersAs tail).1 (entersAs tail).2 =
    (s.targets d).foldl (fun t p => t.meet d.id p) (s.withEntry d tail) := rfl

/-- What the creation of an entry leaves: its targeted berths have met it, and nothing else changes. -/
theorem State.createEntry_spec (hnone : s.entry? d.id = none) {t : State}
    (ht : s.createEntry d (entersAs tail).1 (entersAs tail).2 = t) :
    Ported (s.withEntry d tail) t ∧ (∀ p, p ∉ s.targets d → SameAt p (s.withEntry d tail) t) ∧
      ∀ p ∈ s.targets d, ∃ v e, AtMeeting s v p d tail e ∧ SameAt p (v.meet d.id p) t := by
  rw [State.createEntry_eq] at ht
  obtain ⟨hported, hother, hself⟩ := foldl_atPort (op := fun t p => t.meet d.id p) (fun t p => t.meet_atPort p d.id) (s.targets d)
    (s.mem_targets_nodup d) (s.withEntry d tail)
  rw [ht] at hported hother hself
  refine ⟨hported, hother, fun p hp => ?_⟩
  obtain ⟨v, hv, hsame, hlast⟩ := hself p hp
  have hbare := State.entry?_bare hv.table d.id
  rw [State.entry?_withEntry_self hnone] at hbare
  obtain ⟨e, he, hebare⟩ := Option.map_eq_some_iff.mp hbare
  obtain ⟨hdesc, hstate, hqueue, hplayout, _, _⟩ := Entry.bare_eq hebare
  have hlate : e.tooLate = (s.newEntry d tail).tooLate := by rw [Entry.tooLate, Entry.tooLate, hstate, hqueue, hplayout]
  refine ⟨v, e, ⟨hsame.now, hsame.startup, hsame.phase, hsame.berth, hsame.link, hsame.voice, he, hdesc, ?_, ?_, fun o ho => ?_, ?_,
    fun o ho => ?_⟩, hlast⟩
  · rw [hlate]
    exact s.newEntry_tooLate d tail
  · rw [hstate]
    cases tail <;> rfl
  · rw [State.entry?_bare hv.table, State.entry?_withEntry_other ho]
  · rw [hsame.record]
    exact State.record?_withEntry hnone hp
  · rw [hsame.record, State.record?, State.entry?_withEntry_other ho]
    rfl

end

/-! ## What a targeted berth has met stands -/

theorem SameAt.symm {p : Port} {t t' : State} (h : SameAt p t t') : SameAt p t' t :=
  ⟨h.now.symm, h.startup.symm, h.phase.symm, h.berth.symm, h.link.symm, h.voice.symm, fun id => (h.record id).symm,
    fun id => (h.cls id).symm⟩

theorem berthMeets_of_sameAt {p : Port} {s t t' : State} {d : Descriptor} {tail : AnnTail} (h : SameAt p t t')
    (k : berthMeets s t d tail p) : berthMeets s t' d tail p := by
  have hserves : ∀ b l, servesOn s t' p b l ↔ servesOn s t p b l := fun b l => ⟨h.symm.servesOn, h.servesOn⟩
  unfold berthMeets at k ⊢
  simp only [h.record, h.berth, h.link, h.voice, h.screenLevel, hserves]
  exact k

end Sys2Proof.Machine
end

section
/-! The first packet of an announcement: a free place, an eviction, or a decline (R108, R113): O41. -/

namespace Sys2Proof.Machine

/-! ## The entry of lowest priority -/

/-- The step of the search for the entry of lowest priority (R113). -/
def lowerOf (acc : Option Entry) (e : Entry) : Option Entry :=
  match acc with
  | none => some e
  | some a => if e.priority < a.priority then some e else some a

theorem lowestEntry_eq (l : List Entry) : lowestEntry l = l.foldl lowerOf none := rfl

/-- The search from an entry of an earlier part of the list that is the first of its lowest. -/
theorem foldl_lowerOf (l : List Entry) {pre : List Entry} {acc low : Entry}
    (hacc : (∀ e ∈ pre, acc.priority ≤ e.priority) ∧ ∃ a b, pre = a ++ acc :: b ∧ ∀ e ∈ a, acc.priority < e.priority)
    (h : l.foldl lowerOf (some acc) = some low) :
    (∀ e ∈ pre ++ l, low.priority ≤ e.priority) ∧ ∃ a b, pre ++ l = a ++ low :: b ∧ ∀ e ∈ a, low.priority < e.priority := by
  induction l generalizing pre acc with
  | nil =>
    obtain rfl := Option.some.inj h
    rw [List.append_nil]
    exact hacc
  | cons x l ih =>
    obtain ⟨hle, a, b, hpre, hlt⟩ := hacc
    have hsplit : pre ++ x :: l = (pre ++ [x]) ++ l := by rw [List.append_assoc]; rfl
    rw [hsplit]
    rw [List.foldl_cons, lowerOf] at h
    by_cases hx : x.priority < acc.priority
    · rw [if_pos hx] at h
      have hall : ∀ e ∈ pre, x.priority < e.priority := fun e he => Nat.lt_of_lt_of_le hx (hle e he)
      refine ih ⟨fun e he => ?_, pre, [], rfl, hall⟩ h
      obtain he | he := List.mem_append.mp he
      · exact (hall e he).le
      · rw [List.mem_singleton.mp he]
    · rw [if_neg hx] at h
      refine ih ⟨fun e he => ?_, a, b ++ [x], by rw [hpre, List.append_assoc]; rfl, hlt⟩ h
      obtain he | he := List.mem_append.mp he
      · exact hle e he
      · rw [List.mem_singleton.mp he]
        exact Nat.le_of_not_lt hx

/-- The entry of lowest priority, and among equals the first (R113). -/
theorem lowestEntry_spec {l : List Entry} {low : Entry} (h : lowestEntry l = some low) :
    (∀ e ∈ l, low.priority ≤ e.priority) ∧ ∃ a b, l = a ++ low :: b ∧ ∀ e ∈ a, low.priority < e.priority := by
  rw [lowestEntry_eq] at h
  cases l with
  | nil => exact absurd h nofun
  | cons x l =>
    refine foldl_lowerOf l (pre := [x]) ⟨fun e he => ?_, [], [], rfl, nofun⟩ h
    rw [List.mem_singleton.mp he]

/-! ## The entry that a packet has brought -/

/-- The entry of a new announcement, once its targeted berths have met it. -/
theorem entry_of_ported {s t : State} {d : Descriptor} {tail : AnnTail} (hnone : s.entry? d.id = none)
    (h : Ported (s.withEntry d tail) t) : ∃ e, t.entry? d.id = some e ∧ e.desc = d ∧ e.lastPacket = s.now ∧
      e.state = (entersAs tail).1 ∧ e.recs.map BerthRec.port = s.targets d := by
  have hbare := State.entry?_bare h.table d.id
  rw [State.entry?_withEntry_self hnone] at hbare
  obtain ⟨e, he, hebare⟩ := Option.map_eq_some_iff.mp hbare
  obtain ⟨hdesc, hstate, _, _, hlast, hports⟩ := Entry.bare_eq hebare
  refine ⟨e, he, hdesc, hlast, hstate, hports.trans ?_⟩
  rw [State.newEntry, List.map_map]
  exact List.map_id _

section
variable {s : State} {T : Trunk} {d : Descriptor} {tail : AnnTail}

/-- What a berth meets does not depend on the trunk. -/
theorem AtMeeting.of_trunk {v : State} {p : Port} {e : Entry} (h : AtMeeting { s with trunk := T } v p d tail e) :
    AtMeeting s v p d tail e :=
  ⟨h.now, h.startup, h.phase, h.berth, h.link, h.voice, h.entry, h.desc, h.late, h.serving, h.others, h.record, h.records⟩

/-- A new announcement enters a table with room (R108, R115, R117). -/
theorem enters_spec (hnone : s.entry? d.id = none) {t : State}
    (ht : ({ s with trunk := T } : State).createEntry d (entersAs tail).1 (entersAs tail).2 = t) :
    (∃ e, t.entry? d.id = some e ∧ e.desc = d ∧ e.lastPacket = s.now ∧ e.state = (entersAs tail).1 ∧
      e.recs.map BerthRec.port = s.targets d) ∧
    t.voice.table.length = s.voice.table.length + 1 ∧
    (∀ p ∈ s.targets d, berthMeets s t d tail p) ∧
    (∀ p : Port, p ∉ s.targets d → t.berth p = s.berth p ∧ t.links[p] = s.links[p] ∧ t.berthVoice p = s.berthVoice p) ∧
    t = { s with trunk := t.trunk, berths := t.berths, voice := t.voice, links := t.links } := by
  obtain ⟨hported, hother, hself⟩ := State.createEntry_spec (s := { s with trunk := T }) hnone ht
  refine ⟨entry_of_ported (s := { s with trunk := T }) hnone hported, ?_, fun p hp => ?_, fun p hp => ?_, ?_⟩
  · have hlength := congrArg List.length hported.table
    rw [List.length_map, List.length_map] at hlength
    exact hlength.trans List.length_append
  · obtain ⟨v, e, hmeeting, hsame⟩ := hself p hp
    exact berthMeets_of_sameAt hsame hmeeting.of_trunk.berthMeets
  · have hsame := hother p hp
    exact ⟨hsame.berth, hsame.link, hsame.voice⟩
  · rw [hported.frame]
    rfl

/-! ## An eviction -/

/-- The node once an entry has been evicted (R113). -/
def State.evicted (s : State) (low : Entry) : State :=
  { s.removeEntry low (.cut .evicted) (.cut .evicted) with
    voice := { (s.removeEntry low (.cut .evicted) (.cut .evicted)).voice with
      eviction := bump (s.removeEntry low (.cut .evicted) (.cut .evicted)).voice.eviction } }

/-- An entry is evicted, the new announcement enters, and the voices freed serve on (R113). -/
theorem evicts_spec (hnone : s.entry? d.id = none) {low : Entry} (hlow : low ∈ s.voice.table) {t : State}
    (ht : (allPorts.filter (s.serves low.desc.id)).foldl State.servePending
      ((({ s with trunk := T } : State).evicted low).createEntry d (entersAs tail).1 (entersAs tail).2) = t) :
    t.entry? low.desc.id = none ∧ low.desc.id ∈ t.voice.closed ∧ (∀ p, t.freeOf low.desc.id p) ∧
    (∃ e, t.entry? d.id = some e ∧ e.desc = d ∧ e.recs.map BerthRec.port = s.targets d) ∧
    (∀ p : Port, p ∉ s.targets d → (∀ x ∈ (s.berthVoice p).pending, x.1 ≠ d.id) →
      let rest := (s.berthVoice p).pending.filter fun x => x.1 ≠ low.desc.id
      (s.currentId p = some low.desc.id → servesOn s t p (s.berth p) rest) ∧
      (s.currentId p ≠ some low.desc.id →
        t.berth p = s.berth p ∧ t.berthVoice p = { s.berthVoice p with pending := rest })) ∧
    t.voice.eviction = bump s.voice.eviction ∧
    t = { s with trunk := t.trunk, berths := t.berths, voice := t.voice, links := t.links } ∧
    (s.running = true → t.trunk = T.fed (handedBy { s with trunk := T } { s with trunk := T } (low.ackOf (.cut .evicted) (.cut .evicted)))) := by
  have hid : low.desc.id ≠ d.id := fun hc => absurd (List.find?_eq_none.mp hnone low hlow) (by simp [hc])
  obtain ⟨e₀, he₀⟩ : ∃ e₀, ({ s with trunk := T } : State).entry? low.desc.id = some e₀ := by
    cases he : ({ s with trunk := T } : State).entry? low.desc.id with
    | none => exact absurd (List.find?_eq_none.mp he low hlow) (by simp)
    | some e₀ => exact ⟨e₀, rfl⟩
  have hremoved := State.removeEntry_spec he₀ (.cut .evicted) (.cut .evicted)
  rw [State.evicted] at ht
  generalize State.removeEntry _ low (.cut .evicted) (.cut .evicted) = u at ht hremoved
  generalize hw : ({ u with voice := { u.voice with eviction := bump u.voice.eviction } } : State) = w at ht
  have hframe : w = { s with trunk := w.trunk, voice := w.voice, links := w.links } := by
    rw [← hw, hremoved.frame]
  have hwentry : ∀ o, w.entry? o = u.entry? o := fun o => by rw [← hw]; rfl
  have hwnone : w.entry? d.id = none := by
    rw [hwentry, hremoved.kept d.id (Ne.symm hid)]
    exact hnone
  have hwvoice : ∀ p, w.berthVoice p = (s.berthVoice p).without low.desc.id := fun p => by
    rw [← hw]
    exact hremoved.voice p
  have htargets : w.targets d = s.targets d := by
    rw [hframe]
    rfl
  have hwberth : ∀ p, w.berth p = s.berth p := fun p => by
    rw [hframe]
    rfl
  have hmem : ∀ p, p ∈ allPorts.filter (s.serves low.desc.id) ↔ s.currentId p = some low.desc.id := fun p => by
    refine List.mem_filter.trans ((and_iff_right (List.mem_finRange p)).trans ?_)
    rw [State.serves, beq_iff_eq]
  have hnodup : (allPorts.filter (s.serves low.desc.id)).Nodup := (List.nodup_finRange 12).filter _
  generalize allPorts.filter (s.serves low.desc.id) = freed at ht hmem hnodup
  obtain ⟨hcreated, hcreatedOther, _⟩ := State.createEntry_spec hwnone (tail := tail) rfl
  have hfreed : ∀ p, (w.createEntry d (entersAs tail).1 (entersAs tail).2).freeOf low.desc.id p →
      (freed.foldl State.servePending (w.createEntry d (entersAs tail).1 (entersAs tail).2)).freeOf low.desc.id p := fun p =>
    State.freeOf_foldl State.servePending_atPort (fun v p => State.freeOf_servePending) freed hnodup
  obtain ⟨hserved, hservedOther, hservedSelf⟩ := foldl_atPort State.servePending_atPort freed hnodup
    (w.createEntry d (entersAs tail).1 (entersAs tail).2)
  have hmet : ∀ p, (w.createEntry d (entersAs tail).1 (entersAs tail).2).freeOf low.desc.id p := fun p => by
    rw [State.createEntry_eq]
    refine State.freeOf_foldl (fun v q => v.meet_atPort q d.id) (fun v q => State.freeOf_meet (Ne.symm hid)) _
      (w.mem_targets_nodup d) ?_
    have hvoice : (w.withEntry d tail).berthVoice p = (s.berthVoice p).without low.desc.id := hwvoice p
    refine ⟨?_, fun x hx => ?_⟩
    · rw [State.currentId, hvoice, Voice.without]
      dsimp only
      split
      · exact nofun
      · next h => exact h
    · rw [hvoice] at hx
      exact of_decide_eq_true (List.mem_filter.mp hx).2
  rw [ht] at hfreed hserved hservedOther hservedSelf
  generalize w.createEntry d (entersAs tail).1 (entersAs tail).2 = c at hcreated hcreatedOther hserved hservedOther hservedSelf hmet hfreed
  have hall := hcreated.trans hserved
  have hvoices : t.voice = { w.voice with table := t.voice.table, voices := t.voice.voices } := by
    rw [hall.frame]
    rfl
  refine ⟨hall.entry_none ?_, ?_, fun p => hfreed p (hmet p), ?_, fun p hp hpend => ⟨fun hcur => ?_, fun hcur => ?_⟩, ?_, ?_, fun hrun => ?_⟩
  · rw [State.entry?_withEntry_other hid, hwentry]
    exact hremoved.gone
  · rw [hvoices, ← hw]
    exact hremoved.closed
  · obtain ⟨e, he, hdesc, _, _, hports⟩ := entry_of_ported hwnone hall
    exact ⟨e, he, hdesc, hports.trans htargets⟩
  · obtain ⟨v, hv, hsame, hlast⟩ := hservedSelf p ((hmem p).mpr hcur)
    have hsame' := (hcreatedOther p (by rw [htargets]; exact hp)).trans hsame
    have hkept : ∀ x ∈ (s.berthVoice p).pending.filter (fun x => x.1 ≠ low.desc.id), (w.withEntry d tail).entry? x.1 = s.entry? x.1 :=
      fun x hx => by
      obtain ⟨hx, hlow'⟩ := List.mem_filter.mp hx
      rw [State.entry?_withEntry_other (hpend x hx), hwentry, hremoved.kept x.1 (of_decide_eq_true hlow')]
      rfl
    have hturns : Turns s v p v.now (s.berth p) (s.berth p).hold := by
      refine Turns.of_card (hsame'.startup.trans ?_) (hsame'.phase.trans ?_) (hsame'.berth.trans (hwberth p)) ?_
      · rw [State.withEntry, hframe]
      · rw [State.withEntry, hframe]
      · have hlink : (w.withEntry d tail).links[p] = u.links[p] := by rw [← hw]; rfl
        rw [hsame'.link, hlink, hremoved.link]
        split
        · exact .inr ⟨_, _, rfl⟩
        · exact .inl rfl
    refine hlast.servesOn (hturns.servePending (hsame'.voice.trans ((hwvoice p).trans (Voice.without_of_current hcur)))
      (fun x hx => ?_) fun x hx => ?_).serves
    · rw [State.entry?_bare hv.table, State.entry?_bare hcreated.table, hkept x hx]
    · rw [hsame'.record, State.record?, hkept x hx]
      rfl
  · have hsame := (hcreatedOther p (by rw [htargets]; exact hp)).trans (hservedOther p (mt (hmem p).mp hcur))
    exact ⟨hsame.berth.trans (hwberth p), hsame.voice.trans ((hwvoice p).trans (Voice.without_of_other hcur))⟩
  · rw [hvoices, ← hw, hremoved.frame]
  · rw [hall.frame, hframe]
    rfl
  · have htrunk : t.trunk = u.trunk := by
      rw [hall.frame, ← hw]
      rfl
    rw [htrunk]
    exact hremoved.trunk hrun

end

/-! ## The packet -/

section
variable {s : State} {d : Descriptor} {tail : AnnTail}

theorem State.takeAnnounce_of_closed (hclosed : d.id ∈ s.voice.closed) : s.takeAnnounce d tail = s := by
  unfold State.takeAnnounce
  rw [if_pos hclosed, ite_self]

/-- A packet of an unknown id is a new announcement, but for an END (R108). -/
theorem State.takeAnnounce_of_unknown (hrun : s.running = true) (hopen : d.id ∉ s.voice.closed) (hnone : s.entry? d.id = none) :
    (∀ r, tail = .fin r → s.takeAnnounce d tail = s) ∧
    ((¬∃ r, tail = .fin r) → s.takeAnnounce d tail = s.newAnnouncement d (entersAs tail).1 (entersAs tail).2) := by
  unfold State.takeAnnounce
  rw [if_pos hrun, if_neg hopen, hnone]
  cases tail with
  | fin r => exact ⟨fun _ _ => rfl, fun h => absurd ⟨r, rfl⟩ h⟩
  | speech i l => exact ⟨nofun, fun _ => rfl⟩
  | leadIn => exact ⟨nofun, fun _ => rfl⟩
  | hold => exact ⟨nofun, fun _ => rfl⟩

/-- A LEAD_IN or HOLD packet of a held id renews its last packet (R108). -/
theorem State.takeAnnounce_of_held (hrun : s.running = true) (hopen : d.id ∉ s.voice.closed) {e : Entry} (he : s.entry? d.id = some e)
    (htail : tail = .leadIn ∨ tail = .hold) : s.takeAnnounce d tail = s.modEntry d.id fun x => { x with lastPacket := s.now } := by
  have hid : e.desc.id = d.id := State.entry?_id he
  unfold State.takeAnnounce
  rw [if_pos hrun, if_neg hopen, he, ← hid]
  obtain rfl | rfl := htail <;> rfl

/-- The three ends of a new announcement (R113). -/
theorem State.newAnnouncement_cases (st : EntryState) (q : List SpeechBlock) :
    (s.voice.table.length < 4 → s.newAnnouncement d st q = s.createEntry d st q) ∧
    ∀ low, 4 ≤ s.voice.table.length → lowestEntry s.voice.table = some low →
      (low.priority < annClassCode d.cls → s.newAnnouncement d st q =
        (allPorts.filter (s.serves low.desc.id)).foldl State.servePending ((s.evicted low).createEntry d st q)) ∧
      (annClassCode d.cls ≤ low.priority → s.newAnnouncement d st q =
        let t := (s.sendAck d.id ((s.targets d).map fun p => { berth := s.berthNumber p, outcome := .declined .nodeFull })).closeId d.id
        { t with voice := { t.voice with nodeFull := bump t.voice.nodeFull } }) := by
  unfold State.newAnnouncement
  refine ⟨fun hroom => if_pos hroom, fun low hfull hlow => ?_⟩
  rw [if_neg (Nat.not_lt.mpr hfull), hlow]
  exact ⟨fun hranks => if_pos hranks, fun hranks => if_neg (Nat.not_lt.mpr hranks)⟩

/-- An announcement that a full table turns away (R113, R128). -/
theorem declined_spec {T : Trunk} {items : List AckItem} {t u : State} (hrun : s.running = true)
    (hu : u = (({ s with trunk := T } : State).sendAck d.id items).closeId d.id)
    (ht : t = { u with voice := { u.voice with nodeFull := bump u.voice.nodeFull } }) :
    t.trunk = T.fed (handedBy { s with trunk := T } { s with trunk := T } (.ack d.id (totalsOf items) items)) ∧
    d.id ∈ t.voice.closed ∧
    t = { s with trunk := t.trunk, voice := { s.voice with nodeFull := bump s.voice.nodeFull, closed := t.voice.closed } } := by
  rw [State.sendAck, State.handOver_of_running (s := { s with trunk := T }) hrun] at hu
  have hvoice : u.voice = { s.voice with closed := (pushDropOldest 8 s.voice.closed d.id).1 } := by
    rw [hu]
    rfl
  have hclosed : t.voice.closed = (pushDropOldest 8 s.voice.closed d.id).1 := by rw [ht, hvoice]
  refine ⟨by rw [ht, hu]; rfl, by rw [hclosed]; exact mem_pushDropOldest 8 s.voice.closed d.id, ?_⟩
  rw [hclosed]
  rw [ht, hvoice, hu]
  rfl

end

/-- Settles O41. -/
theorem announcementsEnterTheTable : Obligations.AnnouncementsEnterTheTable := by
  refine ⟨fun i s source d tail hpacket hsource hrun hbody => ?_, fun l low hlow => lowestEntry_spec hlow⟩
  have hexec : exec i s = .next ((s.heard source).takeAnnounce d tail) :=
    (exec_of_receivedPacket s hpacket).trans (congrArg Host.Outcome.next (State.receive_of_takesFrom (b := .announce d tail) hsource hbody))
  have hheard : s.heard source = { s with trunk := (s.heard source).trunk } := rfl
  have hrun' : (s.heard source).running = true := hrun
  refine ⟨_, hexec, fun hclosed => State.takeAnnounce_of_closed hclosed, fun hopen hnone ⟨r, hr⟩ =>
    (State.takeAnnounce_of_unknown hrun' hopen hnone).1 r hr, fun hopen hnone htail => ?_, fun e hopen he htail => ?_⟩
  · have hnew := (State.takeAnnounce_of_unknown hrun' hopen hnone).2 htail
    obtain ⟨hroom, hfull⟩ := State.newAnnouncement_cases (s := s.heard source) (d := d) (entersAs tail).1 (entersAs tail).2
    refine ⟨fun hlength => ?_, fun low hlength hlow hranks => ?_, fun low hlength hlow hranks => ?_⟩
    · obtain ⟨⟨e, he, hdesc, hlast, hstate, hports⟩, hrest⟩ := enters_spec (T := (s.heard source).trunk) hnone
        (hnew.trans (hroom hlength)).symm
      exact ⟨⟨e, he, hdesc, hlast, hstate.trans (by cases tail <;> rfl), hports⟩, hrest⟩
    · obtain ⟨hgone, hclosed, hfree, hentry, hports, hcount, hframe, htrunk⟩ := evicts_spec (T := (s.heard source).trunk) hnone
        (lowestEntry_mem hlow) (hnew.trans ((hfull low hlength hlow).1 hranks)).symm
      refine ⟨hgone, hclosed, hfree, hentry, hports, hcount, hframe, ?_⟩
      exact queuedA_of_handed (s := s.heard source) (s0 := s.heard source) rfl (by rw [hframe]; rfl) rfl (htrunk hrun)
    · obtain ⟨htrunk, hclosed, hframe⟩ := declined_spec (T := (s.heard source).trunk) hrun rfl
        (hnew.trans ((hfull low hlength hlow).2 hranks))
      refine ⟨?_, hclosed, hframe⟩
      exact queuedA_of_handed (s := s.heard source) (s0 := s.heard source) rfl (by rw [hframe]; rfl) rfl htrunk
  · rw [State.takeAnnounce_of_held hrun' hopen he htail]
    have hentry : ∀ o, ((s.heard source).modEntry d.id fun x => { x with lastPacket := (s.heard source).now }).entry? o =
        if o = d.id then ((s.heard source).entry? d.id).map fun x => { x with lastPacket := (s.heard source).now }
        else (s.heard source).entry? o := fun o => State.entry?_modEntry _ d.id o fun _ => rfl
    refine ⟨rfl, ?_, fun o ho => (hentry o).trans (if_neg ho)⟩
    refine ((hentry d.id).trans (if_pos rfl)).trans ?_
    have hsame : (s.heard source).entry? d.id = some e := he
    rw [hsame]
    rfl

end Sys2Proof.Machine
end
